-- ==== Sys2Proof/Word.lean ====
section
/-!
DEFINITION. The word types of the panel: 64-bit registers and integer registers, bytes of memory,
128-bit commands and skein words, and the sparse table every large array of the panel is held in.
-/

namespace Sys2Proof

/-- A 64-bit register, integer register or store word (R35, R455). -/
abbrev Word := BitVec 64

/-- One byte of a memory. -/
abbrev Byte := BitVec 8

/-- A 128-bit sequencer command or digest (R47, R332). -/
abbrev Cmd := BitVec 128

/-- A sparse table: entries by rising index; an index not listed holds the table's default value. -/
abbrev SMap (α : Type) := List (Nat × α)

end Sys2Proof
end

