-- ==== Sys2Proof/Syntax.lean ====
section
/-!
DEFINITION. The commands the block takes: one constructor for each row of the table of operations and events.
Operands: `port` 0 is host port A, 1 is B; `p` a physical cluster; `w` of a sequencer command the 128-bit word the
sequencer fetched (R47); `e` an endpoint; `ix` a position in a list of the state (packets, transfers, waiters);
`j` a partition; `h` a hank; `n` a link, engine or slot; `q` a fabric port; the readings and findings a
physical event brings are operands (log entry 8).
-/

namespace Sys2Proof

/-- What an access finds in the lines it touches (R202, R203): the places of those found uncorrectable and of those corrected, the
corrections made inside the stack, and the interface errors that were retried. -/
structure LineCheck where
  uncorr : List Nat
  corr : List Nat
  stack : Nat
  retries : Nat
  deriving DecidableEq, Repr

/-- A command of the block: an operation from a host, another panel or a pin, or the next whole step of an engine. -/
inductive Instr where
  /-- NOP (R49): Sequencer executes NOP, which acts as a full fence when SYNC is set. -/
  | nop (p : Nat) (w : Cmd)
  /-- HALT (R49): Sequencer ends the stream and goes to IDLE once all earlier commands complete. -/
  | halt (p : Nat) (w : Cmd)
  /-- BR (R51): Conditional relative branch on two integer registers; COND 7 always branches. -/
  | br (p : Nat) (w : Cmd)
  /-- CALL (R58): Pushes PC + 1 and branches; a ninth level faults with CALL_DEPTH. -/
  | call (p : Nat) (w : Cmd)
  /-- RET (R58): Pops the call stack and branches, faulting on an empty stack or an open callee loop. -/
  | ret (p : Nat) (w : Cmd)
  /-- LOOP (R58): Opens a hardware loop over the following BODY commands, C times. -/
  | loop (p : Nat) (w : Cmd)
  /-- BSK (R59): Reads a skein and branches on its value or on a non-OK status. -/
  | bsk (p : Nat) (w : Cmd)
  /-- LDI (R49): Loads a 64-bit immediate into an integer register. -/
  | ldi (p : Nat) (w : Cmd)
  /-- ADDI (R49): Adds a sign-extended 32-bit immediate to a register. -/
  | addi (p : Nat) (w : Cmd)
  /-- ALU (R52): Integer operation selected by FUNC on two registers. -/
  | alu (p : Nat) (w : Cmd)
  /-- LDS (R52): Loads a 64-bit word from cluster store into a register. -/
  | lds (p : Nat) (w : Cmd)
  /-- STS (R52): Stores a register as a 64-bit word into cluster store. -/
  | sts (p : Nat) (w : Cmd)
  /-- GETS (R52): Reads a special value selected by SEL into a register. -/
  | gets (p : Nat) (w : Cmd)
  /-- SKSLOT (R51): Writes a skein ID into a sequencer skein slot. -/
  | skslot (p : Nat) (w : Cmd)
  /-- SKOP (R251): Issues a skein operation on the skein in a slot, waiting unless ASYNC. -/
  | skop (p : Nat) (w : Cmd)
  /-- DSTART (R98): Reads and checks a draft descriptor and starts or queues it on an engine. -/
  | dstart (p : Nat) (w : Cmd)
  /-- DSTOP (R115): Stops a draft engine, draining or abandoning its outstanding reads. -/
  | dstop (p : Nat) (w : Cmd)
  /-- TMMA (R38): Starts one exact accumulation pass of K terms into an accumulator set. -/
  | tmma (p : Nat) (w : Cmd)
  /-- TDRAIN (R50): Converts an accumulator set to an output format and writes it. -/
  | tdrain (p : Nat) (w : Cmd)
  /-- TEXPORT (R81): Sends an accumulator set as long words toward a winder. -/
  | texport (p : Nat) (w : Cmd)
  /-- TWIN (R50): Sets the window shift step and retry limit for later passes. -/
  | twin (p : Nat) (w : Cmd)
  /-- VLD (R52): Loads a vector register from store with conversion to FP32. -/
  | vld (p : Nat) (w : Cmd)
  /-- VST (R52): Stores a vector register to store with conversion. -/
  | vst (p : Nat) (w : Cmd)
  /-- VOP (R41): Lanewise FP32 arithmetic selected by VOPC. -/
  | vop (p : Nat) (w : Cmd)
  /-- VFN (R42): Elementwise function from the firmware function table. -/
  | vfn (p : Nat) (w : Cmd)
  /-- VRED (R43): Reduces 512 lanes along a fixed pairwise tree. -/
  | vred (p : Nat) (w : Cmd)
  /-- PUT (R52): Copies store bytes to a local or global address as WR packets. -/
  | put (p : Nat) (w : Cmd)
  /-- GET (R52): Copies bytes from an address into store as RD packets. -/
  | get (p : Nat) (w : Cmd)
  /-- ATOM (R199): Issues a near-memory atomic operation and returns the old value. -/
  | atom (p : Nat) (w : Cmd)
  /-- NOTICE (R382): Reads a power notice record and posts it to the hank. -/
  | notice (p : Nat) (w : Cmd)
  /-- SEQ_WAIT_END (R53): A wait on a skein, SYNC, interlock or full queue ends and issue resumes. -/
  | seqWaitEnd (p : Nat)
  /-- UNIT_COMMAND_COMPLETE (R57): A unit command reaches its completion point. -/
  | unitCommandComplete (p : Nat) (id : Nat)
  /-- TENSOR_PASS_END (R72): A tensor pass ends clean, after retries, or wrapped. -/
  | tensorPassEnd (p : Nat) (errs : List (Nat × Nat))
  /-- TENSOR_OVERFLOW_RETRY (R40): Overflow detected: set cleared, operands rewound and pass rerun at a raised window base. -/
  | tensorOverflowRetry (p : Nat)
  /-- TENSOR_SLOT_CONSUMED (R105): Tensor engine reads the last line of a ring slot and adds 1 to RSK. -/
  | tensorSlotConsumed (p : Nat) (n : Nat)
  /-- CST_PATROL_SCRUB (R46): Patrol scrub reads every cluster store word once per 60 s. -/
  | cstPatrolScrub (p : Nat) (first : Nat) (count : Nat) (upsets : List (Nat × Bool))
  /-- DRAFT_DESC_ACCEPT (R114): A queued DSTART is accepted once its engine reaches DONE or STOPPED. -/
  | draftDescAccept (p : Nat) (n : Nat)
  /-- DRAFT_READ_RESPONSE (R118): A draft source read completes and its data or poison is written to the slot or destination. -/
  | draftReadResponse (ix : Nat)
  /-- DRAFT_RELEASE (R113): RSK grows while the engine is FULL and filling resumes. -/
  | draftRelease (p : Nat) (n : Nat)
  /-- DRAFT_CHUNK_ACKED (R106): All writes of a COPY chunk are acknowledged and FSK receives ADD +1. -/
  | draftChunkAcked (p : Nat) (n : Nat)
  /-- DRAFT_WALK_END (R107): Walk ends with all writes acknowledged; engine enters DONE and CSK may receive ADD. -/
  | draftWalkEnd (p : Nat) (n : Nat)
  /-- PACKET_HOP (R142): A packet arrives at a router or injection point and is forwarded, ejected or delivered. -/
  | packetHop (ix : Nat)
  /-- COMB_SLOT_FLUSH (R159): A combining slot open for 50 µs is flushed onward as a partial sum. -/
  | combSlotFlush (ix : Nat)
  /-- RESPONSE_ARRIVAL (R135): A response is placed by FLOW and SEQ and the transfer completes when all have. -/
  | responseArrival (ix : Nat)
  /-- TRANSFER_TIMEOUT (R136): A transfer not completed 200 µs after its last packet completes with TIMEOUT. -/
  | transferTimeout (ix : Nat)
  /-- DABIN_LINK_LOSS_REPLAY (R145): Sender learns the partner's last accepted sequence and resends unaccepted packets. -/
  | dabinLinkLossReplay (n : Nat) (fwd : Bool) (accepted : Nat)
  /-- ENDPOINT_ABSENT_CLEANUP (R146): Requesters complete outstanding transfers toward an absent endpoint. -/
  | endpointAbsentCleanup (e : Nat)
  /-- LIVE_BLOCK_UPDATE (R143): LIVE bits are set for paths crossing a newly absent die, hank or link. -/
  | liveBlockUpdate
  /-- LBSCAN (R143): Host write recomputes LIVE on every die. -/
  | lbscan (port : Nat)
  /-- RTR_TBL_DATA_WRITE (R148): Writes a route-table word to the selected bank, subject to discard rules. -/
  | rtrTblDataWrite (port : Nat) (e : Nat) (v : Word)
  /-- RTR_TBL_DATA_READ (R161): Reads the selected route-table word, stepping INDEX with AUTO. -/
  | rtrTblDataRead (port : Nat) (e : Nat)
  /-- RTR_BROADCAST_WRITE (R163): A table write on page 511 applies to every present die. -/
  | rtrBroadcastWrite (port : Nat) (off : Nat) (v : Word)
  /-- RTR_TSEL_SNAP (R160): Copies every telemetry count of the page at one instant. -/
  | rtrTselSnap (port : Nat) (e : Nat) (v : Word)
  /-- EPOCH_WRITE (R152): Host write of WHL_RTEPOCH.E commits the staged generation or is discarded. -/
  | epochWrite (port : Nat) (ep : Nat)
  /-- EPOCH_SWITCH_ACK (R151): An injection point switches epoch and acknowledges; the last ack enters DRAINING. -/
  | epochSwitchAck (e : Nat)
  /-- EPOCH_DRAIN_SWEEP (R151): Whorl die runs the two-sweep residue check over every present die. -/
  | epochDrainSweep
  /-- DIST_UPDATE (R34): Distance-table entries take new content and EV_DIST_CHANGE is raised. -/
  | distUpdate (pair : Option (Nat × Nat))
  /-- OPT_PACKET_RECEIVE (R167): Receiver acknowledges an optical packet and discards duplicates or FEC failures. -/
  | optPacketReceive (ix : Nat) (ok : Bool)
  /-- OPT_ACK_RECEIVE (R167): Sender releases an acknowledged packet from the pair's replay buffer. -/
  | optAckReceive (a : Nat) (b : Nat) (lseq : Nat)
  /-- OPT_RESEND_TIMEOUT (R167): An unacknowledged packet is resent on the next in-service plane after 400 ns. -/
  | optResendTimeout (a : Nat) (b : Nat) (lseq : Nat)
  /-- OPT_MARGIN_WINDOW (R168): A channel is classed GOOD, THIN, POOR or DOWN over a 1 ms window. -/
  | optMarginWindow (a : Nat) (b : Nat) (plane : Nat) (cls : Nat) (corr : Nat) (uncorr : Nat)
  /-- OPT_RETUNE_DONE (R168): Ring retuning of a POOR channel ends in return to service or failure. -/
  | optRetuneDone (a : Nat) (b : Nat) (plane : Nat) (ok : Bool)
  /-- PLANE_RELOCK_START (R169): A queued plane re-lock starts and takes the plane out of service. -/
  | planeRelockStart
  /-- PLANE_RELOCK_END (R169): A plane re-lock ends and locked channels return to service. -/
  | planeRelockEnd (plane : Nat) (failed : List (Nat × Nat))
  /-- RLREQ (R169): Host queues a re-lock of the plane in RLPLANE. -/
  | rlreq (port : Nat) (plane : Nat)
  /-- LASER_LOCK_LOSS (R170): A comb laser loses lock and both its planes leave service; a restart begins. -/
  | laserLockLoss (die : Nat)
  /-- LASER_RESTART_DONE (R170): A comb restart succeeds and re-locks its planes, or fails and sets LASERBAD. -/
  | laserRestartDone (die : Nat) (ok : Bool)
  /-- CALSTART (R173): Host starts optical calibration. -/
  | calstart (port : Nat)
  /-- OPT_CAL_DONE (R173): Calibration ends DONE with OPTRDY set, or FAILED. -/
  | optCalDone (bad : List Nat) (classes : List (Nat × Nat × Nat × Nat)) (lats : List (Nat × Nat))
  /-- DABIN_FRAME_REFUSED (R175): A frame with bad CRC is refused and resent from the replay buffer. -/
  | dabinFrameRefused (n : Nat) (fwd : Bool) (frames : Nat)
  /-- DABIN_BUDGET_WINDOW (R175): A 10 ms window over the replay budget counts BUDX and scores the link. -/
  | dabinBudgetWindow (n : Nat)
  /-- DABIN_TRAIN_STATE_DONE (R176): A Dabin training state completes and the link moves on. -/
  | dabinTrainStateDone (n : Nat) (bad : List Nat)
  /-- DABIN_TRAIN_TIMEOUT (R176): A training state exceeds ten times its typical time and ends as the table shows. -/
  | dabinTrainTimeout (n : Nat) (bad : List Nat)
  /-- DABIN_CAP_EXCHANGE (R182): Capability blocks are exchanged and accepted or the link goes ABSENT. -/
  | dabinCapExchange (n : Nat) (cap : Word)
  /-- DABIN_LANE_PARITY_WINDOW (R178): A lane with 16 parity errors in 1 ms is marked bad and swapped to a spare. -/
  | dabinLaneParityWindow (n : Nat) (fwd : Bool) (lane : Nat) (errs : Nat)
  /-- DABIN_RECAL_DONE (R178): An in-service lane swap or recalibration completes and traffic resumes. -/
  | dabinRecalDone (n : Nat) (good : List Nat)
  /-- DBL_RETRAIN (R180): Host retrains a Dabin link from DOWN. -/
  | dblRetrain (port : Nat) (n : Nat)
  /-- DBL_RECAL (R178): Host retrains spare and bad lanes while active lanes carry traffic. -/
  | dblRecal (port : Nat) (n : Nat)
  /-- DBL_HOLD (R180): Host holds the link ABSENT with cause HOLD. -/
  | dblHold (port : Nat) (n : Nat) (hold : Bool)
  /-- ELASTIC_RECENTRE (R350): An elastic buffer near empty or full is recentred behind XOFF. -/
  | elasticRecentre (n : Nat)
  /-- DISC_START (R188): Host starts link training and discovery. -/
  | discStart (port : Nat)
  /-- DISCOVERY (R183): Whorl die places compute dies from link reports and the fuse map. -/
  | discovery (reports : List (Nat × Nat))
  /-- MEM_READ (R196): A memory endpoint serves an RD to tier 1 or tier 2. -/
  | memRead (ix : Nat) (uncorr : List Nat) (corr : List Nat) (stack : Nat) (retries : Nat)
  /-- MEM_WRITE (R196): A memory endpoint writes a WR, merging partial lines under ECC. -/
  | memWrite (ix : Nat) (uncorr : List Nat) (corr : List Nat) (stack : Nat) (retries : Nat)
  /-- MEM_ATOMIC (R199): The owning endpoint performs an atomic operation on a word. -/
  | memAtomic (ix : Nat) (found : LineCheck)
  /-- MEM_PATROL_SCRUB (R204): Patrol scrub reads each tier line once per SCRUBH hours. -/
  | memPatrolScrub (e : Nat) (first : Nat) (count : Nat) (uncorr : List Nat) (corr : List Nat) (stack : Nat) (retries : Nat)
  /-- MBD_RETREQ (R206): Host requests retirement of tier-1 channel RETCH. -/
  | mbdRetreq (port : Nat) (m : Nat) (ch : Nat)
  /-- CHANNEL_MIGRATION_DONE (R206): Channel migration completes and MIG reads DONE. -/
  | channelMigrationDone (m : Nat) (bad : List Nat)
  /-- IOD_RETREQ (R207): Host retires tier-2 package RETPKG, which becomes a hole. -/
  | iodRetreq (port : Nat) (k : Nat) (pkg : Nat)
  /-- TUB_PSTART (R218): Host starts training of every fabric port not held. -/
  | tubPstart (port : Nat)
  /-- PORT_TRAIN_STATE_DONE (R218): A fabric port training state completes. -/
  | portTrainStateDone (q : Nat) (bad : List Nat)
  /-- PORT_TRAIN_TIMEOUT (R218): A port training state exceeds ten times its typical time. -/
  | portTrainTimeout (q : Nat) (bad : List Nat)
  /-- PORT_CAP_EXCHANGE (R220): Fabric capability blocks are exchanged and checked for version, domain and cabling. -/
  | portCapExchange (q : Nat) (cap : Word) (cable : Nat)
  /-- PORT_LANE_CLASS_WINDOW (R219): Each fabric lane is classed every 1 ms; a POOR lane retrains the port. -/
  | portLaneClassWindow (q : Nat) (lane : Nat) (cls : Nat) (corr : Nat) (uncorr : Nat)
  /-- PORT_FRAME_REFUSED (R221): A fabric frame refused by the peer is resent from the replay buffer. -/
  | portFrameRefused (q : Nat) (frames : Nat)
  /-- PORT_RETRAIN (R219): Host retrains a fabric port from DOWN. -/
  | portRetrain (port : Nat) (q : Nat)
  /-- PORT_HOLD (R247): Host holds a fabric port ABSENT with cause HOLD. -/
  | portHold (port : Nat) (q : Nat) (hold : Bool)
  /-- FABRIC_INGRESS (R224): A fabric packet arrives at a panel and is forwarded in transit or delivered. -/
  | fabricIngress (q : Nat) (hdr : BitVec 256) (pre : Word) (data : List Byte) (px : List Nat)
  /-- FABRIC_TIMEOUT (R234): A fabric transfer not completed within FTMO completes with TIMEOUT. -/
  | fabricTimeout (ix : Nat)
  /-- TUB_WIN_CTL_WRITE (R233): A window control write is validated and stored with V or ERR. -/
  | tubWinCtlWrite (port : Nat) (w : Nat) (v : Word)
  /-- TUB_HOPQ_WRITE (R236): Host queries the fabric route to a logical panel. -/
  | tubHopqWrite (port : Nat) (l : Nat)
  /-- TUB_FEPOCH_WRITE (R229): A write of the fabric epoch on the lead starts a fabric flip. -/
  | tubFepochWrite (port : Nat) (ep : Nat)
  /-- TUB_FTBLW_WRITE (R230): Lead host sends a fabric table word to a panel as FTBL. -/
  | tubFtblwWrite (port : Nat) (v : Word)
  /-- FLIP_PANEL_TIMEOUT (R229): A panel not answering within FTMO drops out of the fabric flip. -/
  | flipPanelTimeout (panel : Nat)
  /-- FABRIC_BEACON_SEND (R237): Every 10 µs a bundle port sends a time beacon. -/
  | fabricBeaconSend (q : Nat)
  /-- FABRIC_BEACON_RECEIVE (R355): A panel filters the beacon offset to domain time and corrects GT. -/
  | fabricBeaconReceive (q : Nat) (gt : Nat)
  /-- DOMAIN_HOLDOVER (R355): No fabric beacon for 50 µs puts domain time in HOLDOVER. -/
  | domainHoldover
  /-- START (R241): Manager message that starts step k on a worker partition. -/
  | start (src : Word) (w0 : Word) (w1 : Word)
  /-- DONE (R244): Worker message that step k completed; the manager commits after all DONE. -/
  | done (src : Word) (w0 : Word) (w1 : Word)
  /-- COMMIT (R241): Manager message that commits step k. -/
  | commit (src : Word) (w0 : Word) (w1 : Word)
  /-- ABORT (R241): Manager message that aborts step k. -/
  | abort (src : Word) (w0 : Word) (w1 : Word)
  /-- FAULT (R243): Worker message that a fault record was written to the report ring. -/
  | fault (src : Word) (w0 : Word) (w1 : Word) (repl : List (Nat × Nat))
  /-- FENCE (R241): Manager message that fences a unit. -/
  | fence (src : Word) (w0 : Word) (w1 : Word)
  /-- SWAP (R329): Manager message that commits a generation assigning a logical cluster. -/
  | swap (src : Word) (w0 : Word) (w1 : Word)
  /-- PROBATION (R306): Manager message that puts a unit on full ply. -/
  | probation (src : Word) (w0 : Word) (w1 : Word)
  /-- BEAT (R244): Manager heartbeat carrying the last committed step. -/
  | beat (src : Word) (w0 : Word) (w1 : Word)
  /-- TAKEOVER (R245): Standby message that makes the worker take the standby as manager. -/
  | takeover (src : Word) (w0 : Word) (w1 : Word)
  /-- NEWSTBY (R241): Manager message that sets the worker's standby panel. -/
  | newstby (src : Word) (w0 : Word) (w1 : Word)
  /-- REMAP (R241): Manager asks the lead to remap a logical panel by a fabric flip. -/
  | remap (src : Word) (w0 : Word) (w1 : Word)
  /-- REMAPDONE (R241): Lead reports that the remap flip is complete. -/
  | remapdone (src : Word) (w0 : Word) (w1 : Word)
  /-- ACK (R241): Reply acknowledging a manager message. -/
  | ack (src : Word) (w0 : Word) (w1 : Word)
  /-- BUNDLE (R226): Bundle loss or return report; with AUTOFIX the lead recomputes RING tables. -/
  | bundle (src : Word) (w0 : Word) (w1 : Word)
  /-- FTBL (R241): Lead writes 32 bits into a panel's inactive fabric bank. -/
  | ftbl (src : Word) (w0 : Word) (w1 : Word)
  /-- FFLIP (R229): A panel switches its fabric injection epoch and acknowledges. -/
  | fflip (src : Word) (w0 : Word) (w1 : Word)
  /-- FSWEEP (R229): A panel answers a fabric drain sweep with FRESID. -/
  | fsweep (src : Word) (w0 : Word) (w1 : Word)
  /-- FRESID (R229): Lead collects a residue answer; a passing check completes the fabric flip. -/
  | fresid (src : Word) (w0 : Word) (w1 : Word)
  /-- MSG_RESEND_TIMEOUT (R239): A manager message without OK reply is resent, the target lost after 3 tries. -/
  | msgResendTimeout (ix : Nat) (shadow : Option Nat)
  /-- MGR_GO (R248): Host starts the manager or standby function of a slot. -/
  | mgrGo (port : Nat) (n : Nat)
  /-- MGR_STOP (R248): Host stops the manager after the current step commits. -/
  | mgrStop (port : Nat) (n : Nat)
  /-- BEAT_TIMER (R244): Manager sends BEAT every BEATMS milliseconds. -/
  | beatTimer (n : Nat)
  /-- MANAGER_LOST (R245): Standby misses LOSTN BEAT periods and begins takeover. -/
  | managerLost (n : Nat) (lost : List Nat)
  /-- SKEIN_READ (R252): Slice returns a skein's value or round counter. -/
  | skeinRead (ix : Nat)
  /-- SKEIN_ADD (R252): Slice adds a signed delta to a LIVE skein. -/
  | skeinAdd (ix : Nat)
  /-- SKEIN_WAIT_GE (R252): Completes at once if the value reaches N, otherwise becomes a waiter. -/
  | skeinWaitGe (ix : Nat)
  /-- SKEIN_ACQUIRE (R252): Subtracts N if available first come first served, otherwise waits. -/
  | skeinAcquire (ix : Nat)
  /-- SKEIN_SET (R253): Owner or host sets state and value and re-evaluates waiters. -/
  | skeinSet (ix : Nat)
  /-- SKEIN_ARRIVE (R266): Barrier arrival of a participant, possibly early. -/
  | skeinArrive (ix : Nat)
  /-- WAITER_TIMEOUT (R258): A waiter past its deadline completes with TIMEOUT. -/
  | waiterTimeout (sk : Nat) (ix : Nat)
  /-- POLL_RETRY (R257): A polled waiter repeats its operation after a doubling interval. -/
  | pollRetry (ix : Nat)
  /-- SKN_HOST_SET (R255): Host sets a skein through SKN_CMD. -/
  | sknHostSet (port : Nat) (page : Nat) (sk : Word) (v : Word)
  /-- SKN_BREAK (R252): Host makes a skein BROKEN, releasing every waiter. -/
  | sknBreak (port : Nat) (page : Nat) (sk : Word)
  /-- NOTIFIER_ARM (R267): Host arms a notifier, which takes a waiter place or is refused. -/
  | notifierArm (port : Nat) (page : Nat) (n : Nat) (sk : Word) (v : Word)
  /-- DIE_ABSENT_WAITER_WITHDRAW (R265): Slices withdraw waiters whose requester die became absent. -/
  | dieAbsentWaiterWithdraw (e : Nat)
  /-- PARK_GATE (R268): A cluster parked for LENDUS µs gates its clocks and lends its share. -/
  | parkGate (p : Nat)
  /-- AREA_ARM (R271): A write of ARM 1 checks a winder header and opens the area. -/
  | areaArm (ix : Nat)
  /-- AREA_DISARM (R271): A write of word 0 with ARM 0 returns an open area to IDLE. -/
  | areaDisarm (ix : Nat)
  /-- AREA_ZERO_DONE (R271): Zeroing of an armed area ends and held long words proceed. -/
  | areaZeroDone (key : Nat)
  /-- WINDER_LWORD (R272): A winder discards or combines a long word into an area element. -/
  | winderLword (ix : Nat)
  /-- AREA_OUTPUT_DONE (R275): All output is acknowledged; area becomes DONE and CSK receives ADD. -/
  | areaOutputDone (key : Nat)
  /-- AREA_TIMEOUT (R275): TMO elapses before DONE and the area ends with TIMEOUT. -/
  | areaTimeout (key : Nat)
  /-- STAGGER_RELEASE (R278): A staggered PUT's first packet leaves when GT enters its slot. -/
  | staggerRelease (p : Nat) (id : Nat)
  /-- PLY_TICKET_ARRIVE (R286): A ticket arrives in the partner's or referee's ply mailbox. -/
  | plyTicketArrive (p : Nat) (pri : Nat) (id : Nat)
  /-- PLY_PASS_RUN (R287): Partner runs a queued ticket ahead of its own queue. -/
  | plyPassRun (p : Nat)
  /-- PLY_PASS_END (R287): A ply pass ends and its digest is returned to the primary. -/
  | plyPassEnd (p : Nat) (errs : List (Nat × Nat)) (pois : Bool)
  /-- PLY_DIGEST_ARRIVE (R291): Primary compares digests and closes the record with a verdict or asks a referee. -/
  | plyDigestArrive (p : Nat) (id : Nat) (by_ : Nat)
  /-- PLY_TICKET_TIMEOUT (R288): No digest within PLYTMO: ticket reissued or record closed SKIP or UNRESOLVED. -/
  | plyTicketTimeout (p : Nat) (id : Nat)
  /-- SLUB_DECAY_TICK (R300): Every 60 s each non-zero score decays. -/
  | slubDecayTick
  /-- RET1H_WINDOW_EXPIRY (R305): A retirement leaves the 60-minute window and probation units are rescanned. -/
  | ret1hWindowExpiry
  /-- SLUBVAL_WRITE (R298): Host loads a unit's score, which is evaluated at once. -/
  | slubvalWrite (port : Nat) (v : Word)
  /-- SLUBW_WRITE (R299): Host sets the weight of an event code. -/
  | slubwWrite (port : Nat) (v : Word)
  /-- SLUBTHR_WRITE (R309): Threshold write, discarded if the cluster order breaks. -/
  | slubthrWrite (port : Nat) (ix : Nat) (v : Word)
  /-- PART_STEP_START (R416): A START write or message starts a first attempt or a replay, or is refused. -/
  | partStepStart (port : Nat) (j : Nat) (step : Nat)
  /-- SEED_COPY_DONE (R318): Seed copy ends, or fails and the partition enters STUCK. -/
  | seedCopyDone (j : Nat) (status : Nat)
  /-- RESTORE_DONE (R326): A buddy restore ends or fails with SETUP. -/
  | restoreDone (j : Nat) (status : Nat) (lines : List (Nat × List (Byte) × Bool))
  /-- PART_SUSP (R417): Host pre-empts a running partition. -/
  | partSusp (port : Nat) (j : Nat)
  /-- PART_RESUME (R417): Host resumes a suspended partition. -/
  | partResume (port : Nat) (j : Nat)
  /-- STEP_COMPLETE (R311): All conditions hold; partition enters DONE, latches its digest and sends DONE. -/
  | stepComplete (j : Nat)
  /-- PART_COMMIT (R312): A commit request in DONE sets LASTCMT and records skein snapshots. -/
  | partCommit (port : Nat) (j : Nat)
  /-- PART_ABORT (R314): Host aborts the step in progress. -/
  | partAbort (port : Nat) (j : Nat)
  /-- ABORT_DRAIN_END (R314): All transfers drained; drain flip if needed and ABORTED or STUCK entered. -/
  | abortDrainEnd (j : Nat)
  /-- PART_RESTORE (R326): Host starts a buddy restore in ABORTED. -/
  | partRestore (port : Nat) (j : Nat)
  /-- PART_ACKLOSS (R327): Host clears MEMLOSS. -/
  | partAckloss (port : Nat) (j : Nat)
  /-- SPLICE_RECORD_COMPARE (R339): Working panel compares the shadow's record with its own digest. -/
  | spliceRecordCompare (j : Nat)
  /-- PART_MIR_CTL_WRITE (R321): Mirror entry write validated and stored with V or ERR. -/
  | partMirCtlWrite (port : Nat) (j : Nat) (ix : Nat) (v : Word)
  /-- PART_SPR_CTL_WRITE (R119): Step-parity entry write validated and stored with VALID or ERR. -/
  | partSprCtlWrite (port : Nat) (j : Nat) (ix : Nat) (v : Word)
  /-- PART_ROT_WRITE (R400): Rotation write stored, or refused with ERR for bad GSIZE. -/
  | partRotWrite (port : Nat) (j : Nat) (v : Word)
  /-- REF_EDGE_LOSS (R344): No reference edge for 200 ns: die enters holdover. -/
  | refEdgeLoss (e : Nat)
  /-- HOLDOVER_STOP (R344): Reference absent 100 µs: die stops all clocks but its ring segment. -/
  | holdoverStop (e : Nat)
  /-- REPLICA_STRETCH (R348): Low replica slack lengthens the die's next cycles. -/
  | replicaStretch (p : Nat) (cycles : Nat) (slack : Nat)
  /-- RSTEP_WINDOW (R349): A 1 ms window with low slack raises the monitor step. -/
  | rstepWindow (p : Nat) (cycles : Nat) (low : Nat) (now : Nat)
  /-- RSTEP_DECAY (R349): 60 s without such a window lowers the monitor step. -/
  | rstepDecay (p : Nat)
  /-- GT_BEACON_SEND (R353): Active whorl die sends a time beacon every 1 µs. -/
  | gtBeaconSend
  /-- GT_BEACON_RECEIVE (R353): A die corrects its GT from a beacon and updates GSTATE. -/
  | gtBeaconReceive (e : Nat) (ofs : Int)
  /-- GT_BEACON_MISSING (R353): No beacon for 5 µs puts the die in HOLDOVER. -/
  | gtBeaconMissing (e : Nat)
  /-- FREQ_ARM (R358): Host requests a frequency change, checked and made PENDING. -/
  | freqArm (port : Nat)
  /-- FREQ_CANCEL (R358): Host cancels a pending change, reversing started ramps. -/
  | freqCancel (port : Nat)
  /-- FREQ_PARAM_WRITE (R358): A TGT or T write while PENDING is discarded with ERRC BUSY. -/
  | freqParamWrite (port : Nat) (tgt : Nat) (t : Word)
  /-- RAIL_RAMP_START (R369): Hanks start VL and VM ramps 40 µs before an upward change. -/
  | railRampStart (h : Nat)
  /-- FREQ_APPLY (R359): A die switches operating point when its GT reaches T. -/
  | freqApply (e : Nat)
  /-- FREQ_SWITCH_DONE (R359): All dies reported: FSTATE IDLE, CUR updated, EV_CLK_FDONE. -/
  | freqSwitchDone
  /-- HARDWARE_STAGE (R401): 12 V enters range and hardware brings up the base group, whorl die and host ports. -/
  | hardwareStage (wd0ok : Bool) (wd1ok : Bool)
  /-- INPUT_UNDERVOLTAGE (R366): Input below 11.4 V for 1 ms limits Peff. -/
  | inputUndervoltage (mv : Nat)
  /-- INPUT_CRITICAL_STOP (R366): Input far out of range for 100 µs opens every converter and stops the panel. -/
  | inputCriticalStop (mv : Nat)
  /-- HANK_ONREQ (R372): Host powers an OFF hank by the sequence of Table 13.3. -/
  | hankOnreq (port : Nat) (h : Nat)
  /-- HANK_POWER_ON_DONE (R372): Hank power-on sequence completes and the hank is ON. -/
  | hankPowerOnDone (h : Nat) (classes : List (Nat × Nat × Nat × Nat)) (lats : List (Nat × Nat))
  /-- HANK_OFFREQ (R373): Host drains and switches off an ON hank. -/
  | hankOffreq (port : Nat) (h : Nat)
  /-- HANK_SWITCH_OFF (R373): Residue zero or 1 ms elapsed: header switches and rails open, hank OFF. -/
  | hankSwitchOff (h : Nat)
  /-- HANK_CLRFLT (R374): Host returns a TRIPPED hank to OFF. -/
  | hankClrflt (port : Nat) (h : Nat)
  /-- HANK_SHORT (R374): A rail short opens the hank group and the hank is TRIPPED or LOCKED. -/
  | hankShort (h : Nat)
  /-- HANK_THERMAL_TRIP (R375): Junction or stack over limit opens the hank group. -/
  | hankThermalTrip (h : Nat) (temp : Nat) (stk : Nat)
  /-- HEADER_SWITCH_STAGED (R370): A cluster's header segments finish staging and it is usable or off. -/
  | headerSwitchStaged (p : Nat) (on : Bool)
  /-- BUDGET_DIVIDE (R377): Every 10 µs the cluster budget is divided among hanks. -/
  | budgetDivide (pfix : Nat)
  /-- HANK_NCAP_EVAL (R378): Each hank computes its throttle ncap from budget and models. -/
  | hankNcapEval (h : Nat) (pr : Nat) (pts : List (Nat × Nat))
  /-- PCAP_HOST_WRITE (R381): Host cap written, clamped, effective at the next evaluation. -/
  | pcapHostWrite (port : Nat) (cap : Nat)
  /-- NOTICE_PREPOSITION (R384): Converters pre-position 2 µs before an announced rise. -/
  | noticePreposition (p : Nat)
  /-- ISSUE_RAMP_STEP (R384): nramp of an idle-started cluster rises by 1 every 0.5 µs. -/
  | issueRampStep (p : Nat)
  /-- HOTSPOT_SENSE (R385): Junction sensors are read and nhot moves. -/
  | hotspotSense (p : Nat) (hot : Bool)
  /-- TELEMETRY_PUBLISH (R388): Every 1 ms voltage, current, power and energy are published. -/
  | telemetryPublish (readings : List (Nat × Nat × Nat × Nat)) (model : List (Nat × Nat)) (tin : Nat) (tout : Nat) (dp : Nat) (flow : Nat)
  /-- COOLANT_CRITICAL (R396): Flow below 10 L/min for 1 s or hot outlet holds ncap at 1. -/
  | coolantCritical
  /-- CONNECTION_MONITOR (R391): Once per second posts and bump fields are checked for resistance rise. -/
  | connectionMonitor (readings : List (Nat × Nat × Nat))
  /-- THERMAL_FORECAST (R393): Every 1 ms each hank forecasts its junction 10 ms ahead. -/
  | thermalForecast (h : Nat) (tj : Nat) (tstk : Nat) (fcst : Nat)
  /-- THERMAL_CYCLE_COUNT (R394): Rainflow counting of the hank's 1 s averaged temperature. -/
  | thermalCycleCount (h : Nat) (temp : Nat)
  /-- BOOT_ENUMERATE (R403): GO step 1 enumerates dies and reads the fuse map. -/
  | bootEnumerate (port : Nat)
  /-- BOOT_CLOCK_START (R403): GO step 2 starts the reference and clock-tree beacons. -/
  | bootClockStart (port : Nat)
  /-- BOOT_POWER (R404): GO step 3 powers the masked hanks and edge groups. -/
  | bootPower (port : Nat)
  /-- BOOT_MEMORY_TRAIN (R403): GO step 5 trains and initialises every stack and package. -/
  | bootMemoryTrain (port : Nat) (hard : List (Nat × Nat))
  /-- BOOT_SELF_TEST (R403): GO step 6 self-tests every powered cluster. -/
  | bootSelfTest (port : Nat)
  /-- BOOT_RECONCILE (R406): GO step 7 reconciles fuse and test results and fills the canonical map. -/
  | bootReconcile (port : Nat)
  /-- BOOT_RELEASE (R405): GO step 11 releases partitions, or is refused. -/
  | bootRelease (port : Nat)
  /-- BOOT_STEP_DONE (R403): A bring-up step's completion condition holds and BSTEP advances. -/
  | bootStepDone (bad : List Nat)
  /-- FUSE_OVR (R407): Presence write sets a re-test override on a fused-bad unit. -/
  | fuseOvr (port : Nat)
  /-- FUSE_ADD (R408): Presence write permanently fuses a unit bad. -/
  | fuseAdd (port : Nat)
  /-- FW_STAGING_WRITE (R492): Host writes image bytes into the staging buffer. -/
  | fwStagingWrite (port : Nat) (off : Nat) (data : List Byte)
  /-- FW_MEASURE (R410): Whorl die measures the staged image and logs it. -/
  | fwMeasure (port : Nat) (typ : Nat) (len : Nat)
  /-- FW_MEASURE_DONE (R441): Image checks end VERIFIED or FAILED. -/
  | fwMeasureDone
  /-- FW_LOAD (R411): A VERIFIED image is broadcast to clusters or installed in the whorl die. -/
  | fwLoad (port : Nat)
  /-- FW_DROP (R409): Host empties the staging buffer. -/
  | fwDrop (port : Nat)
  /-- FW_CONFIRM (R411): A cluster confirms or fails the image digest; the image becomes LOADED when all have. -/
  | fwConfirm (p : Nat) (ok : Bool)
  /-- FW_CLUSTER_COPY_DONE (R412): A newly powered cluster finishes copying and confirming loaded images. -/
  | fwClusterCopyDone (p : Nat) (ok : Bool)
  /-- CLU_STEST_GO (R418): Host requests a cluster self-test, run, refused or deferred. -/
  | cluStestGo (port : Nat) (p : Nat) (dfr : Bool)
  /-- STEST_DEFERRED_START (R418): A deferred self-test starts when its partition becomes quiescent. -/
  | stestDeferredStart (p : Nat)
  /-- STEST_DONE (R418): Self-test ends PASS or FAIL, retiring on failure. -/
  | stestDone (p : Nat) (blk : Nat)
  /-- CLU_SEQ_RESET (R419): Sequencer reset of one cluster. -/
  | cluSeqReset (port : Nat) (p : Nat)
  /-- CLU_RESET (R419): Cluster reset fences ingress and drains transfers. -/
  | cluReset (port : Nat) (p : Nat) (scrub : Bool)
  /-- CLU_RESET_DONE (R419): Cluster reset ends when its transfers complete. -/
  | cluResetDone (p : Nat)
  /-- PART_RESET (R419): Partition reset breaks skeins and resets every cluster. -/
  | partReset (port : Nat) (j : Nat) (scrub : Nat)
  /-- PART_RESET_DONE (R419): Partition reset ends and the partition is IDLE. -/
  | partResetDone (j : Nat)
  /-- PANEL_RESET (R419): Panel reset stops everything and returns to the hardware stage state. -/
  | panelReset (port : Nat)
  /-- PANEL_FREEZE (R423): The panel freezes within 10 µs. -/
  | panelFreeze (port : Nat)
  /-- GEN_COMMIT (R428): Host commits the staged generation, or it is refused. -/
  | genCommit (port : Nat) (num : Nat)
  /-- GEN_REVERT (R431): Host reverts to the previous generation as a new commit. -/
  | genRevert (port : Nat)
  /-- GEN_DISCARD (R424): Staged registers return to current values. -/
  | genDiscard (port : Nat)
  /-- OWN_CAS (R432): Compare-and-swap of control ownership. -/
  | ownCas (port : Nat) (expect : Nat) (new_ : Nat)
  /-- OWN_RENEW (R432): Owner restarts its lease. -/
  | ownRenew (port : Nat)
  /-- OWN_FORCE (R432): Presence write takes ownership at once. -/
  | ownForce (port : Nat)
  /-- OWN_LEASE_EXPIRY (R432): Lease reaches zero and EXPIRED is set. -/
  | ownLeaseExpiry
  /-- DATA_WINDOW_ACCESS (R491): Host data-window access checked and split into RD or WR packets. -/
  | dataWindowAccess (port : Nat) (wr : Bool) (base : Nat) (off : Nat) (len : Nat) (data : List Byte) (dis : List Nat)
  /-- KEY_ENROL (R442): Presence write fuses an owner key hash into a slot. -/
  | keyEnrol (port : Nat) (slot : Nat)
  /-- KEY_REVOKE (R442): Presence write fuses a slot's revoke bit. -/
  | keyRevoke (port : Nat) (slot : Nat)
  /-- KEYCMD_DONE (R442): Fuse blowing of an ENROL or REVOKE completes. -/
  | keycmdDone
  /-- DBG_ENTER (R450): Presence write enters debug mode. -/
  | dbgEnter (port : Nat)
  /-- DBG_EXIT (R450): Host leaves debug mode. -/
  | dbgExit (port : Nat)
  /-- ATT_REQ (R446): Host requests an attestation report. -/
  | attReq (port : Nat)
  /-- ATT_DONE (R446): Report signed; STATE READY and SEQ incremented. -/
  | attDone
  /-- ATT_WORD_READ (R451): Report or key word read, stepping the index with AUTO. -/
  | attWordRead (port : Nat) (idk : Bool)
  /-- LOGDATA_READ (R451): Reading WHL_LOGDATA0 latches all 16 words of the selected entry. -/
  | logdataRead (port : Nat)
  /-- ACC_LO_READ (R93): Reading CLU_ACC_LO latches the rest of the selected element. -/
  | accLoRead (port : Nat) (p : Nat)
  /-- SKN_VALUE_READ (R280): Reading SKN_VALUE latches the skein's other registers. -/
  | sknValueRead (port : Nat) (page : Nat)
  /-- PRESENCE_ASSERT_HELD (R447): PRESENCE held 2.0 s makes presence active. -/
  | presenceAssertHeld
  /-- PRESENCE_RELEASE (R447): PRESENCE released over 10 ms ends presence. -/
  | presenceRelease
  /-- SEAL_LOOP_OPEN (R448): An open seal loop blows the seal fuse. -/
  | sealLoopOpen
  /-- EVT_CAUSE_CLEAR (R457): W1C write clears event cause bits. -/
  | evtCauseClear (port : Nat) (page : Nat) (v : Word)
  /-- EVT_FORCE (R456): Write sets event cause bits and nothing else. -/
  | evtForce (port : Nat) (page : Nat) (v : Word)
  /-- LOGCLR (R455): Clears the page error log and LOGV. -/
  | logclr (port : Nat) (page : Nat)
  /-- EVENT_SUMMARY_PROPAGATE (R465): A cause or mask change reaches die and panel summaries. -/
  | eventSummaryPropagate (e : Nat)
  /-- VPEND_CLEAR (R466): Host clears a vector latch; the vector is resent if its condition holds. -/
  | vpendClear (port : Nat) (ix : Nat) (v : Word)
  /-- MGT_TIMEOUT (R463): An MGT access without response in 2 ms completes with all ones. -/
  | mgtTimeout (port : Nat) (wr : Bool) (addr : Nat)
  /-- BAR0_BAD_ACCESS (R493): A disallowed BAR0 access is refused and counted. -/
  | bar0BadAccess (port : Nat) (wr : Bool) (addr : Nat) (len : Nat)
  /-- REGISTER_WRITE (R459): A write to a register with no row of its own is accepted field by field. -/
  | registerWrite (port : Nat) (addr : Nat) (v : Word)
  /-- HP_LINK_DOWN (R487): A host-port link is lost in service. -/
  | hpLinkDown (port : Nat)
  /-- HP_LINK_UP (R487): A host-port link reaches L0 and latched vectors are resent. -/
  | hpLinkUp (port : Nat) (speed : Nat) (width : Nat)
  /-- HP_PERST (R488): PERST#, FLR or retraining resets that port's configuration space. -/
  | hpPerst (port : Nat)
  /-- IDENTITY_BUS_READ (R482): An I2C read returns the identity block. -/
  | identityBusRead (off : Nat) (len : Nat)
  /-- REFERENCE_EDGE_RETURN (R344): A die in holdover sees reference edges return within 100 µs and leaves holdover without stopping its clocks. -/
  | referenceEdgeReturn (e : Nat)
  /-- UNDERVOLTAGE_CLEAR (R481): The input rises back to 11.4 V or more, so the undervoltage limit on Peff ends and ALERT_N is released. -/
  | undervoltageClear (mv : Nat)
  /-- MSIX_VECTOR_UNMASK (R466): The host unmasks a vector in the BAR2 MSI-X table, and the port sends a vector that stayed latched while it was masked. -/
  | msixVectorUnmask (port : Nat) (v : Nat)
  deriving DecidableEq, Repr

end Sys2Proof
end

