-- ==== Sys2Proof/Decode.lean ====
section
/-!
DEFINITION. The commands that a word of the operation table spells. The table gives no row any bits: the block takes
commands, not encoded instructions, so no word spells one.
-/

namespace Sys2Proof

/-- The command a word of `nbits` bits spells: none, since no row of the table has bits. -/
def decodeTableWord (_nbits _w : Nat) : Option Instr := none

end Sys2Proof
end

