-- ==== Sys2Proof/Config.lean ====
section
/-!
DEFINITION. What an implementation or an outside standard fixes: functions the spec uses by name without
giving them (SHA3-512, ML-DSA-87, firmware function tables), and the free values of the model. None has a body.
-/

namespace Sys2Proof.Config

/-- The free value of number `n` (log entry 4): a value the spec leaves open, unconstrained. -/
opaque freeWord : Nat → BitVec 64

/-- SHA3-512 of a byte string (R410, R429, R444: FIPS 202), an uninterpreted function (log entry 5). -/
opaque sha3 : List Byte → BitVec 512

/-- The ML-DSA-87 public key derived from a fused seed (R438: FIPS 204), 2,592 bytes (log entry 5). -/
opaque mldsaPublic : BitVec 256 → List Byte

/-- The ML-DSA-87 signature under the key of a fused seed, for a context string and a message (R446), 4,627 bytes (log entry 5). -/
opaque mldsaSign : BitVec 256 → List Byte → List Byte → List Byte

/-- Whether an ML-DSA-87 signature verifies: public key, context string, message, signature (R441; log entry 5). -/
opaque mldsaVerify : List Byte → List Byte → List Byte → List Byte → Bool

/-- The fused voltage Vf(h, p) of hank h at point p, in mV (R368; log entry 36). -/
opaque vf : Nat → Nat → Nat
/-- The fused VM setpoint of hank h at point p, in mV (Table 13.1; log entry 36). -/
opaque vm : Nat → Nat → Nat

/-- The function table of a firmware image: image digest, FN code, FP32 input (R42; log entry 6). -/
opaque vfnTable : BitVec 512 → Nat → BitVec 32 → BitVec 32

/-- The row that holds a line, and the bank that holds a row: internal to the memory dies (R193, R205; log entry 28). -/
opaque memRow : Nat → Nat
opaque memBank : Nat → Nat

/-- Soft repairs a bank has room for (R205; log entry 28). -/
opaque bankRepairs : Nat → Nat

/-- Physical clusters (Table 1.1). -/
def clusters : Nat := 896
/-- Compute dies (Table 1.1). -/
def computeDies : Nat := 112
/-- Memory base dies (Table 1.1). -/
def baseDies : Nat := 56
/-- Edge I/O dies (Table 1.1). -/
def iods : Nat := 16
/-- Optical endpoints with a die (R18). -/
def endpoints : Nat := 186
/-- Logical clusters (R23). -/
def logicals : Nat := 800
/-- Dabin links with a DBL page (R14). -/
def dabinLinks : Nat := 600
/-- Dabin links in all, the 32 IOD links numbered 600 + 2k + j (R17; the numbering above 599 is the model's). -/
def allLinks : Nat := 632
/-- Hanks (R16). -/
def hanks : Nat := 28
/-- Partitions (Table 0.4). -/
def partitions : Nat := 16
/-- Fabric ports (R216). -/
def fabricPorts : Nat := 32
/-- Manager slots (R244). -/
def managerSlots : Nat := 16

end Sys2Proof.Config
end

