-- ==== Sys2Proof/Machine/Bits.lean ====
section
/-!
DEFINITION. Bit fields, sign extension, byte order and the operations of sparse tables.
-/

namespace Sys2Proof.Machine

/-- Field [hi:lo] of a bit vector, as a number. -/
def fld {n : Nat} (w : BitVec n) (hi lo : Nat) : Nat := (w.toNat >>> lo) % 2 ^ (hi + 1 - lo)

/-- One bit of a bit vector. -/
def bit {n : Nat} (w : BitVec n) (i : Nat) : Bool := w.getLsbD i

/-- The mask of field [hi:lo] in `n` bits. -/
def fmask (n hi lo : Nat) : BitVec n := BitVec.ofNat n ((2 ^ (hi + 1 - lo) - 1) <<< lo)

/-- A bit vector with field [hi:lo] replaced by the low bits of `v`. -/
def setFld {n : Nat} (w : BitVec n) (hi lo v : Nat) : BitVec n :=
  (w &&& ~~~ fmask n hi lo) ||| BitVec.ofNat n ((v % 2 ^ (hi + 1 - lo)) <<< lo)

/-- A field of `k` bits read as a two's-complement number. -/
def sgn (k v : Nat) : Int := if v < 2 ^ (k - 1) then v else (v : Int) - 2 ^ k

/-- A number reduced into a `k`-bit field (two's complement). -/
def wrap (k : Nat) (v : Int) : Nat := (v % (2 ^ k : Int)).toNat

/-- A value that is no larger than the field's greatest value: saturating counts. -/
def sat (k v : Nat) : Nat := min v (2 ^ k - 1)

/-- `b` as 0 or 1. -/
def b2n (b : Bool) : Nat := if b then 1 else 0

/-- `n` bytes of a number, lowest first (R47: little-endian). -/
def leBytes : Nat → Nat → List Byte
  | 0, _ => []
  | n + 1, v => BitVec.ofNat 8 v :: leBytes n (v / 256)

/-- The number a list of bytes spells, lowest first. -/
def leNat : List Byte → Nat
  | [] => 0
  | b :: t => b.toNat + 256 * leNat t

/-- The entry of a sparse table, or the default. -/
def SMap.get {α : Type} (d : α) : SMap α → Nat → α
  | [], _ => d
  | (k, v) :: t, j => if k = j then v else SMap.get d t j

/-- Put an entry into a sparse table, keeping the indices rising. -/
def SMap.ins {α : Type} : SMap α → Nat → α → SMap α
  | [], j, v => [(j, v)]
  | (k, u) :: t, j, v =>
    if j < k then (j, v) :: (k, u) :: t
    else if j = k then (j, v) :: t
    else (k, u) :: SMap.ins t j v

/-- Remove an entry of a sparse table. -/
def SMap.del {α : Type} (m : SMap α) (j : Nat) : SMap α := m.filter (fun e => e.1 ≠ j)

/-- Write an entry: the default value is not listed. -/
def SMap.set {α : Type} [DecidableEq α] (d : α) (m : SMap α) (j : Nat) (v : α) : SMap α :=
  if v = d then SMap.del m j else SMap.ins m j v

/-- Change an entry by a function. -/
def SMap.upd {α : Type} [DecidableEq α] (d : α) (m : SMap α) (j : Nat) (f : α → α) : SMap α :=
  SMap.set d m j (f (SMap.get d m j))

/-- The entries at rising indices, none equal to the default. -/
def SMap.wf {α : Type} [DecidableEq α] (d : α) (m : SMap α) : Bool :=
  decide ((m.map (·.1)).Pairwise (· < ·)) && m.all (fun e => e.2 ≠ d)

/-- A sorted list of numbers without repeats: insert. -/
def setIns : List Nat → Nat → List Nat
  | [], j => [j]
  | k :: t, j => if j < k then j :: k :: t else if j = k then k :: t else k :: setIns t j

/-- A sorted list of numbers without repeats: remove. -/
def setDel (m : List Nat) (j : Nat) : List Nat := m.filter (· ≠ j)

/-- Element `i` of a list, or the default. -/
def nth {α : Type} (d : α) (l : List α) (i : Nat) : α := l.getD i d

/-- A list with element `i` removed. -/
def dropAt {α : Type} (l : List α) (i : Nat) : List α := l.eraseIdx i

/-- Apply a function for 0, 1, …, n − 1 in order. -/
def forN {α : Type} (n : Nat) (f : Nat → α → α) (a : α) : α := (List.range n).foldl (fun a i => f i a) a

/-- Apply a function for each element of a list in order. -/
def forL {α β : Type} (l : List β) (f : β → α → α) (a : α) : α := l.foldl (fun a b => f b a) a

/-- ceil(a / b). -/
def cdiv (a b : Nat) : Nat := (a + b - 1) / b

/-- CRC-32, polynomial 0x04C1_1DB7 reflected, initial and final inversion, over bytes in order. -/
def crc32 (bs : List Byte) : Nat :=
  let one (c : BitVec 32) (b : Byte) : BitVec 32 :=
    forN 8 (fun _ c => if c.getLsbD 0 then (c >>> 1) ^^^ 0xEDB88320#32 else c >>> 1) (c ^^^ b.setWidth 32)
  (~~~ (bs.foldl one 0xFFFFFFFF#32)).toNat

end Sys2Proof.Machine
end

