-- ==== Sys2Proof/Machine/Geo.lean ====
section
/-!
DEFINITION. Where things are: dies, clusters, hanks, endpoints, Dabin links and page addresses
(chapter 01, Table 16.1), and the placement of memory addresses (R191 to R194).
-/

namespace Sys2Proof.Machine

/-! Coordinates (Table 1.2). -/

/-- Column of a compute die. -/
def dxOf (d : Nat) : Nat := d % 14
/-- Row of a compute die. -/
def dyOf (d : Nat) : Nat := d / 14
/-- Die of a physical cluster. -/
def dieOf (p : Nat) : Nat := p / 8
/-- Cluster in die of a physical cluster. -/
def cOf (p : Nat) : Nat := p % 8
/-- Mesh column of the router of cluster c of die d. -/
def meshX (d c : Nat) : Nat := dxOf d * 4 + c % 4
/-- Mesh row. -/
def meshY (d c : Nat) : Nat := dyOf d * 2 + c / 4
/-- Die at mesh position. -/
def dieAt (x y : Nat) : Nat := (y / 2) * 14 + x / 4
/-- Cluster in die at mesh position. -/
def cAt (x y : Nat) : Nat := (y % 2) * 4 + x % 4
/-- Hank of a compute die. -/
def hankOf (d : Nat) : Nat := (dyOf d / 2) * 7 + dxOf d / 2
/-- |a − b|. -/
def adist (a b : Nat) : Nat := (a - b) + (b - a)
/-- Die distance (R12). -/
def dieDist (a b : Nat) : Nat := adist (dxOf a) (dxOf b) + adist (dyOf a) (dyOf b)
/-- The compute dies of a hank (R16). -/
def hankDies (h : Nat) : List Nat :=
  let x := 2 * (h % 7)
  let y := 2 * (h / 7)
  [y * 14 + x, y * 14 + x + 1, (y + 1) * 14 + x, (y + 1) * 14 + x + 1]

/-! Endpoints (R18). -/

/-- A compute die endpoint. -/
def isCD (e : Nat) : Bool := decide (e < 112)
/-- A memory base die endpoint. -/
def isMB (e : Nat) : Bool := decide (112 ≤ e ∧ e < 168)
/-- An edge I/O die endpoint. -/
def isIOD (e : Nat) : Bool := decide (168 ≤ e ∧ e < 184)
/-- A whorl die endpoint. -/
def isWD (e : Nat) : Bool := decide (e = 184 ∨ e = 185)
/-- Endpoints of a hank: its compute dies and memory base dies (R16, R22). -/
def hankEps (h : Nat) : List Nat := hankDies h ++ [112 + 2 * h, 113 + 2 * h]
/-- The hank of an endpoint, if it has one. -/
def epHank (e : Nat) : Option Nat :=
  if e < 112 then some (hankOf e) else if e < 168 then some ((e - 112) / 2) else none

/-! Links. Number 600 + 2k + j is link j of IOD k (R17); the numbering above 599 is the model's. -/

/-- Compute die on link j of IOD k (Table 1.3). -/
def iodDie (k j : Nat) : Nat :=
  if k < 6 then 2 * k + 1 + j
  else if k = 6 then (1 + j) * 14 + 13
  else if k = 7 then (5 + j) * 14 + 13
  else if k < 14 then 7 * 14 + (2 * (k - 8) + 1 + j)
  else if k = 14 then (1 + j) * 14
  else (5 + j) * 14

/-- Router (cluster in die) that ends an IOD link: column 1 on a south or north edge, row 0 on a west or east edge (R17). -/
def iodRouter (k : Nat) : Nat :=
  if k < 6 then 1 else if k < 8 then 3 else if k < 14 then 5 else 0

/-- The router port an IOD link occupies (R127): 4 S, 1 E, 3 N, 2 W. -/
def iodPort (k : Nat) : Nat :=
  if k < 6 then 4 else if k < 8 then 1 else if k < 14 then 3 else 2

/-- The link leaving mesh position (x, y) eastward, if it is a Dabin link (R14). -/
def eastLink (x y : Nat) : Nat := y * 13 + x / 4
/-- The link leaving (x, y) northward (R14). -/
def northLink (x y : Nat) : Nat := 208 + (y / 2) * 56 + x
/-- The router at the west or south end, and the port there: (x, y, port). -/
def linkBase (n : Nat) : Nat × Nat × Nat :=
  if n < 208 then ((n % 13) * 4 + 3, n / 13, 1)
  else ((n - 208) % 56, ((n - 208) / 56) * 2 + 1, 3)
/-- The two compute dies a DBL link joins: west or south end first. -/
def linkDies (n : Nat) : Nat × Nat :=
  let (x, y, p) := linkBase n
  (dieAt x y, if p = 1 then dieAt (x + 1) y else dieAt x (y + 1))
/-- The two endpoints of any link; an IOD link's compute die first. -/
def linkEps (n : Nat) : Nat × Nat :=
  if n < 600 then linkDies n else (iodDie ((n - 600) / 2) ((n - 600) % 2), 168 + (n - 600) / 2)

/-- What the output port of the router at (x, y) leads to: a router on the same die, a link, or nothing. -/
inductive Hop where
  | die (x y : Nat)
  | dabin (n : Nat) (fwd : Bool)
  | none
  deriving DecidableEq, Repr

/-- The neighbour of router (x, y) through a mesh port (R13, R127). -/
def hopOf (x y port : Nat) : Hop :=
  match port with
  | 1 => if x = 55 then .none else if x % 4 = 3 then .dabin (eastLink x y) true else .die (x + 1) y
  | 2 => if x = 0 then .none else if x % 4 = 0 then .dabin (eastLink (x - 1) y) false else .die (x - 1) y
  | 3 => if y = 15 then .none else if y % 2 = 1 then .dabin (northLink x y) true else .die x (y + 1)
  | 4 => if y = 0 then .none else if y % 2 = 0 then .dabin (northLink x (y - 1)) false else .die x (y - 1)
  | _ => .none

/-- The dimension-order output port toward (xd, yd) (R142). -/
def xyPort (x y xd yd : Nat) : Nat :=
  if x < xd then 1 else if xd < x then 2 else if y < yd then 3 else if yd < y then 4 else 0

/-- The Dabin links on the XY path between two routers, walked with fuel. -/
def xyLinks : Nat → Nat → Nat → Nat → Nat → List Nat
  | 0, _, _, _, _ => []
  | f + 1, x, y, xd, yd =>
    match xyPort x y xd yd with
    | 0 => []
    | p => match hopOf x y p with
      | .die x' y' => xyLinks f x' y' xd yd
      | .dabin n _ =>
        let (x', y') := match p with
          | 1 => (x + 1, y)
          | 2 => (x - 1, y)
          | 3 => (x, y + 1)
          | _ => (x, y - 1)
        n :: xyLinks f x' y' xd yd
      | .none => []

/-- Router positions on the XY path, walked with fuel. -/
def xyDies : Nat → Nat → Nat → Nat → Nat → List Nat
  | 0, _, _, _, _ => []
  | f + 1, x, y, xd, yd =>
    dieAt x y :: (match xyPort x y xd yd with
      | 0 => []
      | 1 => xyDies f (x + 1) y xd yd
      | 2 => xyDies f (x - 1) y xd yd
      | 3 => xyDies f x (y + 1) xd yd
      | _ => xyDies f x (y - 1) xd yd)

/-! Page addresses in BAR0 (Table 16.1). -/

/-- WHL page. -/
abbrev pgWHL : Nat := 0
/-- HNK page of hank n. -/
def pgHNK (n : Nat) : Nat := 0x100000 + n * 0x1000
/-- DIE page. -/
def pgDIE (n : Nat) : Nat := 0x200000 + n * 0x1000
/-- PART page. -/
def pgPART (n : Nat) : Nat := 0x400000 + n * 0x1000
/-- DIST page. -/
def pgDIST (n : Nat) : Nat := 0x500000 + n * 0x1000
/-- RTR page of an endpoint. -/
def pgRTR (n : Nat) : Nat := 0x600000 + n * 0x1000
/-- DBL page. -/
def pgDBL (n : Nat) : Nat := 0x800000 + n * 0x1000
/-- OPT page. -/
def pgOPT (n : Nat) : Nat := 0xC00000 + n * 0x1000
/-- MBD page. -/
def pgMBD (n : Nat) : Nat := 0xE00000 + n * 0x1000
/-- IOD page. -/
def pgIOD (n : Nat) : Nat := 0xF00000 + n * 0x1000
/-- CLU page. -/
def pgCLU (n : Nat) : Nat := 0x1000000 + n * 0x1000
/-- SKN page. -/
def pgSKN (n : Nat) : Nat := 0x2000000 + n * 0x1000
/-- TUB page 0, port page q + 1, manager page 64 + n (R246). -/
def pgTUB (n : Nat) : Nat := 0x3000000 + n * 0x1000
/-- The registers of a link: its DBL page, or the IOD page's block at 0x800 or 0x880 shifted to DBL offsets (R472). -/
def pgLink (n : Nat) : Nat := if n < 600 then pgDBL n else pgIOD ((n - 600) / 2) + 0x780 + ((n - 600) % 2) * 0x80

/-- The end of the cluster store: 24 MiB (R44). -/
abbrev STORE_END : Nat := 0x1800000

/-! Memory keys: one physical key space for every memory of the panel (log entry 3). -/

/-- Key of byte y of tier-1 stack m. -/
def t1Key (m y : Nat) : Nat := m * 2 ^ 37 + y
/-- Key of byte z of tier-2 package p. -/
def t2Key (p z : Nat) : Nat := 2 ^ 43 + p * 2 ^ 36 + z
/-- Key of byte o of the store of physical cluster p. -/
def csKey (p o : Nat) : Nat := 2 ^ 44 + p * 2 ^ 25 + o
/-- Key of byte o of the winder store of memory base die m. -/
def wsKey (m o : Nat) : Nat := 2 ^ 45 + m * 2 ^ 24 + o
/-- Key of byte o of the firmware staging buffer. -/
def fwKey (o : Nat) : Nat := 2 ^ 46 + o

/-- The base of the poison granule that holds a byte: an 8-byte store word (R46), or a 64-byte line (R203). -/
def granule (key : Nat) : Nat :=
  if 2 ^ 44 ≤ key ∧ key < 2 ^ 45 then key / 8 * 8 else key / 64 * 64

/-- Bytes of a poison granule. -/
def granuleSize (key : Nat) : Nat := if 2 ^ 44 ≤ key ∧ key < 2 ^ 45 then 8 else 64

/-- fold6 of R192. -/
def fold6 (q : Nat) : Nat := (q % 64) ^^^ (q / 64 % 64) ^^^ (q / 4096 % 64)

/-- Tier-1 placement (R192) with the band's mode; none: SPARE band. -/
def t1Decode (mode : Nat) (a : Nat) : Option (Nat × Nat) :=
  let b := a / (56 * 2 ^ 30)
  let o := a % (56 * 2 ^ 30)
  let mq : Option (Nat × Nat) :=
    if mode = 3 then none
    else if mode = 0 then
      let n := o / 4096
      let q := n / 56
      some ((n % 56 + fold6 q) % 56, q)
    else if mode = 1 then
      let n := o % 2 ^ 31 / 4096
      some (2 * (o / 2 ^ 31) + n % 2, n / 2)
    else some (o / 2 ^ 30, o % 2 ^ 30 / 4096)
  mq.map (fun (m, q) => (m, b * 2 ^ 30 + q * 4096 + o % 4096))

/-- Tier-2 placement (R194) of x with the band's mode. -/
def t2Decode (mode : Nat) (x : Nat) : Nat × Nat :=
  let b := x / 2 ^ 36
  let o := x % 2 ^ 36
  let (p, q) :=
    if mode = 0 then
      let n := o / 4096
      (n % 64 ^^^ fold6 (n / 64), n / 64)
    else if mode = 1 then
      let n := o % 2 ^ 32 / 4096
      (4 * (o / 2 ^ 32) + n % 4, n / 4)
    else (o / 2 ^ 30, o % 2 ^ 30 / 4096)
  (p, b * 2 ^ 30 + q * 4096 + o % 4096)

/-- Channel of a within-stack address (R193). -/
def t1Channel (y : Nat) : Nat := (y / 256 % 32) ^^^ (y / 8192 % 32)

end Sys2Proof.Machine
end

