-- ==== Sys2Proof/Machine/Numfmt.lean ====
section
/-!
DEFINITION. Number formats, rounding, FP32 arithmetic, exact products, accumulator elements and long words
(chapter 03 and R41, R43 of chapter 02).
-/

namespace Sys2Proof.Machine

/-- An exact operand value: NaN, an infinity, or (−1)^neg · m · 2^e (R67, R70). -/
inductive Num where
  | nan
  | inf (neg : Bool)
  | fin (neg : Bool) (m : Nat) (e : Int)
  deriving DecidableEq, Repr

/-- A floating-point encoding: field widths, bias, code of the greatest finite value, infinities (Table 3.1). -/
structure Fmt where
  eb : Nat
  mb : Nat
  bias : Nat
  maxCode : Nat
  hasInf : Bool
  hasNan : Bool
  deriving DecidableEq, Repr

/-- The encoding of a floating-point format code (Tables 2.3 and 3.1). -/
def fmtOf : Nat → Fmt
  | 0 | 2 => ⟨4, 3, 7, 0x7E, false, true⟩
  | 1 | 3 => ⟨5, 2, 15, 0x7B, true, true⟩
  | 4 => ⟨2, 3, 1, 0x1F, false, false⟩
  | 5 => ⟨3, 2, 3, 0x1F, false, false⟩
  | 6 => ⟨2, 1, 1, 0x7, false, false⟩
  | 8 => ⟨8, 7, 127, 0x7F7F, true, true⟩
  | 9 => ⟨5, 10, 15, 0x7BFF, true, true⟩
  | _ => ⟨8, 23, 127, 0x7F7FFFFF, true, true⟩

/-- FP32. -/
def fp32 : Fmt := fmtOf 10

/-- MX formats: codes 0x2 to 0x6 (Table 2.3). -/
def isMX (c : Nat) : Bool := decide (2 ≤ c ∧ c ≤ 6)

/-- Bits of one operand element (Table 3.1). -/
def fmtBits : Nat → Nat
  | 4 | 5 => 6
  | 6 => 4
  | 8 | 9 => 16
  | 10 => 32
  | 11 => 192
  | _ => 8

/-- T of Table 3.1: every finite value of the format has magnitude below 2^T. -/
def fmtT : Nat → Int
  | 0 | 2 => 9
  | 1 | 3 | 9 => 16
  | 4 | 6 => 3
  | 5 => 5
  | 7 => 8
  | _ => 128

/-- Bytes of one MX block record (Table 3.2). -/
def recordBytes : Nat → Nat
  | 4 | 5 => 25
  | 6 => 17
  | _ => 33

/-- The value an encoding names (R67, Table 3.1). -/
def decodeNum (f : Fmt) (raw : Nat) : Num :=
  let s := raw.testBit (f.eb + f.mb)
  let mag := raw % 2 ^ (f.eb + f.mb)
  let e := mag / 2 ^ f.mb
  let m := mag % 2 ^ f.mb
  if f.maxCode < mag then
    if f.hasInf && m = 0 then .inf s else .nan
  else if e = 0 then .fin s m (1 - (f.bias : Int) - f.mb)
  else .fin s (2 ^ f.mb + m) ((e : Int) - f.bias - f.mb)

/-- The value of an operand element of format code `c`; INT8 is two's complement. -/
def decodeEl (c raw : Nat) : Num :=
  if c = 7 then
    let v := sgn 8 (raw % 256)
    .fin (decide (v < 0)) v.natAbs 0
  else decodeNum (fmtOf c) raw

/-- An operand element times its E8M0 block scale; 0xFF is a NaN scale (R68). -/
def scaleNum (s : Nat) : Num → Num
  | .fin n m e => if s = 255 then .nan else .fin n m (e + (s : Int) - 127)
  | x => if s = 255 then .nan else x

/-- The exact product of two operands (R70, Table 3.3). -/
def mulNum : Num → Num → Num
  | .nan, _ => .nan
  | _, .nan => .nan
  | .inf a, .inf b => .inf (a != b)
  | .inf a, .fin b m _ => if m = 0 then .nan else .inf (a != b)
  | .fin a m _, .inf b => if m = 0 then .nan else .inf (a != b)
  | .fin a m e, .fin b m' e' => .fin (a != b) (m * m') (e + e')

/-- floor(log2(n / d)) for positive n and d. -/
def flog2 (n d : Nat) : Int :=
  let l : Int := (n.log2 : Int) - d.log2
  let ge : Bool := if 0 ≤ l then decide (d * 2 ^ l.toNat ≤ n) else decide (d ≤ n * 2 ^ (-l).toNat)
  if ge then l else l - 1

/-- How a value between two grid points is rounded: to nearest even (R87), or up when r < q (R89). -/
inductive Rnd where
  | ne
  | sr (r : Nat)
  deriving DecidableEq, Repr

/-- Round n/d · 2^e, negative if `neg`, to the grid of `f` with unbounded exponent (R87, R89):
the whole number of quanta and the exponent of the quantum. -/
def roundMag (f : Fmt) (rd : Rnd) (neg : Bool) (n d : Nat) (e : Int) : Nat × Int :=
  if n = 0 then (0, 0)
  else
    let top := flog2 n d + e
    let emin : Int := 1 - (f.bias : Int)
    let q : Int := max top emin - f.mb
    let sh := e - q
    let num := if 0 ≤ sh then n * 2 ^ sh.toNat else n
    let den := if 0 ≤ sh then d else d * 2 ^ (-sh).toNat
    let k := num / den
    let rem := num % den
    if rem = 0 then (k, q)
    else match rd with
      | .ne =>
        if den < 2 * rem || (2 * rem == den && k % 2 == 1) then (k + 1, q) else (k, q)
      | .sr r =>
        -- the fraction of v above the grid value below it, 32 bits, truncated
        let frac := if neg then (den - rem) * 2 ^ 32 / den else rem * 2 ^ 32 / den
        let up : Bool := decide (r < frac)      -- toward +infinity
        if up != neg then (k + 1, q) else (k, q)

/-- The magnitude code of k · 2^q; none beyond the greatest finite value (Table 3.1). -/
def encodeMag (f : Fmt) (k : Nat) (q : Int) : Option Nat :=
  if k = 0 then some 0
  else
    let emin : Int := 1 - (f.bias : Int)
    let e : Int := (k.log2 : Int) + q
    let code : Nat :=
      if e < emin then k
      else
        let sh := e - q - f.mb                 -- k has e - q + 1 bits; keep mb + 1 of them (exact)
        let sig := if 0 ≤ sh then k / 2 ^ sh.toNat else k * 2 ^ (-sh).toNat
        (e + f.bias).toNat * 2 ^ f.mb + (sig - 2 ^ f.mb)
    if code ≤ f.maxCode then some code else none

/-- The NaN an output format writes (Table 3.6). -/
def nanCode (f : Fmt) : Nat := if f.maxCode = 0x7E then 0x7F
  else if f.maxCode = 0x7B then 0x7F
  else if f.maxCode = 0x7F7F then 0x7FC0
  else if f.maxCode = 0x7BFF then 0x7E00
  else 0x7FC00000

/-- The code of an infinity or of an overflow: infinity where the format has one, else the greatest finite value. -/
def infCode (f : Fmt) (satur : Bool) : Nat := if f.hasInf && !satur then f.maxCode + 1 else f.maxCode

/-- Place the sign. -/
def signed (f : Fmt) (neg : Bool) (mag : Nat) : Nat := b2n neg * 2 ^ (f.eb + f.mb) + mag

/-- Round an exact rational once to a format (R86, R87, R89, Table 3.6). -/
def roundRat (f : Fmt) (rd : Rnd) (satur neg : Bool) (n d : Nat) (e : Int) : Nat :=
  let (k, q) := roundMag f rd neg n d e
  signed f neg (match encodeMag f k q with
    | some c => c
    | none => infCode f satur)

/-- Convert an exact value to a format (Table 3.6). -/
def encodeNum (f : Fmt) (rd : Rnd) : Num → Nat
  | .nan => nanCode f
  | .inf s => signed f s (infCode f false)
  | .fin s m e => roundRat f rd false s m 1 e

/-! FP32 arithmetic: IEEE 754 binary32, nearest even, subnormals kept, one quiet NaN (R41). -/

/-- The value of an FP32 word. -/
def num32 (w : BitVec 32) : Num := decodeNum fp32 w.toNat

/-- The FP32 word nearest a value. -/
def word32 (x : Num) : BitVec 32 := BitVec.ofNat 32 (encodeNum fp32 .ne x)

/-- The quiet NaN (R41). -/
def qnan : BitVec 32 := 0x7FC00000#32

/-- Exact sum of two values; an exact zero of opposite signs is +0 under nearest even. -/
def addNum : Num → Num → Num
  | .nan, _ => .nan
  | _, .nan => .nan
  | .inf a, .inf b => if a = b then .inf a else .nan
  | .inf a, _ => .inf a
  | _, .inf b => .inf b
  | .fin a m e, .fin b m' e' =>
    let q := min e e'
    let x : Int := (if a then -1 else 1) * ((m * 2 ^ (e - q).toNat : Nat) : Int)
    let y : Int := (if b then -1 else 1) * ((m' * 2 ^ (e' - q).toNat : Nat) : Int)
    let s := x + y
    .fin (if s = 0 then a && b else decide (s < 0)) s.natAbs q

/-- Change of sign. -/
def negNum : Num → Num
  | .nan => .nan
  | .inf a => .inf !a
  | .fin a m e => .fin (!a) m e

/-- FP32 sum. -/
def fadd (a b : BitVec 32) : BitVec 32 := word32 (addNum (num32 a) (num32 b))
/-- FP32 difference. -/
def fsub (a b : BitVec 32) : BitVec 32 := word32 (addNum (num32 a) (negNum (num32 b)))
/-- FP32 product. -/
def fmul (a b : BitVec 32) : BitVec 32 := word32 (mulNum (num32 a) (num32 b))
/-- FP32 fused multiply-add, rounded once. -/
def ffma (a b c : BitVec 32) : BitVec 32 := word32 (addNum (mulNum (num32 a) (num32 b)) (num32 c))

/-- a < b of two values that are not NaN; −0 is not less than +0. -/
def ltNum (a b : Num) : Bool :=
  match addNum a (negNum b), a, b with
  | _, .nan, _ => false
  | _, _, .nan => false
  | _, .inf x, .inf y => x && !y
  | _, .inf x, _ => x
  | _, _, .inf y => !y
  | .fin s m _, _, _ => s && m != 0
  | _, _, _ => false

/-- The sign of a value. -/
def negOf : Num → Bool
  | .nan => false
  | .inf s => s
  | .fin s _ _ => s

/-- IEEE 754 maximum: NaN if either is, +0 above −0 (R41, R43). -/
def fmax (a b : BitVec 32) : BitVec 32 :=
  match num32 a, num32 b with
  | .nan, _ => qnan
  | _, .nan => qnan
  | x, y => if ltNum x y then b else if ltNum y x then a else if negOf x then b else a

/-- IEEE 754 minimum (R41, R43). -/
def fmin (a b : BitVec 32) : BitVec 32 :=
  match num32 a, num32 b with
  | .nan, _ => qnan
  | _, .nan => qnan
  | x, y => if ltNum x y then a else if ltNum y x then b else if negOf x then a else b

/-- Every NaN result is the one quiet NaN (R41). -/
def canonNan (w : BitVec 32) : BitVec 32 := if num32 w = .nan then qnan else w

/-- Whether an FP32 word is not zero (SEL, R52). -/
def isNonzero (w : BitVec 32) : Bool :=
  match num32 w with
  | .fin _ m _ => m != 0
  | _ => true

/-- One level after another of the fixed pairwise tree: lane j takes lane j + w, w = 256, 128, …, 1 (R43). -/
def reduceTree (f : BitVec 32 → BitVec 32 → BitVec 32) : Nat → (Nat → BitVec 32) → BitVec 32
  | 0, v => v 0
  | t + 1, v => reduceTree f t (fun j => f (v j) (v (j + 2 ^ t)))

/-! Accumulator elements and passes (R71, R72). -/

/-- SPEC of an element: 0 finite, 1 +inf, 2 −inf, 3 NaN (R71). -/
abbrev Spec := BitVec 2

/-- How SPEC combines: NaN absorbs all, opposite infinities give NaN, an infinity absorbs finite (R71). -/
def specJoin (a b : Spec) : Spec :=
  if a = 3 ∨ b = 3 then 3
  else if a = 0 then b
  else if b = 0 then a
  else if a = b then a else 3

/-- SPEC of one product. -/
def specOf : Num → Spec
  | .nan => 3
  | .inf false => 1
  | .inf true => 2
  | .fin _ _ _ => 0

/-- floor(p / 2^L) of a finite product, an exact integer (R72). -/
def termAt (l : Int) : Num → Int
  | .fin s m e =>
    let sh := e - l
    let v : Int := if s then -(m : Int) else m
    if 0 ≤ sh then v * 2 ^ sh.toNat else v / 2 ^ (-sh).toNat
  | _ => 0

/-- wrap80 of R72. -/
def wrap80 (x : Int) : Int := (x + 2 ^ 79) % 2 ^ 80 - 2 ^ 79

/-- One accumulator element: the sum, its special state and whether a term overflowed (R72). -/
structure Elem where
  sum : Int
  spec : Spec
  ovf : Bool
  deriving DecidableEq, Repr

/-- Sum the truncated terms of one element at window base `l` (R72). -/
def sumTerms (l : Int) (ps : List Num) : Elem :=
  let e := ps.foldl (fun (a : Elem) p =>
    let t := termAt l p
    ⟨a.sum + wrap80 t, specJoin a.spec (specOf p), a.ovf || decide (2 ^ 79 ≤ t.natAbs)⟩) ⟨0, 0, false⟩
  { e with ovf := e.ovf || decide (2 ^ 79 ≤ e.sum.natAbs) }

/-! Long words (R78 to R85). -/

/-- A long word, Table 3.4. `rsv` holds its reserved bits. -/
structure LWord where
  count : BitVec 32
  rsv : BitVec 8
  kind : BitVec 2
  mism : Bool
  wrapped : Bool
  range : Bool
  ninf : Bool
  pinf : Bool
  nan : Bool
  w : BitVec 16
  v : BitVec 128
  deriving DecidableEq, Repr

/-- A zero long word. -/
def LWord.zero : LWord := ⟨0, 0, 0, false, false, false, false, false, false, 0, 0⟩

/-- The 24 bytes of a long word. -/
def LWord.bytes (x : LWord) : List Byte :=
  leBytes 16 x.v.toNat ++ leBytes 2 x.w.toNat ++
  [BitVec.ofNat 8 (x.kind.toNat * 64 + b2n x.mism * 32 + b2n x.wrapped * 16 + b2n x.range * 8 +
    b2n x.ninf * 4 + b2n x.pinf * 2 + b2n x.nan), x.rsv] ++ leBytes 4 x.count.toNat

/-- The long word 24 bytes spell. -/
def LWord.ofBytes (bs : List Byte) : LWord :=
  let n : BitVec 192 := BitVec.ofNat 192 (leNat bs)
  ⟨BitVec.ofNat 32 (fld n 191 160), BitVec.ofNat 8 (fld n 159 152), BitVec.ofNat 2 (fld n 151 150),
   bit n 149, bit n 148, bit n 147, bit n 146, bit n 145, bit n 144,
   BitVec.ofNat 16 (fld n 143 128), BitVec.ofNat 128 (fld n 127 0)⟩

/-- W outside −4,096..4,094, or reserved bits set (R78). -/
def LWord.malformed (x : LWord) : Bool :=
  x.rsv != 0 || decide (x.w.toInt < -4096) || decide (4094 < x.w.toInt)

/-- Combine two long words (R79; R80 when they disagree or one is malformed). A MISMATCH word keeps VALUE 0 whatever joins it, so
that the result is independent of order, as R80 and Table 3.7 have it (log entry 126). -/
def LWord.combine (a b : LWord) : LWord :=
  let pinf := a.pinf || b.pinf
  let ninf := a.ninf || b.ninf
  let nan := a.nan || b.nan || (pinf && ninf)
  let base : LWord := ⟨a.count + b.count, 0, a.kind, a.mism || b.mism, a.wrapped || b.wrapped,
    a.range || b.range, ninf, pinf, nan, a.w, a.v + b.v⟩
  if a.w = b.w ∧ a.kind = b.kind ∧ !a.malformed ∧ !b.malformed ∧ !a.mism ∧ !b.mism then base
  else { base with
    v := 0, mism := true
    w := if a.w.toInt < b.w.toInt then b.w else a.w
    kind := if a.kind.toNat < b.kind.toNat then b.kind else a.kind }

/-- The long word TEXPORT sends for one element: RKIND 0 SUM, 1 SUMSQ, 2 MEANVAR (Table 3.5). -/
def LWord.ofElem (rkind : Nat) (a : Int) (spec : Spec) (l : Int) (wrapped : Bool) : LWord :=
  let big := decide (rkind ≠ 0) && decide (2 ^ 52 ≤ a.natAbs)
  let v : Int := if spec ≠ 0 ∨ big then 0 else if rkind = 1 then a * a else a
  ⟨1, 0, BitVec.ofNat 2 rkind, false, wrapped, big, decide (spec = 2), decide (spec = 1), decide (spec = 3),
   BitVec.ofInt 16 (if rkind = 1 then 2 * l else l), BitVec.ofInt 128 v⟩

/-- The S2 word of a MEANVAR record made from its S1 word (R83). -/
def LWord.square (s1 : LWord) : LWord :=
  { s1 with kind := 3, w := BitVec.ofInt 16 (2 * s1.w.toInt),
            v := if s1.range then 0 else BitVec.ofInt 128 (s1.v.toInt * s1.v.toInt) }

/-- The exact value a SUM or SUMSQ long word finalises (R84). -/
def LWord.num (x : LWord) : Num :=
  if x.nan || x.mism || x.range || x.malformed || (x.pinf && x.ninf) then .nan
  else if x.pinf then .inf false
  else if x.ninf then .inf true
  else .fin (decide (x.v.toInt < 0)) x.v.toInt.natAbs x.w.toInt

/-- An exact rational n/d·2^e rounded once to FP32 (round32 of R85). -/
def round32 (neg : Bool) (n d : Nat) (e : Int) : BitVec 32 := BitVec.ofNat 32 (roundRat fp32 .ne false neg n d e)

/-- A MEANVAR record finalised to mean and variance (R85); `sample` selects the sample variance. -/
def finalMeanVar (sample : Bool) (s1 s2 : LWord) : BitVec 32 × BitVec 32 :=
  let bad (x : LWord) : Bool := x.nan || x.pinf || x.ninf || x.mism || x.range || x.malformed
  let n := s1.count.toNat
  if n = 0 ∨ bad s1 ∨ bad s2 ∨ s1.kind ≠ 2 ∨ s2.kind ≠ 3 ∨ s2.w.toInt ≠ 2 * s1.w.toInt ∨ s1.count ≠ s2.count then
    (qnan, qnan)
  else
    let x := s1.v.toInt
    let d : Int := (n : Int) * s2.v.toInt - x * x
    let l := s1.w.toInt
    let mean := round32 (decide (x < 0)) x.natAbs n l
    let var := if sample then (if n = 1 then qnan else round32 (decide (d < 0)) d.natAbs (n * (n - 1)) (2 * l))
      else round32 (decide (d < 0)) d.natAbs (n * n) (2 * l)
    (mean, var)

/-! Keyed stochastic rounding (R90). -/

/-- rotl64 of R90. -/
def rotl64 (x : Word) (s : Nat) : Word := x.rotateLeft s

/-- The mixing function srmix (R90). -/
def srmix (k0 k1 step : Word) (tid : BitVec 16) (idx : Word) : Nat :=
  let a0 : Word := idx ^^^ k0
  let b0 : Word := ((tid.setWidth 64 <<< 48) ||| (step &&& 0xFFFFFFFFFFFF#64)) ^^^ k1
  let (a, b) := (List.range 6).foldl (fun (ab : Word × Word) i =>
    let a := ab.1 + ab.2 + (if i % 2 = 0 then k0 else k1) + BitVec.ofNat 64 i
    let a := a ^^^ (a >>> 29)
    let a := a * 0x8F3D61B2C45E7A19#64
    let b := ab.2 ^^^ rotl64 a 27
    let b := b * 0x5B2E94F7D1630AC5#64
    (a, b ^^^ (b >>> 31))) (a0, b0)
  ((a ^^^ b) >>> 32).toNat % 2 ^ 32

/-! Output of one MX block (R88). -/

/-- The greatest magnitude exponent, floor(log2(max |v|)), of the finite values of a block; none when all are zero. -/
def maxLog2 (vs : List Num) : Option Int :=
  vs.foldl (fun (a : Option Int) v => match v with
    | .fin _ m e => if m = 0 then a else
        let l := (m.log2 : Int) + e
        some (match a with
          | none => l
          | some x => max x l)
    | _ => a) none

/-- emax of R88. -/
def emaxOf : Nat → Int
  | 2 => 8
  | 3 => 15
  | 5 => 4
  | _ => 2

/-- The record of one MX output block: scale byte and packed elements (R69, R86, R88). -/
def mxBlock (code : Nat) (rd : Nat → Rnd) (vs : List Num) : List Byte :=
  let f := fmtOf code
  let special := vs.any (fun v => match v with
    | .fin _ _ _ => false
    | _ => true)
  let x : Int := match maxLog2 vs with
    | none => -127
    | some l => l - emaxOf code
  let x := min (max x (-127)) 127
  let els := (List.range vs.length).map (fun i => match vs.getD i .nan with
    | .fin s m e => if special then 0 else if m = 0 then 0 else roundRat f (rd i) true s m 1 (e - x)
    | _ => 0)
  let body := els.zipIdx.foldl (fun a (r, i) => a + r * 2 ^ (fmtBits code * i)) 0
  BitVec.ofNat 8 (if special then 255 else (x + 127).toNat) :: leBytes (recordBytes code - 1) body

end Sys2Proof.Machine
end

