-- ==== Sys2Proof/Machine/Regs.lean ====
section
/-!
DEFINITION. The register layout of every page class, transcribed field by field from the register tables
of the spec (chapters 02 to 17): offset, copies, access, reset value; and a name for every field.
-/

namespace Sys2Proof.Machine

/-- Access types (Table 16.6). `w1cAll`: a W1C count, which a 1 in its lowest bit returns to its reset value. -/
inductive Acc where
  | ro | rw | w1c | w1cAll | w1s | wo | rwo | rwp
  deriving DecidableEq, Repr

/-- A field of a register: place, access, reset value (0 where the spec states none: log entry 1). -/
structure FldDef where
  hi : Nat
  lo : Nat
  acc : Acc
  rst : Nat
  deriving DecidableEq, Repr

/-- A register, or an array of registers: the offset of the first, the number, the distance, per port or not (R461). -/
structure RegDef where
  off : Nat
  cnt : Nat
  stride : Nat
  perPort : Bool
  acc : Acc
  flds : List FldDef
  deriving DecidableEq, Repr

/-- The name of a field: offset on its page, bits, and the distance of an array. -/
structure Fld where
  off : Nat
  hi : Nat
  lo : Nat
  stride : Nat := 0
  deriving DecidableEq, Repr


/-- CLU_STATE (R66, 02). -/
def CLU_STATE : RegDef := ⟨0x80, 1, 8, false, .ro, [⟨27, 24, .ro, 15⟩, ⟨21, 12, .ro, 1023⟩, ⟨2, 0, .ro, 4⟩]⟩
abbrev CLU_STATE_PART : Fld := ⟨0x80, 27, 24, 0⟩
abbrev CLU_STATE_LC : Fld := ⟨0x80, 21, 12, 0⟩
abbrev CLU_STATE_PSTATE : Fld := ⟨0x80, 2, 0, 0⟩

/-- CLU_SEQ_ENTRY (R66, 02). -/
def CLU_SEQ_ENTRY : RegDef := ⟨0x88, 1, 8, false, .rwo, [⟨24, 4, .rwo, 0⟩]⟩
abbrev CLU_SEQ_ENTRY_ENTRY : Fld := ⟨0x88, 24, 4, 0⟩

/-- CLU_SEQ_STATUS (R66, 02). -/
def CLU_SEQ_STATUS : RegDef := ⟨0x90, 1, 8, false, .ro, [⟨51, 48, .ro, 0⟩, ⟨47, 44, .ro, 0⟩, ⟨43, 40, .ro, 0⟩, ⟨39, 37, .ro, 0⟩, ⟨31, 11, .ro, 0⟩, ⟨2, 0, .ro, 0⟩]⟩
abbrev CLU_SEQ_STATUS_LAST : Fld := ⟨0x90, 51, 48, 0⟩
abbrev CLU_SEQ_STATUS_FCODE : Fld := ⟨0x90, 47, 44, 0⟩
abbrev CLU_SEQ_STATUS_CALLD : Fld := ⟨0x90, 43, 40, 0⟩
abbrev CLU_SEQ_STATUS_LOOPD : Fld := ⟨0x90, 39, 37, 0⟩
abbrev CLU_SEQ_STATUS_PC : Fld := ⟨0x90, 31, 11, 0⟩
abbrev CLU_SEQ_STATUS_STATE : Fld := ⟨0x90, 2, 0, 0⟩

/-- CLU_THROTTLE (R66, 02). -/
def CLU_THROTTLE : RegDef := ⟨0x98, 1, 8, false, .ro, [⟨9, 8, .ro, 0⟩, ⟨4, 0, .ro, 16⟩]⟩
abbrev CLU_THROTTLE_SRC : Fld := ⟨0x98, 9, 8, 0⟩
abbrev CLU_THROTTLE_N : Fld := ⟨0x98, 4, 0, 0⟩

/-- CLU_WRAP (R66, 02). -/
def CLU_WRAP : RegDef := ⟨0xA0, 1, 8, false, .ro, [⟨47, 0, .ro, 0⟩]⟩
abbrev CLU_WRAP_COUNT : Fld := ⟨0xA0, 47, 0, 0⟩

/-- CLU_RETRY (R66, 02). -/
def CLU_RETRY : RegDef := ⟨0xA8, 1, 8, false, .ro, [⟨47, 0, .ro, 0⟩]⟩
abbrev CLU_RETRY_COUNT : Fld := ⟨0xA8, 47, 0, 0⟩

/-- CLU_CST_ECC (R66, 02). -/
def CLU_CST_ECC : RegDef := ⟨0xB0, 1, 8, false, .w1c, [⟨47, 32, .w1cAll, 0⟩, ⟨31, 0, .w1cAll, 0⟩]⟩
abbrev CLU_CST_ECC_UE : Fld := ⟨0xB0, 47, 32, 0⟩
abbrev CLU_CST_ECC_CE : Fld := ⟨0xB0, 31, 0, 0⟩

/-- CLU_BANKSTALL (R66, 02). -/
def CLU_BANKSTALL : RegDef := ⟨0xB8, 1, 8, false, .ro, [⟨63, 0, .ro, 0⟩]⟩
abbrev CLU_BANKSTALL_COUNT : Fld := ⟨0xB8, 63, 0, 0⟩

/-- CLU_TBUSY (R66, 02). -/
def CLU_TBUSY : RegDef := ⟨0xC0, 1, 8, false, .ro, [⟨63, 0, .ro, 0⟩]⟩
abbrev CLU_TBUSY_COUNT : Fld := ⟨0xC0, 63, 0, 0⟩

/-- CLU_PARK (R281, 09). -/
def CLU_PARK : RegDef := ⟨0xC8, 1, 8, false, .ro, [⟨63, 63, .ro, 0⟩, ⟨47, 0, .ro, 0⟩]⟩
abbrev CLU_PARK_GATED : Fld := ⟨0xC8, 63, 63, 0⟩
abbrev CLU_PARK_PARKUS : Fld := ⟨0xC8, 47, 0, 0⟩

/-- CLU_ACC_SEL (R94, 03). -/
def CLU_ACC_SEL : RegDef := ⟨0x100, 1, 8, false, .rwo, [⟨15, 15, .rwo, 0⟩, ⟨14, 8, .rwo, 0⟩, ⟨7, 0, .rwo, 0⟩]⟩
abbrev CLU_ACC_SEL_SET : Fld := ⟨0x100, 15, 15, 0⟩
abbrev CLU_ACC_SEL_ROW : Fld := ⟨0x100, 14, 8, 0⟩
abbrev CLU_ACC_SEL_COL : Fld := ⟨0x100, 7, 0, 0⟩

/-- CLU_ACC_LO (R94, 03). -/
def CLU_ACC_LO : RegDef := ⟨0x108, 1, 8, false, .ro, [⟨63, 0, .ro, 0⟩]⟩
abbrev CLU_ACC_LO_ALO : Fld := ⟨0x108, 63, 0, 0⟩

/-- CLU_ACC_HI (R94, 03). -/
def CLU_ACC_HI : RegDef := ⟨0x110, 1, 8, false, .ro, [⟨31, 0, .ro, 0⟩]⟩
abbrev CLU_ACC_HI_AHI : Fld := ⟨0x110, 31, 0, 0⟩

/-- CLU_ACC_META (R94, 03). -/
def CLU_ACC_META : RegDef := ⟨0x118, 1, 8, false, .ro, [⟨23, 23, .ro, 0⟩, ⟨22, 22, .ro, 0⟩, ⟨21, 19, .ro, 0⟩, ⟨17, 16, .ro, 0⟩, ⟨11, 0, .ro, 0⟩]⟩
abbrev CLU_ACC_META_BUSY : Fld := ⟨0x118, 23, 23, 0⟩
abbrev CLU_ACC_META_WRAPPED : Fld := ⟨0x118, 22, 22, 0⟩
abbrev CLU_ACC_META_RTRY : Fld := ⟨0x118, 21, 19, 0⟩
abbrev CLU_ACC_META_SPEC : Fld := ⟨0x118, 17, 16, 0⟩
abbrev CLU_ACC_META_WB : Fld := ⟨0x118, 11, 0, 0⟩

/-- CLU_DFTn_STATUS (R124, 04). -/
def CLU_DFTn_STATUS : RegDef := ⟨0x200, 4, 16, false, .ro, [⟨51, 48, .ro, 0⟩, ⟨47, 32, .ro, 0⟩, ⟨24, 6, .ro, 0⟩, ⟨5, 3, .ro, 0⟩, ⟨2, 0, .ro, 0⟩]⟩
abbrev CLU_DFTn_STATUS_FIRST : Fld := ⟨0x200, 51, 48, 16⟩
abbrev CLU_DFTn_STATUS_ERRS : Fld := ⟨0x200, 47, 32, 16⟩
abbrev CLU_DFTn_STATUS_DESC : Fld := ⟨0x200, 24, 6, 16⟩
abbrev CLU_DFTn_STATUS_CAUSE : Fld := ⟨0x200, 5, 3, 16⟩
abbrev CLU_DFTn_STATUS_STATE : Fld := ⟨0x200, 2, 0, 16⟩

/-- CLU_DFTn_COUNT (R124, 04). -/
def CLU_DFTn_COUNT : RegDef := ⟨0x208, 4, 16, false, .ro, [⟨63, 48, .ro, 0⟩, ⟨47, 0, .ro, 0⟩]⟩
abbrev CLU_DFTn_COUNT_RWD : Fld := ⟨0x208, 63, 48, 16⟩
abbrev CLU_DFTn_COUNT_SLOTS : Fld := ⟨0x208, 47, 0, 16⟩

/-- CLU_SPR_UNPAIRED (R124, 04). -/
def CLU_SPR_UNPAIRED : RegDef := ⟨0x240, 1, 8, false, .ro, [⟨47, 0, .ro, 0⟩]⟩
abbrev CLU_SPR_UNPAIRED_COUNT : Fld := ⟨0x240, 47, 0, 0⟩

/-- CLU_PLYCNT (R308, 10). -/
def CLU_PLYCNT : RegDef := ⟨0x300, 1, 8, false, .ro, [⟨63, 32, .ro, 0⟩, ⟨31, 0, .ro, 0⟩]⟩
abbrev CLU_PLYCNT_DUP : Fld := ⟨0x300, 63, 32, 0⟩
abbrev CLU_PLYCNT_CHOSEN : Fld := ⟨0x300, 31, 0, 0⟩

/-- CLU_PLYERR (R308, 10). -/
def CLU_PLYERR : RegDef := ⟨0x308, 1, 8, false, .ro, [⟨63, 48, .ro, 0⟩, ⟨47, 32, .ro, 0⟩, ⟨31, 16, .ro, 0⟩, ⟨15, 0, .ro, 0⟩]⟩
abbrev CLU_PLYERR_WRONG : Fld := ⟨0x308, 63, 48, 0⟩
abbrev CLU_PLYERR_UNRES : Fld := ⟨0x308, 47, 32, 0⟩
abbrev CLU_PLYERR_SKIP : Fld := ⟨0x308, 31, 16, 0⟩
abbrev CLU_PLYERR_FLAGS : Fld := ⟨0x308, 15, 0, 0⟩

/-- CLU_SLUB (R308, 10). -/
def CLU_SLUB : RegDef := ⟨0x310, 1, 8, false, .ro, [⟨63, 63, .ro, 0⟩, ⟨62, 60, .ro, 0⟩, ⟨31, 0, .ro, 0⟩]⟩
abbrev CLU_SLUB_PROB : Fld := ⟨0x310, 63, 63, 0⟩
abbrev CLU_SLUB_MSTEP : Fld := ⟨0x310, 62, 60, 0⟩
abbrev CLU_SLUB_SCORE : Fld := ⟨0x310, 31, 0, 0⟩

/-- CLU_CHKSLUB (R308, 10). -/
def CLU_CHKSLUB : RegDef := ⟨0x318, 1, 8, false, .ro, [⟨63, 63, .ro, 0⟩, ⟨31, 0, .ro, 0⟩]⟩
abbrev CLU_CHKSLUB_CHKOFF : Fld := ⟨0x318, 63, 63, 0⟩
abbrev CLU_CHKSLUB_SCORE : Fld := ⟨0x318, 31, 0, 0⟩

/-- CLU_PLYRECi (R308, 10). -/
def CLU_PLYRECi : RegDef := ⟨0x320, 4, 8, false, .ro, [⟨63, 0, .ro, 0⟩]⟩
abbrev CLU_PLYRECi_REC : Fld := ⟨0x320, 63, 0, 8⟩

/-- CLU_CHKRECi (R308, 10). -/
def CLU_CHKRECi : RegDef := ⟨0x340, 4, 8, false, .ro, [⟨63, 0, .ro, 0⟩]⟩
abbrev CLU_CHKRECi_REC : Fld := ⟨0x340, 63, 0, 8⟩

/-- CLU_SDIG_LO (R342, 11). -/
def CLU_SDIG_LO : RegDef := ⟨0x360, 1, 8, false, .ro, [⟨63, 0, .ro, 0⟩]⟩
abbrev CLU_SDIG_LO_D : Fld := ⟨0x360, 63, 0, 0⟩

/-- CLU_SDIG_HI (R342, 11). -/
def CLU_SDIG_HI : RegDef := ⟨0x368, 1, 8, false, .ro, [⟨63, 0, .ro, 0⟩]⟩
abbrev CLU_SDIG_HI_D : Fld := ⟨0x368, 63, 0, 0⟩

/-- CLU_SPL (R342, 11). -/
def CLU_SPL : RegDef := ⟨0x370, 1, 8, false, .rwo, [⟨63, 63, .rwo, 0⟩, ⟨62, 61, .ro, 0⟩, ⟨59, 50, .rwo, 0⟩, ⟨47, 40, .rwo, 16⟩, ⟨39, 32, .ro, 0⟩, ⟨31, 16, .ro, 0⟩]⟩
abbrev CLU_SPL_EN : Fld := ⟨0x370, 63, 63, 0⟩
abbrev CLU_SPL_STATE : Fld := ⟨0x370, 62, 61, 0⟩
abbrev CLU_SPL_TLC : Fld := ⟨0x370, 59, 50, 0⟩
abbrev CLU_SPL_NEED : Fld := ⟨0x370, 47, 40, 0⟩
abbrev CLU_SPL_CLEAN : Fld := ⟨0x370, 39, 32, 0⟩
abbrev CLU_SPL_MISS : Fld := ⟨0x370, 31, 16, 0⟩

/-- CLU_RMON (R363, 12). -/
def CLU_RMON : RegDef := ⟨0x378, 1, 8, false, .w1c, [⟨63, 62, .ro, 0⟩, ⟨13, 8, .w1cAll, 63⟩, ⟨5, 0, .ro, 63⟩]⟩
abbrev CLU_RMON_RSTEP : Fld := ⟨0x378, 63, 62, 0⟩
abbrev CLU_RMON_MIN : Fld := ⟨0x378, 13, 8, 0⟩
abbrev CLU_RMON_NOW : Fld := ⟨0x378, 5, 0, 0⟩

/-- CLU_RST (R437, 14). -/
def CLU_RST : RegDef := ⟨0x380, 1, 8, false, .rwo, [⟨55, 52, .ro, 0⟩, ⟨47, 32, .ro, 0⟩, ⟨8, 8, .rwo, 0⟩, ⟨1, 1, .w1s, 0⟩, ⟨0, 0, .w1s, 0⟩]⟩
abbrev CLU_RST_RESULT : Fld := ⟨0x380, 55, 52, 0⟩
abbrev CLU_RST_ABSN : Fld := ⟨0x380, 47, 32, 0⟩
abbrev CLU_RST_SCRUB : Fld := ⟨0x380, 8, 8, 0⟩
abbrev CLU_RST_CLU : Fld := ⟨0x380, 1, 1, 0⟩
abbrev CLU_RST_SEQ : Fld := ⟨0x380, 0, 0, 0⟩

/-- CLU_STEST (R437, 14). -/
def CLU_STEST : RegDef := ⟨0x388, 1, 8, false, .rwo, [⟨63, 60, .ro, 0⟩, ⟨31, 16, .ro, 0⟩, ⟨1, 1, .rwo, 0⟩, ⟨0, 0, .w1s, 0⟩]⟩
abbrev CLU_STEST_RESULT : Fld := ⟨0x388, 63, 60, 0⟩
abbrev CLU_STEST_FAILBLK : Fld := ⟨0x388, 31, 16, 0⟩
abbrev CLU_STEST_DEFER : Fld := ⟨0x388, 1, 1, 0⟩
abbrev CLU_STEST_GO : Fld := ⟨0x388, 0, 0, 0⟩

/-- The block registers of class CLU. -/
def regsCLU : List RegDef :=
  [CLU_STATE, CLU_SEQ_ENTRY, CLU_SEQ_STATUS, CLU_THROTTLE, CLU_WRAP, CLU_RETRY] ++
  [CLU_CST_ECC, CLU_BANKSTALL, CLU_TBUSY, CLU_PARK, CLU_ACC_SEL, CLU_ACC_LO] ++
  [CLU_ACC_HI, CLU_ACC_META, CLU_DFTn_STATUS, CLU_DFTn_COUNT, CLU_SPR_UNPAIRED, CLU_PLYCNT] ++
  [CLU_PLYERR, CLU_SLUB, CLU_CHKSLUB, CLU_PLYRECi, CLU_CHKRECi, CLU_SDIG_LO] ++
  [CLU_SDIG_HI, CLU_SPL, CLU_RMON, CLU_RST, CLU_STEST]

/-- PART_JKEY_LO (R469, 16). -/
def PART_JKEY_LO : RegDef := ⟨0x80, 1, 8, false, .wo, [⟨63, 0, .wo, 0⟩]⟩
abbrev PART_JKEY_LO_K : Fld := ⟨0x80, 63, 0, 0⟩

/-- PART_JKEY_HI (R469, 16). -/
def PART_JKEY_HI : RegDef := ⟨0x88, 1, 8, false, .wo, [⟨63, 0, .wo, 0⟩]⟩
abbrev PART_JKEY_HI_K : Fld := ⟨0x88, 63, 0, 0⟩

/-- PART_JKCTL (R469, 16). -/
def PART_JKCTL : RegDef := ⟨0x90, 1, 8, false, .rwo, [⟨63, 63, .rwo, 0⟩, ⟨62, 62, .ro, 0⟩, ⟨47, 32, .ro, 0⟩]⟩
abbrev PART_JKCTL_VALID : Fld := ⟨0x90, 63, 63, 0⟩
abbrev PART_JKCTL_INUSE : Fld := ⟨0x90, 62, 62, 0⟩
abbrev PART_JKCTL_KWR : Fld := ⟨0x90, 47, 32, 0⟩

/-- PART_SPR_BASEi (R125, 04). -/
def PART_SPR_BASEi : RegDef := ⟨0x400, 16, 16, false, .rwo, [⟨63, 16, .rwo, 0⟩]⟩
abbrev PART_SPR_BASEi_BASE : Fld := ⟨0x400, 63, 16, 16⟩

/-- PART_SPR_CTLi (R125, 04). -/
def PART_SPR_CTLi : RegDef := ⟨0x408, 16, 16, false, .rwo, [⟨63, 63, .rwo, 0⟩, ⟨62, 62, .ro, 0⟩, ⟨5, 0, .rwo, 0⟩]⟩
abbrev PART_SPR_CTLi_VALID : Fld := ⟨0x408, 63, 63, 16⟩
abbrev PART_SPR_CTLi_ERR : Fld := ⟨0x408, 62, 62, 16⟩
abbrev PART_SPR_CTLi_HLOG2 : Fld := ⟨0x408, 5, 0, 16⟩

/-- PART_PLY (R307, 10). -/
def PART_PLY : RegDef := ⟨0x500, 1, 8, false, .rwo, [⟨47, 40, .rwo, 20⟩, ⟨16, 16, .rwo, 1⟩, ⟨3, 3, .ro, 0⟩, ⟨2, 0, .rwo, 0⟩]⟩
abbrev PART_PLY_PLYTMO : Fld := ⟨0x500, 47, 40, 0⟩
abbrev PART_PLY_CHKEN : Fld := ⟨0x500, 16, 16, 0⟩
abbrev PART_PLY_ERR : Fld := ⟨0x500, 3, 3, 0⟩
abbrev PART_PLY_F : Fld := ⟨0x500, 2, 0, 0⟩

/-- PART_PLYSTAT (R307, 10). -/
def PART_PLYSTAT : RegDef := ⟨0x508, 1, 8, false, .ro, [⟨63, 63, .ro, 0⟩, ⟨62, 48, .ro, 0⟩, ⟨47, 0, .ro, 0⟩]⟩
abbrev PART_PLYSTAT_ABORTREQ : Fld := ⟨0x508, 63, 63, 0⟩
abbrev PART_PLYSTAT_OPEN : Fld := ⟨0x508, 62, 48, 0⟩
abbrev PART_PLYSTAT_ASTEP : Fld := ⟨0x508, 47, 0, 0⟩

/-- PART_RPL (R341, 11). -/
def PART_RPL : RegDef := ⟨0x600, 1, 8, false, .rwo, [⟨11, 8, .rwo, 3⟩, ⟨3, 3, .rwo, 0⟩, ⟨2, 2, .rwo, 0⟩, ⟨1, 1, .rwo, 1⟩, ⟨0, 0, .rwo, 0⟩]⟩
abbrev PART_RPL_MAXRPL : Fld := ⟨0x600, 11, 8, 0⟩
abbrev PART_RPL_LOSSAUTO : Fld := ⟨0x600, 3, 3, 0⟩
abbrev PART_RPL_AUTOSWAP : Fld := ⟨0x600, 2, 2, 0⟩
abbrev PART_RPL_SKRST : Fld := ⟨0x600, 1, 1, 0⟩
abbrev PART_RPL_BUDDY : Fld := ⟨0x600, 0, 0, 0⟩

/-- PART_SEED (R341, 11). -/
def PART_SEED : RegDef := ⟨0x608, 1, 8, false, .rwo, [⟨51, 16, .rwo, 0⟩, ⟨8, 0, .rwo, 0⟩]⟩
abbrev PART_SEED_BASE : Fld := ⟨0x608, 51, 16, 0⟩
abbrev PART_SEED_SLEN : Fld := ⟨0x608, 8, 0, 0⟩

/-- PART_CMT (R341, 11). -/
def PART_CMT : RegDef := ⟨0x610, 1, 8, false, .rwo, [⟨62, 62, .w1s, 0⟩, ⟨61, 61, .w1s, 0⟩, ⟨60, 60, .w1s, 0⟩, ⟨59, 59, .w1s, 0⟩, ⟨58, 58, .ro, 0⟩, ⟨57, 57, .ro, 0⟩, ⟨56, 56, .w1c, 0⟩, ⟨55, 55, .ro, 0⟩, ⟨54, 52, .ro, 0⟩, ⟨51, 48, .ro, 0⟩, ⟨47, 0, .rwo, 0⟩]⟩
abbrev PART_CMT_COMMIT : Fld := ⟨0x610, 62, 62, 0⟩
abbrev PART_CMT_ABORT : Fld := ⟨0x610, 61, 61, 0⟩
abbrev PART_CMT_ACKLOSS : Fld := ⟨0x610, 60, 60, 0⟩
abbrev PART_CMT_RESTORE : Fld := ⟨0x610, 59, 59, 0⟩
abbrev PART_CMT_FPOIS : Fld := ⟨0x610, 58, 58, 0⟩
abbrev PART_CMT_ERR : Fld := ⟨0x610, 57, 57, 0⟩
abbrev PART_CMT_DEGR : Fld := ⟨0x610, 56, 56, 0⟩
abbrev PART_CMT_MEMLOSS : Fld := ⟨0x610, 55, 55, 0⟩
abbrev PART_CMT_STATE : Fld := ⟨0x610, 54, 52, 0⟩
abbrev PART_CMT_FAILC : Fld := ⟨0x610, 51, 48, 0⟩
abbrev PART_CMT_LASTCMT : Fld := ⟨0x610, 47, 0, 0⟩

/-- PART_CMTST (R341, 11). -/
def PART_CMTST : RegDef := ⟨0x618, 1, 8, false, .ro, [⟨63, 60, .ro, 0⟩, ⟨47, 0, .ro, 0⟩]⟩
abbrev PART_CMTST_RPLN : Fld := ⟨0x618, 63, 60, 0⟩
abbrev PART_CMTST_CUR : Fld := ⟨0x618, 47, 0, 0⟩

/-- PART_SDIG_LO (R341, 11). -/
def PART_SDIG_LO : RegDef := ⟨0x620, 1, 8, false, .ro, [⟨63, 0, .ro, 0⟩]⟩
abbrev PART_SDIG_LO_D : Fld := ⟨0x620, 63, 0, 0⟩

/-- PART_SDIG_HI (R341, 11). -/
def PART_SDIG_HI : RegDef := ⟨0x628, 1, 8, false, .ro, [⟨63, 0, .ro, 0⟩]⟩
abbrev PART_SDIG_HI_D : Fld := ⟨0x628, 63, 0, 0⟩

/-- PART_SPL (R341, 11). -/
def PART_SPL : RegDef := ⟨0x630, 1, 8, false, .rwo, [⟨63, 62, .rwo, 0⟩, ⟨61, 60, .ro, 0⟩, ⟨59, 48, .rwo, 0⟩, ⟨47, 40, .rwo, 16⟩, ⟨39, 32, .ro, 0⟩, ⟨31, 16, .ro, 0⟩]⟩
abbrev PART_SPL_ROLE : Fld := ⟨0x630, 63, 62, 0⟩
abbrev PART_SPL_STATE : Fld := ⟨0x630, 61, 60, 0⟩
abbrev PART_SPL_TWIN : Fld := ⟨0x630, 59, 48, 0⟩
abbrev PART_SPL_NEED : Fld := ⟨0x630, 47, 40, 0⟩
abbrev PART_SPL_CLEAN : Fld := ⟨0x630, 39, 32, 0⟩
abbrev PART_SPL_MISS : Fld := ⟨0x630, 31, 16, 0⟩

/-- PART_SPLREC (R341, 11). -/
def PART_SPLREC : RegDef := ⟨0x638, 1, 8, false, .rwo, [⟨63, 6, .rwo, 0⟩]⟩
abbrev PART_SPLREC_ADDR : Fld := ⟨0x638, 63, 6, 0⟩

/-- PART_MIRi_DST (R341, 11). -/
def PART_MIRi_DST : RegDef := ⟨0x700, 16, 16, false, .rwo, [⟨63, 52, .rwo, 0⟩, ⟨51, 16, .rwo, 0⟩]⟩
abbrev PART_MIRi_DST_LPANEL : Fld := ⟨0x700, 63, 52, 16⟩
abbrev PART_MIRi_DST_DBASE : Fld := ⟨0x700, 51, 16, 16⟩

/-- PART_MIRi_CTL (R341, 11). -/
def PART_MIRi_CTL : RegDef := ⟨0x708, 16, 16, false, .rwo, [⟨63, 63, .rwo, 0⟩, ⟨62, 62, .ro, 0⟩]⟩
abbrev PART_MIRi_CTL_V : Fld := ⟨0x708, 63, 63, 16⟩
abbrev PART_MIRi_CTL_ERR : Fld := ⟨0x708, 62, 62, 16⟩

/-- PART_ROT (R400, 13). -/
def PART_ROT : RegDef := ⟨0x800, 1, 8, false, .rwo, [⟨63, 63, .rwo, 0⟩, ⟨62, 62, .ro, 0⟩, ⟨55, 48, .rwo, 0⟩, ⟨47, 40, .ro, 0⟩, ⟨24, 3, .rwo, 0⟩]⟩
abbrev PART_ROT_EN : Fld := ⟨0x800, 63, 63, 0⟩
abbrev PART_ROT_ERR : Fld := ⟨0x800, 62, 62, 0⟩
abbrev PART_ROT_GSIZE : Fld := ⟨0x800, 55, 48, 0⟩
abbrev PART_ROT_ROT : Fld := ⟨0x800, 47, 40, 0⟩
abbrev PART_ROT_OFS : Fld := ⟨0x800, 24, 3, 0⟩

/-- PART_ENR (R400, 13). -/
def PART_ENR : RegDef := ⟨0x808, 1, 8, false, .rwo, [⟨63, 52, .rwo, 0⟩, ⟨51, 5, .rwo, 0⟩, ⟨0, 0, .ro, 0⟩]⟩
abbrev PART_ENR_NM1 : Fld := ⟨0x808, 63, 52, 0⟩
abbrev PART_ENR_ADDR : Fld := ⟨0x808, 51, 5, 0⟩
abbrev PART_ENR_ERR : Fld := ⟨0x808, 0, 0, 0⟩

/-- PART_ENLASTi (R400, 13). -/
def PART_ENLASTi : RegDef := ⟨0x810, 4, 8, false, .rwo, [⟨63, 0, .ro, 0⟩]⟩
abbrev PART_ENLASTi_W : Fld := ⟨0x810, 63, 0, 8⟩

/-- PART_STEP (R436, 14). -/
def PART_STEP : RegDef := ⟨0x900, 1, 8, false, .rwo, [⟨63, 63, .w1s, 0⟩, ⟨62, 62, .w1s, 0⟩, ⟨61, 61, .w1s, 0⟩, ⟨56, 56, .ro, 0⟩, ⟨55, 52, .ro, 0⟩, ⟨47, 0, .rwo, 0⟩]⟩
abbrev PART_STEP_START : Fld := ⟨0x900, 63, 63, 0⟩
abbrev PART_STEP_SUSP : Fld := ⟨0x900, 62, 62, 0⟩
abbrev PART_STEP_RESUME : Fld := ⟨0x900, 61, 61, 0⟩
abbrev PART_STEP_SUSPD : Fld := ⟨0x900, 56, 56, 0⟩
abbrev PART_STEP_RESULT : Fld := ⟨0x900, 55, 52, 0⟩
abbrev PART_STEP_STEP : Fld := ⟨0x900, 47, 0, 0⟩

/-- PART_RST (R436, 14). -/
def PART_RST : RegDef := ⟨0x908, 1, 8, false, .rwo, [⟨55, 52, .ro, 0⟩, ⟨9, 8, .rwo, 0⟩, ⟨0, 0, .w1s, 0⟩]⟩
abbrev PART_RST_RESULT : Fld := ⟨0x908, 55, 52, 0⟩
abbrev PART_RST_SCRUB : Fld := ⟨0x908, 9, 8, 0⟩
abbrev PART_RST_RST : Fld := ⟨0x908, 0, 0, 0⟩

/-- PART_CFG (R436, 14). -/
def PART_CFG : RegDef := ⟨0x910, 1, 8, false, .rwo, [⟨1, 0, .rwo, 0⟩]⟩
abbrev PART_CFG_HOSTP : Fld := ⟨0x910, 1, 0, 0⟩

/-- PART_LCi (R436, 14). -/
def PART_LCi : RegDef := ⟨0x940, 13, 8, false, .rwo, [⟨63, 0, .rwo, 0⟩]⟩
abbrev PART_LCi_LC : Fld := ⟨0x940, 63, 0, 8⟩

/-- PART_MEMi_BASE (R436, 14). -/
def PART_MEMi_BASE : RegDef := ⟨0x9C0, 8, 16, false, .rwo, [⟨51, 12, .rwo, 0⟩]⟩
abbrev PART_MEMi_BASE_BASE : Fld := ⟨0x9C0, 51, 12, 16⟩

/-- PART_MEMi_SIZE (R436, 14). -/
def PART_MEMi_SIZE : RegDef := ⟨0x9C8, 8, 16, false, .rwo, [⟨63, 63, .rwo, 0⟩, ⟨39, 0, .rwo, 0⟩]⟩
abbrev PART_MEMi_SIZE_V : Fld := ⟨0x9C8, 63, 63, 16⟩
abbrev PART_MEMi_SIZE_NPG : Fld := ⟨0x9C8, 39, 0, 16⟩

/-- The block registers of class PART. -/
def regsPART : List RegDef :=
  [PART_JKEY_LO, PART_JKEY_HI, PART_JKCTL, PART_SPR_BASEi, PART_SPR_CTLi, PART_PLY] ++
  [PART_PLYSTAT, PART_RPL, PART_SEED, PART_CMT, PART_CMTST, PART_SDIG_LO] ++
  [PART_SDIG_HI, PART_SPL, PART_SPLREC, PART_MIRi_DST, PART_MIRi_CTL, PART_ROT] ++
  [PART_ENR, PART_ENLASTi, PART_STEP, PART_RST, PART_CFG, PART_LCi] ++
  [PART_MEMi_BASE, PART_MEMi_SIZE]

/-- RTR_STATE (R161, 05). -/
def RTR_STATE : RegDef := ⟨0x80, 1, 8, false, .ro, [⟨15, 8, .ro, 0⟩, ⟨1, 1, .ro, 0⟩, ⟨0, 0, .ro, 0⟩]⟩
abbrev RTR_STATE_EP : Fld := ⟨0x80, 15, 8, 0⟩
abbrev RTR_STATE_OPTRDY : Fld := ⟨0x80, 1, 1, 0⟩
abbrev RTR_STATE_INJE : Fld := ⟨0x80, 0, 0, 0⟩

/-- RTR_TBL_SEL (R161, 05). -/
def RTR_TBL_SEL : RegDef := ⟨0x88, 1, 8, false, .rwo, [⟨39, 39, .rwo, 0⟩, ⟨38, 38, .rwo, 0⟩, ⟨37, 35, .rwo, 0⟩, ⟨34, 32, .rwo, 0⟩, ⟨12, 0, .rwo, 0⟩]⟩
abbrev RTR_TBL_SEL_AUTO : Fld := ⟨0x88, 39, 39, 0⟩
abbrev RTR_TBL_SEL_BANK : Fld := ⟨0x88, 38, 38, 0⟩
abbrev RTR_TBL_SEL_TABLE : Fld := ⟨0x88, 37, 35, 0⟩
abbrev RTR_TBL_SEL_ROUTER : Fld := ⟨0x88, 34, 32, 0⟩
abbrev RTR_TBL_SEL_INDEX : Fld := ⟨0x88, 12, 0, 0⟩

/-- RTR_TBL_DATA (R161, 05). -/
def RTR_TBL_DATA : RegDef := ⟨0x90, 1, 8, false, .rwo, [⟨63, 0, .rwo, 0⟩]⟩
abbrev RTR_TBL_DATA_DATA : Fld := ⟨0x90, 63, 0, 0⟩

/-- RTR_BANKSUM (R161, 05). -/
def RTR_BANKSUM : RegDef := ⟨0x98, 1, 8, false, .ro, [⟨63, 32, .ro, 0⟩, ⟨31, 0, .ro, 0⟩]⟩
abbrev RTR_BANKSUM_SUM1 : Fld := ⟨0x98, 63, 32, 0⟩
abbrev RTR_BANKSUM_SUM0 : Fld := ⟨0x98, 31, 0, 0⟩

/-- RTR_LIVE_LO (R161, 05). -/
def RTR_LIVE_LO : RegDef := ⟨0xA0, 1, 8, false, .ro, [⟨63, 0, .ro, 0⟩]⟩
abbrev RTR_LIVE_LO_LIVE : Fld := ⟨0xA0, 63, 0, 0⟩

/-- RTR_LIVE_HI (R161, 05). -/
def RTR_LIVE_HI : RegDef := ⟨0xA8, 1, 8, false, .ro, [⟨47, 0, .ro, 0⟩]⟩
abbrev RTR_LIVE_HI_LIVE : Fld := ⟨0xA8, 47, 0, 0⟩

/-- RTR_RESID0 (R161, 05). -/
def RTR_RESID0 : RegDef := ⟨0xB0, 1, 8, false, .ro, [⟨63, 63, .ro, 0⟩, ⟨31, 0, .ro, 0⟩]⟩
abbrev RTR_RESID0_TOUCH : Fld := ⟨0xB0, 63, 63, 0⟩
abbrev RTR_RESID0_COUNT : Fld := ⟨0xB0, 31, 0, 0⟩

/-- RTR_RESID1 (R161, 05). -/
def RTR_RESID1 : RegDef := ⟨0xB8, 1, 8, false, .ro, [⟨63, 63, .ro, 0⟩, ⟨31, 0, .ro, 0⟩]⟩
abbrev RTR_RESID1_TOUCH : Fld := ⟨0xB8, 63, 63, 0⟩
abbrev RTR_RESID1_COUNT : Fld := ⟨0xB8, 31, 0, 0⟩

/-- RTR_EVCNT (R161, 05). -/
def RTR_EVCNT : RegDef := ⟨0xC0, 1, 8, false, .w1c, [⟨63, 48, .w1cAll, 0⟩, ⟨47, 32, .w1cAll, 0⟩, ⟨31, 16, .w1cAll, 0⟩, ⟨15, 0, .w1cAll, 0⟩]⟩
abbrev RTR_EVCNT_LATE : Fld := ⟨0xC0, 63, 48, 0⟩
abbrev RTR_EVCNT_STALE : Fld := ⟨0xC0, 47, 32, 0⟩
abbrev RTR_EVCNT_BAD : Fld := ⟨0xC0, 31, 16, 0⟩
abbrev RTR_EVCNT_MCERR : Fld := ⟨0xC0, 15, 0, 0⟩

/-- RTR_TSEL (R161, 05). -/
def RTR_TSEL : RegDef := ⟨0xC8, 1, 8, false, .rw, [⟨15, 15, .rw, 0⟩, ⟨10, 8, .rw, 0⟩, ⟨6, 4, .rw, 0⟩, ⟨1, 0, .rw, 0⟩]⟩
abbrev RTR_TSEL_SNAP : Fld := ⟨0xC8, 15, 15, 0⟩
abbrev RTR_TSEL_ROUTER : Fld := ⟨0xC8, 10, 8, 0⟩
abbrev RTR_TSEL_PORT : Fld := ⟨0xC8, 6, 4, 0⟩
abbrev RTR_TSEL_VC : Fld := ⟨0xC8, 1, 0, 0⟩

/-- RTR_TPKTS (R161, 05). -/
def RTR_TPKTS : RegDef := ⟨0xD0, 1, 8, false, .ro, [⟨47, 0, .ro, 0⟩]⟩
abbrev RTR_TPKTS_PKTS : Fld := ⟨0xD0, 47, 0, 0⟩

/-- RTR_TBYTES (R161, 05). -/
def RTR_TBYTES : RegDef := ⟨0xD8, 1, 8, false, .ro, [⟨47, 0, .ro, 0⟩]⟩
abbrev RTR_TBYTES_BYTES : Fld := ⟨0xD8, 47, 0, 0⟩

/-- RTR_TDEPTH (R161, 05). -/
def RTR_TDEPTH : RegDef := ⟨0xE0, 1, 8, false, .w1c, [⟨31, 16, .w1cAll, 0⟩, ⟨15, 0, .ro, 0⟩]⟩
abbrev RTR_TDEPTH_HWM : Fld := ⟨0xE0, 31, 16, 0⟩
abbrev RTR_TDEPTH_DEPTH : Fld := ⟨0xE0, 15, 0, 0⟩

/-- RTR_TSTALL (R161, 05). -/
def RTR_TSTALL : RegDef := ⟨0xE8, 1, 8, false, .ro, [⟨47, 0, .ro, 0⟩]⟩
abbrev RTR_TSTALL_STALL : Fld := ⟨0xE8, 47, 0, 0⟩

/-- The block registers of class RTR. -/
def regsRTR : List RegDef :=
  [RTR_STATE, RTR_TBL_SEL, RTR_TBL_DATA, RTR_BANKSUM, RTR_LIVE_LO, RTR_LIVE_HI] ++
  [RTR_RESID0, RTR_RESID1, RTR_EVCNT, RTR_TSEL, RTR_TPKTS, RTR_TBYTES] ++
  [RTR_TDEPTH, RTR_TSTALL]

/-- WHL_EVSUMi (R468, 16). -/
def WHL_EVSUMi : RegDef := ⟨0x80, 3, 8, false, .ro, [⟨63, 0, .ro, 0⟩]⟩
abbrev WHL_EVSUMi_SUM : Fld := ⟨0x80, 63, 0, 8⟩

/-- WHL_DSUMSEL (R468, 16). -/
def WHL_DSUMSEL : RegDef := ⟨0x98, 1, 8, true, .rw, [⟨7, 0, .rw, 0⟩]⟩
abbrev WHL_DSUMSEL_EP : Fld := ⟨0x98, 7, 0, 0⟩

/-- WHL_DSUMi (R468, 16). -/
def WHL_DSUMi : RegDef := ⟨0xA0, 2, 8, false, .ro, [⟨63, 0, .ro, 0⟩]⟩
abbrev WHL_DSUMi_SLOT : Fld := ⟨0xA0, 63, 0, 8⟩

/-- WHL_VMAPSEL (R468, 16). -/
def WHL_VMAPSEL : RegDef := ⟨0xB0, 1, 8, true, .rw, [⟨7, 0, .rw, 0⟩]⟩
abbrev WHL_VMAPSEL_EP : Fld := ⟨0xB0, 7, 0, 0⟩

/-- WHL_VMAP (R468, 16). -/
def WHL_VMAP : RegDef := ⟨0xB8, 1, 8, true, .rw, [⟨8, 8, .rw, 1⟩, ⟨7, 0, .rw, 0⟩]⟩
abbrev WHL_VMAP_V : Fld := ⟨0xB8, 8, 8, 0⟩
abbrev WHL_VMAP_VEC : Fld := ⟨0xB8, 7, 0, 0⟩

/-- WHL_VPENDi (R468, 16). -/
def WHL_VPENDi : RegDef := ⟨0xC0, 4, 8, true, .w1c, [⟨63, 0, .w1c, 0⟩]⟩
abbrev WHL_VPENDi_LATCH : Fld := ⟨0xC0, 63, 0, 8⟩

/-- WHL_MGTTMO (R468, 16). -/
def WHL_MGTTMO : RegDef := ⟨0xE0, 1, 8, false, .w1c, [⟨15, 0, .w1cAll, 0⟩]⟩
abbrev WHL_MGTTMO_COUNT : Fld := ⟨0xE0, 15, 0, 0⟩

/-- WHL_CLKSTAT (R361, 12). -/
def WHL_CLKSTAT : RegDef := ⟨0x200, 1, 8, false, .ro, [⟨39, 32, .ro, 0⟩, ⟨5, 4, .ro, 0⟩, ⟨0, 0, .ro, 0⟩]⟩
abbrev WHL_CLKSTAT_UNLOCKED : Fld := ⟨0x200, 39, 32, 0⟩
abbrev WHL_CLKSTAT_DOMSTATE : Fld := ⟨0x200, 5, 4, 0⟩
abbrev WHL_CLKSTAT_WD : Fld := ⟨0x200, 0, 0, 0⟩

/-- WHL_FREQ (R361, 12). -/
def WHL_FREQ : RegDef := ⟨0x208, 1, 8, false, .rwo, [⟨47, 40, .ro, 0⟩, ⟨31, 24, .rwo, 0⟩, ⟨19, 16, .ro, 0⟩, ⟨5, 4, .ro, 0⟩, ⟨1, 1, .w1s, 0⟩, ⟨0, 0, .w1s, 0⟩]⟩
abbrev WHL_FREQ_CUR : Fld := ⟨0x208, 47, 40, 0⟩
abbrev WHL_FREQ_TGT : Fld := ⟨0x208, 31, 24, 0⟩
abbrev WHL_FREQ_ERRC : Fld := ⟨0x208, 19, 16, 0⟩
abbrev WHL_FREQ_FSTATE : Fld := ⟨0x208, 5, 4, 0⟩
abbrev WHL_FREQ_CANCEL : Fld := ⟨0x208, 1, 1, 0⟩
abbrev WHL_FREQ_ARM : Fld := ⟨0x208, 0, 0, 0⟩

/-- WHL_FAPPLY (R361, 12). -/
def WHL_FAPPLY : RegDef := ⟨0x210, 1, 8, false, .rwo, [⟨63, 0, .rwo, 0⟩]⟩
abbrev WHL_FAPPLY_T : Fld := ⟨0x210, 63, 0, 0⟩

/-- WHL_GT (R361, 12). -/
def WHL_GT : RegDef := ⟨0x218, 1, 8, false, .ro, [⟨63, 0, .ro, 0⟩]⟩
abbrev WHL_GT_GT : Fld := ⟨0x218, 63, 0, 0⟩

/-- WHL_TIMECTL (R361, 12). -/
def WHL_TIMECTL : RegDef := ⟨0x220, 1, 8, false, .rwo, [⟨0, 0, .rwo, 0⟩]⟩
abbrev WHL_TIMECTL_STEPOK : Fld := ⟨0x220, 0, 0, 0⟩

/-- WHL_DOMOFS (R361, 12). -/
def WHL_DOMOFS : RegDef := ⟨0x228, 1, 8, false, .ro, [⟨63, 0, .ro, 0⟩]⟩
abbrev WHL_DOMOFS_OFS : Fld := ⟨0x228, 63, 0, 0⟩

/-- WHL_RTCTL (R162, 05). -/
def WHL_RTCTL : RegDef := ⟨0x300, 1, 8, false, .rwo, [⟨16, 16, .w1s, 0⟩, ⟨8, 8, .ro, 0⟩, ⟨4, 0, .rwo, 1⟩]⟩
abbrev WHL_RTCTL_LBSCAN : Fld := ⟨0x300, 16, 16, 0⟩
abbrev WHL_RTCTL_OPTRDY : Fld := ⟨0x300, 8, 8, 0⟩
abbrev WHL_RTCTL_ESC : Fld := ⟨0x300, 4, 0, 0⟩

/-- WHL_RTEPOCH (R162, 05). -/
def WHL_RTEPOCH : RegDef := ⟨0x308, 1, 8, false, .rwo, [⟨47, 16, .ro, 0⟩, ⟨7, 7, .ro, 0⟩, ⟨3, 2, .ro, 0⟩, ⟨1, 1, .ro, 0⟩, ⟨0, 0, .rwo, 0⟩]⟩
abbrev WHL_RTEPOCH_FLIPS : Fld := ⟨0x308, 47, 16, 0⟩
abbrev WHL_RTEPOCH_ERR : Fld := ⟨0x308, 7, 7, 0⟩
abbrev WHL_RTEPOCH_STATE : Fld := ⟨0x308, 3, 2, 0⟩
abbrev WHL_RTEPOCH_OLD : Fld := ⟨0x308, 1, 1, 0⟩
abbrev WHL_RTEPOCH_E : Fld := ⟨0x308, 0, 0, 0⟩

/-- WHL_OPTCTL (R188, 06). -/
def WHL_OPTCTL : RegDef := ⟨0x310, 1, 8, false, .rwo, [⟨39, 32, .ro, 0⟩, ⟨31, 16, .ro, 0⟩, ⟨15, 12, .rwo, 0⟩, ⟨11, 11, .w1s, 0⟩, ⟨9, 8, .ro, 0⟩, ⟨0, 0, .w1s, 0⟩]⟩
abbrev WHL_OPTCTL_LASERBAD : Fld := ⟨0x310, 39, 32, 0⟩
abbrev WHL_OPTCTL_PLANESVC : Fld := ⟨0x310, 31, 16, 0⟩
abbrev WHL_OPTCTL_RLPLANE : Fld := ⟨0x310, 15, 12, 0⟩
abbrev WHL_OPTCTL_RLREQ : Fld := ⟨0x310, 11, 11, 0⟩
abbrev WHL_OPTCTL_CSTATE : Fld := ⟨0x310, 9, 8, 0⟩
abbrev WHL_OPTCTL_CALSTART : Fld := ⟨0x310, 0, 0, 0⟩

/-- WHL_DISC (R188, 06). -/
def WHL_DISC : RegDef := ⟨0x318, 1, 8, false, .rwo, [⟨23, 16, .ro, 0⟩, ⟨15, 8, .ro, 0⟩, ⟨2, 2, .w1s, 0⟩, ⟨1, 0, .ro, 0⟩]⟩
abbrev WHL_DISC_MISMATCH : Fld := ⟨0x318, 23, 16, 0⟩
abbrev WHL_DISC_UNLINKED : Fld := ⟨0x318, 15, 8, 0⟩
abbrev WHL_DISC_DSTART : Fld := ⟨0x318, 2, 2, 0⟩
abbrev WHL_DISC_DSTATE : Fld := ⟨0x318, 1, 0, 0⟩

/-- WHL_SKNCTL (R281, 09). -/
def WHL_SKNCTL : RegDef := ⟨0x320, 1, 8, false, .rwo, [⟨47, 40, .rwo, 0⟩, ⟨37, 32, .rwo, 0⟩, ⟨15, 0, .rwo, 20⟩]⟩
abbrev WHL_SKNCTL_STAGUS : Fld := ⟨0x320, 47, 40, 0⟩
abbrev WHL_SKNCTL_SGRPM1 : Fld := ⟨0x320, 37, 32, 0⟩
abbrev WHL_SKNCTL_LENDUS : Fld := ⟨0x320, 15, 0, 0⟩

/-- WHL_T1BANDi (R210, 07). -/
def WHL_T1BANDi : RegDef := ⟨0x340, 3, 8, false, .rwo, [⟨63, 0, .rwo, 0⟩]⟩
abbrev WHL_T1BANDi_MODES : Fld := ⟨0x340, 63, 0, 8⟩

/-- WHL_T2BANDi (R210, 07). -/
def WHL_T2BANDi : RegDef := ⟨0x358, 2, 8, false, .rwo, [⟨63, 0, .rwo, 0⟩]⟩
abbrev WHL_T2BANDi_MODES : Fld := ⟨0x358, 63, 0, 8⟩

/-- WHL_SLUBCTL (R309, 10). -/
def WHL_SLUBCTL : RegDef := ⟨0x380, 1, 8, false, .rwo, [⟨63, 48, .rwo, 72⟩, ⟨47, 40, .rwo, 8⟩, ⟨39, 32, .rwo, 4⟩, ⟨31, 24, .ro, 0⟩, ⟨23, 16, .ro, 0⟩, ⟨15, 8, .rwo, 1⟩, ⟨7, 0, .rwo, 1⟩]⟩
abbrev WHL_SLUBCTL_HLH : Fld := ⟨0x380, 63, 48, 0⟩
abbrev WHL_SLUBCTL_RSV : Fld := ⟨0x380, 47, 40, 0⟩
abbrev WHL_SLUBCTL_RCAP : Fld := ⟨0x380, 39, 32, 0⟩
abbrev WHL_SLUBCTL_SPARES : Fld := ⟨0x380, 31, 24, 0⟩
abbrev WHL_SLUBCTL_RET1H : Fld := ⟨0x380, 23, 16, 0⟩
abbrev WHL_SLUBCTL_PRSV : Fld := ⟨0x380, 15, 8, 0⟩
abbrev WHL_SLUBCTL_PCAP : Fld := ⟨0x380, 7, 0, 0⟩

/-- WHL_SLUBSEL (R309, 10). -/
def WHL_SLUBSEL : RegDef := ⟨0x388, 1, 8, false, .rw, [⟨51, 48, .rw, 0⟩, ⟨47, 44, .rw, 0⟩, ⟨31, 0, .rw, 0⟩]⟩
abbrev WHL_SLUBSEL_JSLOT : Fld := ⟨0x388, 51, 48, 0⟩
abbrev WHL_SLUBSEL_KIND : Fld := ⟨0x388, 47, 44, 0⟩
abbrev WHL_SLUBSEL_INDEX : Fld := ⟨0x388, 31, 0, 0⟩

/-- WHL_SLUBVAL (R309, 10). -/
def WHL_SLUBVAL : RegDef := ⟨0x390, 1, 8, false, .rwo, [⟨63, 63, .ro, 0⟩, ⟨62, 60, .ro, 0⟩, ⟨59, 59, .ro, 0⟩, ⟨58, 58, .ro, 1⟩, ⟨31, 0, .rwo, 0⟩]⟩
abbrev WHL_SLUBVAL_PROB : Fld := ⟨0x390, 63, 63, 0⟩
abbrev WHL_SLUBVAL_MSTEP : Fld := ⟨0x390, 62, 60, 0⟩
abbrev WHL_SLUBVAL_RET : Fld := ⟨0x390, 59, 59, 0⟩
abbrev WHL_SLUBVAL_NONE : Fld := ⟨0x390, 58, 58, 0⟩
abbrev WHL_SLUBVAL_SCORE : Fld := ⟨0x390, 31, 0, 0⟩

/-- WHL_SLUBW (R309, 10). -/
def WHL_SLUBW : RegDef := ⟨0x398, 1, 8, false, .rwo, [⟨39, 32, .rwo, 0⟩, ⟨15, 0, .rwo, 400⟩]⟩
abbrev WHL_SLUBW_CODE : Fld := ⟨0x398, 39, 32, 0⟩
abbrev WHL_SLUBW_WEIGHT : Fld := ⟨0x398, 15, 0, 0⟩

/-- WHL_SLUBTHR0 (R309, 10). -/
def WHL_SLUBTHR0 : RegDef := ⟨0x3A0, 1, 8, false, .rwo, [⟨63, 48, .rwo, 100⟩, ⟨47, 32, .rwo, 200⟩, ⟨31, 16, .rwo, 400⟩, ⟨15, 0, .rwo, 800⟩]⟩
abbrev WHL_SLUBTHR0_M1 : Fld := ⟨0x3A0, 63, 48, 0⟩
abbrev WHL_SLUBTHR0_M2 : Fld := ⟨0x3A0, 47, 32, 0⟩
abbrev WHL_SLUBTHR0_M3 : Fld := ⟨0x3A0, 31, 16, 0⟩
abbrev WHL_SLUBTHR0_M4 : Fld := ⟨0x3A0, 15, 0, 0⟩

/-- WHL_SLUBTHR1 (R309, 10). -/
def WHL_SLUBTHR1 : RegDef := ⟨0x3A8, 1, 8, false, .rwo, [⟨63, 48, .rwo, 1600⟩, ⟨47, 32, .rwo, 600⟩]⟩
abbrev WHL_SLUBTHR1_CLRET : Fld := ⟨0x3A8, 63, 48, 0⟩
abbrev WHL_SLUBTHR1_CKRET : Fld := ⟨0x3A8, 47, 32, 0⟩

/-- WHL_SLUBTHR2 (R309, 10). -/
def WHL_SLUBTHR2 : RegDef := ⟨0x3B0, 1, 8, false, .rwo, [⟨63, 48, .rwo, 1000⟩, ⟨47, 32, .rwo, 1000⟩, ⟨31, 16, .rwo, 1000⟩, ⟨15, 0, .rwo, 1000⟩]⟩
abbrev WHL_SLUBTHR2_DBRET : Fld := ⟨0x3B0, 63, 48, 0⟩
abbrev WHL_SLUBTHR2_OPRET : Fld := ⟨0x3B0, 47, 32, 0⟩
abbrev WHL_SLUBTHR2_T1RET : Fld := ⟨0x3B0, 31, 16, 0⟩
abbrev WHL_SLUBTHR2_T2RET : Fld := ⟨0x3B0, 15, 0, 0⟩

/-- WHL_SLUBTHR3 (R309, 10). -/
def WHL_SLUBTHR3 : RegDef := ⟨0x3B8, 1, 8, false, .rwo, [⟨63, 48, .rwo, 1000⟩, ⟨47, 32, .rwo, 2000⟩]⟩
abbrev WHL_SLUBTHR3_FPRET : Fld := ⟨0x3B8, 63, 48, 0⟩
abbrev WHL_SLUBTHR3_PNRET : Fld := ⟨0x3B8, 47, 32, 0⟩

/-- WHL_PCAP (R399, 13). -/
def WHL_PCAP : RegDef := ⟨0x400, 1, 8, false, .rwo, [⟨63, 48, .ro, 0⟩, ⟨36, 32, .ro, 0⟩, ⟨15, 0, .rwo, 24000⟩]⟩
abbrev WHL_PCAP_EFF : Fld := ⟨0x400, 63, 48, 0⟩
abbrev WHL_PCAP_LIM : Fld := ⟨0x400, 36, 32, 0⟩
abbrev WHL_PCAP_HOST : Fld := ⟨0x400, 15, 0, 0⟩

/-- WHL_PIN (R399, 13). -/
def WHL_PIN : RegDef := ⟨0x408, 1, 8, false, .ro, [⟨63, 48, .ro, 0⟩, ⟨47, 32, .ro, 0⟩, ⟨31, 0, .ro, 0⟩]⟩
abbrev WHL_PIN_MV : Fld := ⟨0x408, 63, 48, 0⟩
abbrev WHL_PIN_CUR : Fld := ⟨0x408, 47, 32, 0⟩
abbrev WHL_PIN_MW : Fld := ⟨0x408, 31, 0, 0⟩

/-- WHL_EIN (R399, 13). -/
def WHL_EIN : RegDef := ⟨0x410, 1, 8, false, .ro, [⟨63, 0, .ro, 0⟩]⟩
abbrev WHL_EIN_MJ : Fld := ⟨0x410, 63, 0, 0⟩

/-- WHL_COOL (R399, 13). -/
def WHL_COOL : RegDef := ⟨0x418, 1, 8, false, .ro, [⟨63, 52, .ro, 0⟩, ⟨51, 40, .ro, 0⟩, ⟨39, 24, .ro, 0⟩, ⟨23, 12, .ro, 0⟩]⟩
abbrev WHL_COOL_TIN : Fld := ⟨0x418, 63, 52, 0⟩
abbrev WHL_COOL_TOUT : Fld := ⟨0x418, 51, 40, 0⟩
abbrev WHL_COOL_DP : Fld := ⟨0x418, 39, 24, 0⟩
abbrev WHL_COOL_FLOW : Fld := ⟨0x418, 23, 12, 0⟩

/-- WHL_POSTSEL (R399, 13). -/
def WHL_POSTSEL : RegDef := ⟨0x420, 1, 8, false, .rw, [⟨7, 0, .rw, 0⟩]⟩
abbrev WHL_POSTSEL_POST : Fld := ⟨0x420, 7, 0, 0⟩

/-- WHL_POSTVAL (R399, 13). -/
def WHL_POSTVAL : RegDef := ⟨0x428, 1, 8, false, .ro, [⟨63, 48, .ro, 0⟩, ⟨47, 44, .ro, 0⟩, ⟨43, 43, .ro, 0⟩, ⟨31, 0, .ro, 0⟩]⟩
abbrev WHL_POSTVAL_RATIO : Fld := ⟨0x428, 63, 48, 0⟩
abbrev WHL_POSTVAL_SUSN : Fld := ⟨0x428, 47, 44, 0⟩
abbrev WHL_POSTVAL_PERS : Fld := ⟨0x428, 43, 43, 0⟩
abbrev WHL_POSTVAL_CUR : Fld := ⟨0x428, 31, 0, 0⟩

/-- WHL_POSTSUS (R399, 13). -/
def WHL_POSTSUS : RegDef := ⟨0x430, 1, 8, false, .ro, [⟨15, 8, .ro, 0⟩, ⟨7, 0, .ro, 0⟩]⟩
abbrev WHL_POSTSUS_SUPPLY : Fld := ⟨0x430, 15, 8, 0⟩
abbrev WHL_POSTSUS_RETURN : Fld := ⟨0x430, 7, 0, 0⟩

/-- WHL_BOOT (R435, 14). -/
def WHL_BOOT : RegDef := ⟨0x500, 1, 8, false, .rwo, [⟨55, 52, .ro, 0⟩, ⟨47, 44, .ro, 0⟩, ⟨43, 42, .ro, 0⟩, ⟨11, 8, .rwo, 0⟩, ⟨0, 0, .w1s, 0⟩]⟩
abbrev WHL_BOOT_ERRC : Fld := ⟨0x500, 55, 52, 0⟩
abbrev WHL_BOOT_BSTEP : Fld := ⟨0x500, 47, 44, 0⟩
abbrev WHL_BOOT_BSTATE : Fld := ⟨0x500, 43, 42, 0⟩
abbrev WHL_BOOT_STEP : Fld := ⟨0x500, 11, 8, 0⟩
abbrev WHL_BOOT_GO : Fld := ⟨0x500, 0, 0, 0⟩

/-- WHL_BOOTMASK (R435, 14). -/
def WHL_BOOTMASK : RegDef := ⟨0x508, 1, 8, false, .rwo, [⟨47, 32, .rwo, 65535⟩, ⟨27, 0, .rwo, 268435455⟩]⟩
abbrev WHL_BOOTMASK_IODM : Fld := ⟨0x508, 47, 32, 0⟩
abbrev WHL_BOOTMASK_HANKM : Fld := ⟨0x508, 27, 0, 0⟩

/-- WHL_FUSESEL (R435, 14). -/
def WHL_FUSESEL : RegDef := ⟨0x510, 1, 8, false, .rw, [⟨47, 44, .rw, 0⟩, ⟨31, 0, .rw, 0⟩]⟩
abbrev WHL_FUSESEL_KIND : Fld := ⟨0x510, 47, 44, 0⟩
abbrev WHL_FUSESEL_INDEX : Fld := ⟨0x510, 31, 0, 0⟩

/-- WHL_FUSEVAL (R435, 14). -/
def WHL_FUSEVAL : RegDef := ⟨0x518, 1, 8, false, .ro, [⟨63, 63, .ro, 1⟩, ⟨62, 62, .ro, 0⟩, ⟨61, 61, .ro, 0⟩, ⟨60, 60, .ro, 0⟩, ⟨59, 59, .ro, 0⟩]⟩
abbrev WHL_FUSEVAL_NONE : Fld := ⟨0x518, 63, 63, 0⟩
abbrev WHL_FUSEVAL_FBAD : Fld := ⟨0x518, 62, 62, 0⟩
abbrev WHL_FUSEVAL_TBAD : Fld := ⟨0x518, 61, 61, 0⟩
abbrev WHL_FUSEVAL_DISC : Fld := ⟨0x518, 60, 60, 0⟩
abbrev WHL_FUSEVAL_OVR : Fld := ⟨0x518, 59, 59, 0⟩

/-- WHL_FUSECMD (R435, 14). -/
def WHL_FUSECMD : RegDef := ⟨0x520, 1, 8, false, .rwp, [⟨11, 8, .ro, 0⟩, ⟨1, 1, .rwp, 0⟩, ⟨0, 0, .rwp, 0⟩]⟩
abbrev WHL_FUSECMD_RESULT : Fld := ⟨0x520, 11, 8, 0⟩
abbrev WHL_FUSECMD_ADD : Fld := ⟨0x520, 1, 1, 0⟩
abbrev WHL_FUSECMD_OVR : Fld := ⟨0x520, 0, 0, 0⟩

/-- WHL_RECON (R435, 14). -/
def WHL_RECON : RegDef := ⟨0x528, 1, 8, false, .ro, [⟨47, 32, .ro, 0⟩, ⟨31, 16, .ro, 0⟩, ⟨15, 0, .ro, 0⟩]⟩
abbrev WHL_RECON_DISCN : Fld := ⟨0x528, 47, 32, 0⟩
abbrev WHL_RECON_GOODC : Fld := ⟨0x528, 31, 16, 0⟩
abbrev WHL_RECON_FBADC : Fld := ⟨0x528, 15, 0, 0⟩

/-- WHL_FWCTL (R435, 14). -/
def WHL_FWCTL : RegDef := ⟨0x530, 1, 8, false, .rwo, [⟨63, 63, .w1s, 0⟩, ⟨62, 62, .w1s, 0⟩, ⟨61, 61, .w1s, 0⟩, ⟨59, 56, .rwo, 0⟩, ⟨25, 0, .rwo, 0⟩]⟩
abbrev WHL_FWCTL_MEASURE : Fld := ⟨0x530, 63, 63, 0⟩
abbrev WHL_FWCTL_LOAD : Fld := ⟨0x530, 62, 62, 0⟩
abbrev WHL_FWCTL_DROP : Fld := ⟨0x530, 61, 61, 0⟩
abbrev WHL_FWCTL_TYPE : Fld := ⟨0x530, 59, 56, 0⟩
abbrev WHL_FWCTL_LEN : Fld := ⟨0x530, 25, 0, 0⟩

/-- WHL_FWSTAT (R435, 14). -/
def WHL_FWSTAT : RegDef := ⟨0x538, 1, 8, false, .ro, [⟨63, 61, .ro, 0⟩, ⟨60, 57, .ro, 0⟩, ⟨51, 48, .ro, 0⟩, ⟨47, 32, .ro, 0⟩, ⟨15, 0, .ro, 0⟩]⟩
abbrev WHL_FWSTAT_FSTATE : Fld := ⟨0x538, 63, 61, 0⟩
abbrev WHL_FWSTAT_CAUSE : Fld := ⟨0x538, 60, 57, 0⟩
abbrev WHL_FWSTAT_LOADEDM : Fld := ⟨0x538, 51, 48, 0⟩
abbrev WHL_FWSTAT_FAILN : Fld := ⟨0x538, 47, 32, 0⟩
abbrev WHL_FWSTAT_CONFN : Fld := ⟨0x538, 15, 0, 0⟩

/-- WHL_PRST (R435, 14). -/
def WHL_PRST : RegDef := ⟨0x540, 1, 8, false, .rwo, [⟨63, 56, .rwo, 0⟩, ⟨8, 8, .ro, 0⟩, ⟨1, 1, .w1s, 0⟩, ⟨0, 0, .w1s, 0⟩]⟩
abbrev WHL_PRST_KEY : Fld := ⟨0x540, 63, 56, 0⟩
abbrev WHL_PRST_FROZEN : Fld := ⟨0x540, 8, 8, 0⟩
abbrev WHL_PRST_FREEZE : Fld := ⟨0x540, 1, 1, 0⟩
abbrev WHL_PRST_PANEL : Fld := ⟨0x540, 0, 0, 0⟩

/-- WHL_OWN (R435, 14). -/
def WHL_OWN : RegDef := ⟨0x548, 1, 8, false, .rw, [⟨63, 62, .ro, 0⟩, ⟨61, 61, .ro, 0⟩, ⟨60, 60, .ro, 0⟩, ⟨59, 58, .rw, 0⟩, ⟨57, 56, .rw, 0⟩, ⟨55, 55, .w1s, 0⟩, ⟨54, 54, .w1s, 0⟩, ⟨53, 53, .rwp, 0⟩, ⟨51, 48, .ro, 0⟩, ⟨31, 0, .ro, 0⟩]⟩
abbrev WHL_OWN_OWNER : Fld := ⟨0x548, 63, 62, 0⟩
abbrev WHL_OWN_EXPIRED : Fld := ⟨0x548, 61, 61, 0⟩
abbrev WHL_OWN_PORT : Fld := ⟨0x548, 60, 60, 0⟩
abbrev WHL_OWN_EXPECT : Fld := ⟨0x548, 59, 58, 0⟩
abbrev WHL_OWN_NEW : Fld := ⟨0x548, 57, 56, 0⟩
abbrev WHL_OWN_CAS : Fld := ⟨0x548, 55, 55, 0⟩
abbrev WHL_OWN_RENEW : Fld := ⟨0x548, 54, 54, 0⟩
abbrev WHL_OWN_FORCE : Fld := ⟨0x548, 53, 53, 0⟩
abbrev WHL_OWN_RESULT : Fld := ⟨0x548, 51, 48, 0⟩
abbrev WHL_OWN_LEFT : Fld := ⟨0x548, 31, 0, 0⟩

/-- WHL_GENCTL (R435, 14). -/
def WHL_GENCTL : RegDef := ⟨0x550, 1, 8, false, .rwo, [⟨63, 63, .w1s, 0⟩, ⟨62, 62, .w1s, 0⟩, ⟨61, 61, .w1s, 0⟩, ⟨59, 58, .ro, 0⟩, ⟨57, 57, .ro, 0⟩, ⟨56, 56, .rw, 0⟩, ⟨55, 52, .ro, 0⟩, ⟨31, 0, .rwo, 0⟩]⟩
abbrev WHL_GENCTL_COMMIT : Fld := ⟨0x550, 63, 63, 0⟩
abbrev WHL_GENCTL_REVERT : Fld := ⟨0x550, 62, 62, 0⟩
abbrev WHL_GENCTL_DISCARD : Fld := ⟨0x550, 61, 61, 0⟩
abbrev WHL_GENCTL_STATE : Fld := ⟨0x550, 59, 58, 0⟩
abbrev WHL_GENCTL_LOST : Fld := ⟨0x550, 57, 57, 0⟩
abbrev WHL_GENCTL_HSEL : Fld := ⟨0x550, 56, 56, 0⟩
abbrev WHL_GENCTL_ERRC : Fld := ⟨0x550, 55, 52, 0⟩
abbrev WHL_GENCTL_NUM : Fld := ⟨0x550, 31, 0, 0⟩

/-- WHL_GENNUM (R435, 14). -/
def WHL_GENNUM : RegDef := ⟨0x558, 1, 8, false, .ro, [⟨63, 32, .ro, 4294967295⟩, ⟨31, 0, .ro, 0⟩]⟩
abbrev WHL_GENNUM_PREV : Fld := ⟨0x558, 63, 32, 0⟩
abbrev WHL_GENNUM_CUR : Fld := ⟨0x558, 31, 0, 0⟩

/-- WHL_GENHASHi (R435, 14). -/
def WHL_GENHASHi : RegDef := ⟨0x560, 8, 8, false, .ro, [⟨63, 0, .ro, 0⟩]⟩
abbrev WHL_GENHASHi_H : Fld := ⟨0x560, 63, 0, 8⟩

/-- WHL_SECID (R451, 15). -/
def WHL_SECID : RegDef := ⟨0x600, 1, 8, false, .ro, [⟨63, 0, .ro, 0⟩]⟩
abbrev WHL_SECID_SERIAL : Fld := ⟨0x600, 63, 0, 0⟩

/-- WHL_SECST (R451, 15). -/
def WHL_SECST : RegDef := ⟨0x608, 1, 8, false, .ro, [⟨15, 12, .ro, 0⟩, ⟨11, 8, .ro, 0⟩, ⟨4, 4, .ro, 0⟩, ⟨3, 3, .ro, 0⟩, ⟨2, 2, .ro, 0⟩, ⟨1, 1, .ro, 0⟩, ⟨0, 0, .ro, 0⟩]⟩
abbrev WHL_SECST_SLOTREV : Fld := ⟨0x608, 15, 12, 0⟩
abbrev WHL_SECST_SLOTEN : Fld := ⟨0x608, 11, 8, 0⟩
abbrev WHL_SECST_FORCED : Fld := ⟨0x608, 4, 4, 0⟩
abbrev WHL_SECST_LOOP : Fld := ⟨0x608, 3, 3, 0⟩
abbrev WHL_SECST_SEAL : Fld := ⟨0x608, 2, 2, 0⟩
abbrev WHL_SECST_INPUT : Fld := ⟨0x608, 1, 1, 0⟩
abbrev WHL_SECST_PRES : Fld := ⟨0x608, 0, 0, 0⟩

/-- WHL_KEYCMD (R451, 15). -/
def WHL_KEYCMD : RegDef := ⟨0x610, 1, 8, false, .rw, [⟨11, 8, .ro, 0⟩, ⟨5, 4, .rw, 0⟩, ⟨1, 1, .rwp, 0⟩, ⟨0, 0, .rwp, 0⟩]⟩
abbrev WHL_KEYCMD_RESULT : Fld := ⟨0x610, 11, 8, 0⟩
abbrev WHL_KEYCMD_SLOT : Fld := ⟨0x610, 5, 4, 0⟩
abbrev WHL_KEYCMD_REVOKE : Fld := ⟨0x610, 1, 1, 0⟩
abbrev WHL_KEYCMD_ENROL : Fld := ⟨0x610, 0, 0, 0⟩

/-- WHL_DBG (R451, 15). -/
def WHL_DBG : RegDef := ⟨0x618, 1, 8, false, .rw, [⟨2, 2, .w1s, 0⟩, ⟨1, 1, .ro, 0⟩, ⟨0, 0, .rwp, 0⟩]⟩
abbrev WHL_DBG_EXIT : Fld := ⟨0x618, 2, 2, 0⟩
abbrev WHL_DBG_SEEN : Fld := ⟨0x618, 1, 1, 0⟩
abbrev WHL_DBG_EN : Fld := ⟨0x618, 0, 0, 0⟩

/-- WHL_LOGSEL (R451, 15). -/
def WHL_LOGSEL : RegDef := ⟨0x620, 1, 8, true, .rw, [⟨63, 63, .ro, 0⟩, ⟨47, 0, .rw, 0⟩]⟩
abbrev WHL_LOGSEL_VALID : Fld := ⟨0x620, 63, 63, 0⟩
abbrev WHL_LOGSEL_SEQ : Fld := ⟨0x620, 47, 0, 0⟩

/-- WHL_LOGCNT (R451, 15). -/
def WHL_LOGCNT : RegDef := ⟨0x628, 1, 8, false, .ro, [⟨63, 0, .ro, 0⟩]⟩
abbrev WHL_LOGCNT_COUNT : Fld := ⟨0x628, 63, 0, 0⟩

/-- WHL_LOGDATAi (R451, 15). -/
def WHL_LOGDATAi : RegDef := ⟨0x630, 16, 8, true, .ro, [⟨63, 0, .ro, 0⟩]⟩
abbrev WHL_LOGDATAi_W : Fld := ⟨0x630, 63, 0, 8⟩

/-- WHL_ATTCTL (R451, 15). -/
def WHL_ATTCTL : RegDef := ⟨0x6B0, 1, 8, false, .rw, [⟨63, 32, .ro, 0⟩, ⟨11, 8, .ro, 0⟩, ⟨3, 2, .ro, 0⟩, ⟨0, 0, .w1s, 0⟩]⟩
abbrev WHL_ATTCTL_SEQ : Fld := ⟨0x6B0, 63, 32, 0⟩
abbrev WHL_ATTCTL_RESULT : Fld := ⟨0x6B0, 11, 8, 0⟩
abbrev WHL_ATTCTL_STATE : Fld := ⟨0x6B0, 3, 2, 0⟩
abbrev WHL_ATTCTL_REQ : Fld := ⟨0x6B0, 0, 0, 0⟩

/-- WHL_ATTIDX (R451, 15). -/
def WHL_ATTIDX : RegDef := ⟨0x6B8, 1, 8, true, .rw, [⟨63, 63, .rw, 0⟩, ⟨9, 0, .rw, 0⟩]⟩
abbrev WHL_ATTIDX_AUTO : Fld := ⟨0x6B8, 63, 63, 0⟩
abbrev WHL_ATTIDX_IDX : Fld := ⟨0x6B8, 9, 0, 0⟩

/-- WHL_ATTDATA (R451, 15). -/
def WHL_ATTDATA : RegDef := ⟨0x6C0, 1, 8, false, .ro, [⟨63, 0, .ro, 0⟩]⟩
abbrev WHL_ATTDATA_DATA : Fld := ⟨0x6C0, 63, 0, 0⟩

/-- WHL_IDKIDX (R451, 15). -/
def WHL_IDKIDX : RegDef := ⟨0x6C8, 1, 8, true, .rw, [⟨63, 63, .rw, 0⟩, ⟨9, 0, .rw, 0⟩]⟩
abbrev WHL_IDKIDX_AUTO : Fld := ⟨0x6C8, 63, 63, 0⟩
abbrev WHL_IDKIDX_IDX : Fld := ⟨0x6C8, 9, 0, 0⟩

/-- WHL_IDKDATA (R451, 15). -/
def WHL_IDKDATA : RegDef := ⟨0x6D0, 1, 8, false, .ro, [⟨63, 0, .ro, 0⟩]⟩
abbrev WHL_IDKDATA_DATA : Fld := ⟨0x6D0, 63, 0, 0⟩

/-- WHL_ATTNONCEi (R451, 15). -/
def WHL_ATTNONCEi : RegDef := ⟨0x700, 8, 8, true, .rw, [⟨63, 0, .rw, 0⟩]⟩
abbrev WHL_ATTNONCEi_BYTES : Fld := ⟨0x700, 63, 0, 8⟩

/-- WHL_KEYHASHi (R451, 15). -/
def WHL_KEYHASHi : RegDef := ⟨0x740, 8, 8, true, .rw, [⟨63, 0, .rw, 0⟩]⟩
abbrev WHL_KEYHASHi_BYTES : Fld := ⟨0x740, 63, 0, 8⟩

/-- The block registers of class WHL. -/
def regsWHL : List RegDef :=
  [WHL_EVSUMi, WHL_DSUMSEL, WHL_DSUMi, WHL_VMAPSEL, WHL_VMAP, WHL_VPENDi] ++
  [WHL_MGTTMO, WHL_CLKSTAT, WHL_FREQ, WHL_FAPPLY, WHL_GT, WHL_TIMECTL] ++
  [WHL_DOMOFS, WHL_RTCTL, WHL_RTEPOCH, WHL_OPTCTL, WHL_DISC, WHL_SKNCTL] ++
  [WHL_T1BANDi, WHL_T2BANDi, WHL_SLUBCTL, WHL_SLUBSEL, WHL_SLUBVAL, WHL_SLUBW] ++
  [WHL_SLUBTHR0, WHL_SLUBTHR1, WHL_SLUBTHR2, WHL_SLUBTHR3, WHL_PCAP, WHL_PIN] ++
  [WHL_EIN, WHL_COOL, WHL_POSTSEL, WHL_POSTVAL, WHL_POSTSUS, WHL_BOOT] ++
  [WHL_BOOTMASK, WHL_FUSESEL, WHL_FUSEVAL, WHL_FUSECMD, WHL_RECON, WHL_FWCTL] ++
  [WHL_FWSTAT, WHL_PRST, WHL_OWN, WHL_GENCTL, WHL_GENNUM, WHL_GENHASHi] ++
  [WHL_SECID, WHL_SECST, WHL_KEYCMD, WHL_DBG, WHL_LOGSEL, WHL_LOGCNT] ++
  [WHL_LOGDATAi, WHL_ATTCTL, WHL_ATTIDX, WHL_ATTDATA, WHL_IDKIDX, WHL_IDKDATA] ++
  [WHL_ATTNONCEi, WHL_KEYHASHi]

/-- DBL_STATE (R186, 06). -/
def DBL_STATE : RegDef := ⟨0x80, 1, 8, false, .ro, [⟨47, 40, .ro, 0⟩, ⟨39, 32, .ro, 0⟩, ⟨27, 24, .ro, 0⟩, ⟨17, 16, .ro, 0⟩, ⟨15, 14, .ro, 0⟩, ⟨11, 11, .ro, 0⟩, ⟨10, 10, .ro, 0⟩, ⟨3, 0, .ro, 0⟩]⟩
abbrev DBL_STATE_GOODR : Fld := ⟨0x80, 47, 40, 0⟩
abbrev DBL_STATE_GOODF : Fld := ⟨0x80, 39, 32, 0⟩
abbrev DBL_STATE_CAUSE : Fld := ⟨0x80, 27, 24, 0⟩
abbrev DBL_STATE_RATE : Fld := ⟨0x80, 17, 16, 0⟩
abbrev DBL_STATE_WIDTH : Fld := ⟨0x80, 15, 14, 0⟩
abbrev DBL_STATE_COMB : Fld := ⟨0x80, 11, 11, 0⟩
abbrev DBL_STATE_DBGV : Fld := ⟨0x80, 10, 10, 0⟩
abbrev DBL_STATE_STATE : Fld := ⟨0x80, 3, 0, 0⟩

/-- DBL_CTL (R186, 06). -/
def DBL_CTL : RegDef := ⟨0x88, 1, 8, false, .rwo, [⟨23, 16, .rwo, 64⟩, ⟨2, 2, .rwo, 0⟩, ⟨1, 1, .w1s, 0⟩, ⟨0, 0, .w1s, 0⟩]⟩
abbrev DBL_CTL_RPLBUD : Fld := ⟨0x88, 23, 16, 0⟩
abbrev DBL_CTL_HOLD : Fld := ⟨0x88, 2, 2, 0⟩
abbrev DBL_CTL_RETRAIN : Fld := ⟨0x88, 1, 1, 0⟩
abbrev DBL_CTL_RECAL : Fld := ⟨0x88, 0, 0, 0⟩

/-- DBL_CAPL (R186, 06). -/
def DBL_CAPL : RegDef := ⟨0x90, 1, 8, false, .ro, [⟨63, 0, .ro, 0⟩]⟩
abbrev DBL_CAPL_CAP : Fld := ⟨0x90, 63, 0, 0⟩

/-- DBL_CAPR (R186, 06). -/
def DBL_CAPR : RegDef := ⟨0x98, 1, 8, false, .ro, [⟨63, 0, .ro, 0⟩]⟩
abbrev DBL_CAPR_CAP : Fld := ⟨0x98, 63, 0, 0⟩

/-- DBL_BADF (R186, 06). -/
def DBL_BADF : RegDef := ⟨0xA0, 1, 8, false, .ro, [⟨63, 0, .ro, 0⟩]⟩
abbrev DBL_BADF_BAD : Fld := ⟨0xA0, 63, 0, 0⟩

/-- DBL_BADR (R186, 06). -/
def DBL_BADR : RegDef := ⟨0xA8, 1, 8, false, .ro, [⟨63, 0, .ro, 0⟩]⟩
abbrev DBL_BADR_BAD : Fld := ⟨0xA8, 63, 0, 0⟩

/-- DBL_BADSP (R186, 06). -/
def DBL_BADSP : RegDef := ⟨0xB0, 1, 8, false, .ro, [⟨7, 4, .ro, 0⟩, ⟨3, 0, .ro, 0⟩]⟩
abbrev DBL_BADSP_REV : Fld := ⟨0xB0, 7, 4, 0⟩
abbrev DBL_BADSP_FWD : Fld := ⟨0xB0, 3, 0, 0⟩

/-- DBL_ERRCNT (R186, 06). -/
def DBL_ERRCNT : RegDef := ⟨0xB8, 1, 8, false, .w1c, [⟨63, 48, .w1cAll, 0⟩, ⟨47, 24, .w1cAll, 0⟩, ⟨23, 0, .w1cAll, 0⟩]⟩
abbrev DBL_ERRCNT_BUDX : Fld := ⟨0xB8, 63, 48, 0⟩
abbrev DBL_ERRCNT_REPLAY : Fld := ⟨0xB8, 47, 24, 0⟩
abbrev DBL_ERRCNT_CRCERR : Fld := ⟨0xB8, 23, 0, 0⟩

/-- DBL_REMOTE (R186, 06). -/
def DBL_REMOTE : RegDef := ⟨0xC0, 1, 8, false, .ro, [⟨63, 0, .ro, 0⟩]⟩
abbrev DBL_REMOTE_CNT : Fld := ⟨0xC0, 63, 0, 0⟩

/-- The block registers of class DBL. -/
def regsDBL : List RegDef :=
  [DBL_STATE, DBL_CTL, DBL_CAPL, DBL_CAPR, DBL_BADF, DBL_BADR] ++
  [DBL_BADSP, DBL_ERRCNT, DBL_REMOTE]

/-- OPT_STATE (R187, 06). -/
def OPT_STATE : RegDef := ⟨0x80, 1, 8, false, .ro, [⟨47, 32, .ro, 0⟩, ⟨31, 16, .ro, 0⟩, ⟨1, 0, .ro, 0⟩]⟩
abbrev OPT_STATE_INSVC : Fld := ⟨0x80, 47, 32, 0⟩
abbrev OPT_STATE_RELOCK : Fld := ⟨0x80, 31, 16, 0⟩
abbrev OPT_STATE_ESTATE : Fld := ⟨0x80, 1, 0, 0⟩

/-- OPT_PSEL (R187, 06). -/
def OPT_PSEL : RegDef := ⟨0x88, 1, 8, false, .rw, [⟨11, 8, .rw, 0⟩, ⟨7, 0, .rw, 0⟩]⟩
abbrev OPT_PSEL_PLANE : Fld := ⟨0x88, 11, 8, 0⟩
abbrev OPT_PSEL_PEER : Fld := ⟨0x88, 7, 0, 0⟩

/-- OPT_PAIR (R187, 06). -/
def OPT_PAIR : RegDef := ⟨0x90, 1, 8, false, .ro, [⟨55, 48, .ro, 0⟩, ⟨47, 46, .ro, 3⟩, ⟨39, 0, .ro, 0⟩]⟩
abbrev OPT_PAIR_LAT : Fld := ⟨0x90, 55, 48, 0⟩
abbrev OPT_PAIR_MCLASS : Fld := ⟨0x90, 47, 46, 0⟩
abbrev OPT_PAIR_CORR : Fld := ⟨0x90, 39, 0, 0⟩

/-- OPT_PCNT (R187, 06). -/
def OPT_PCNT : RegDef := ⟨0x98, 1, 8, false, .w1c, [⟨63, 32, .w1cAll, 0⟩, ⟨31, 0, .w1cAll, 0⟩]⟩
abbrev OPT_PCNT_UNCORR : Fld := ⟨0x98, 63, 32, 0⟩
abbrev OPT_PCNT_RESEND : Fld := ⟨0x98, 31, 0, 0⟩

/-- The block registers of class OPT. -/
def regsOPT : List RegDef :=
  [OPT_STATE, OPT_PSEL, OPT_PAIR, OPT_PCNT]

/-- MBD_STATE (R211, 07). -/
def MBD_STATE : RegDef := ⟨0x80, 1, 8, false, .ro, [⟨47, 16, .ro, 0⟩, ⟨6, 4, .ro, 0⟩, ⟨1, 0, .ro, 0⟩]⟩
abbrev MBD_STATE_CHRET : Fld := ⟨0x80, 47, 16, 0⟩
abbrev MBD_STATE_MIG : Fld := ⟨0x80, 6, 4, 0⟩
abbrev MBD_STATE_TSTATE : Fld := ⟨0x80, 1, 0, 0⟩

/-- MBD_CTL (R211, 07). -/
def MBD_CTL : RegDef := ⟨0x88, 1, 8, false, .rwo, [⟨55, 24, .rwo, 0⟩, ⟨23, 16, .rwo, 12⟩, ⟨12, 8, .rwo, 0⟩, ⟨1, 1, .rwo, 0⟩, ⟨0, 0, .w1s, 0⟩]⟩
abbrev MBD_CTL_RETMASK : Fld := ⟨0x88, 55, 24, 0⟩
abbrev MBD_CTL_SCRUBH : Fld := ⟨0x88, 23, 16, 0⟩
abbrev MBD_CTL_RETCH : Fld := ⟨0x88, 12, 8, 0⟩
abbrev MBD_CTL_HARDEN : Fld := ⟨0x88, 1, 1, 0⟩
abbrev MBD_CTL_RETREQ : Fld := ⟨0x88, 0, 0, 0⟩

/-- MBD_ECC (R211, 07). -/
def MBD_ECC : RegDef := ⟨0x90, 1, 8, false, .w1c, [⟨63, 56, .w1cAll, 0⟩, ⟨55, 40, .w1cAll, 0⟩, ⟨39, 24, .w1cAll, 0⟩, ⟨23, 0, .w1cAll, 0⟩]⟩
abbrev MBD_ECC_IFERR : Fld := ⟨0x90, 63, 56, 0⟩
abbrev MBD_ECC_UE : Fld := ⟨0x90, 55, 40, 0⟩
abbrev MBD_ECC_STACKCE : Fld := ⟨0x90, 39, 24, 0⟩
abbrev MBD_ECC_CE : Fld := ⟨0x90, 23, 0, 0⟩

/-- MBD_UEADDR (R211, 07). -/
def MBD_UEADDR : RegDef := ⟨0x98, 1, 8, false, .ro, [⟨63, 63, .ro, 0⟩, ⟨47, 43, .ro, 0⟩, ⟨36, 6, .ro, 0⟩]⟩
abbrev MBD_UEADDR_VALID : Fld := ⟨0x98, 63, 63, 0⟩
abbrev MBD_UEADDR_CH : Fld := ⟨0x98, 47, 43, 0⟩
abbrev MBD_UEADDR_LINE : Fld := ⟨0x98, 36, 6, 0⟩

/-- MBD_REPAIR (R211, 07). -/
def MBD_REPAIR : RegDef := ⟨0xA0, 1, 8, false, .w1c, [⟨63, 63, .ro, 0⟩, ⟨15, 0, .w1cAll, 0⟩]⟩
abbrev MBD_REPAIR_EXH : Fld := ⟨0xA0, 63, 63, 0⟩
abbrev MBD_REPAIR_SOFT : Fld := ⟨0xA0, 15, 0, 0⟩

/-- MBD_ATOM (R211, 07). -/
def MBD_ATOM : RegDef := ⟨0xA8, 1, 8, false, .ro, [⟨47, 0, .ro, 0⟩]⟩
abbrev MBD_ATOM_COUNT : Fld := ⟨0xA8, 47, 0, 0⟩

/-- The block registers of class MBD. -/
def regsMBD : List RegDef :=
  [MBD_STATE, MBD_CTL, MBD_ECC, MBD_UEADDR, MBD_REPAIR, MBD_ATOM]

/-- IOD_LPSTATE (R212, 07). -/
def IOD_LPSTATE : RegDef := ⟨0x100, 1, 8, false, .ro, [⟨11, 8, .ro, 0⟩, ⟨7, 0, .ro, 0⟩]⟩
abbrev IOD_LPSTATE_RET : Fld := ⟨0x100, 11, 8, 0⟩
abbrev IOD_LPSTATE_TSTATE : Fld := ⟨0x100, 7, 0, 0⟩

/-- IOD_LPCTL (R212, 07). -/
def IOD_LPCTL : RegDef := ⟨0x108, 1, 8, false, .rwo, [⟨27, 24, .rwo, 0⟩, ⟨23, 16, .rwo, 24⟩, ⟨9, 8, .rwo, 0⟩, ⟨1, 1, .rwo, 0⟩, ⟨0, 0, .w1s, 0⟩]⟩
abbrev IOD_LPCTL_RETMASK : Fld := ⟨0x108, 27, 24, 0⟩
abbrev IOD_LPCTL_SCRUBH : Fld := ⟨0x108, 23, 16, 0⟩
abbrev IOD_LPCTL_RETPKG : Fld := ⟨0x108, 9, 8, 0⟩
abbrev IOD_LPCTL_HARDEN : Fld := ⟨0x108, 1, 1, 0⟩
abbrev IOD_LPCTL_RETREQ : Fld := ⟨0x108, 0, 0, 0⟩

/-- IOD_LPECCj (R212, 07). -/
def IOD_LPECCj : RegDef := ⟨0x110, 4, 8, false, .w1c, [⟨63, 56, .w1cAll, 0⟩, ⟨55, 40, .w1cAll, 0⟩, ⟨39, 24, .w1cAll, 0⟩, ⟨23, 0, .w1cAll, 0⟩]⟩
abbrev IOD_LPECCj_IFERR : Fld := ⟨0x110, 63, 56, 8⟩
abbrev IOD_LPECCj_UE : Fld := ⟨0x110, 55, 40, 8⟩
abbrev IOD_LPECCj_STACKCE : Fld := ⟨0x110, 39, 24, 8⟩
abbrev IOD_LPECCj_CE : Fld := ⟨0x110, 23, 0, 8⟩

/-- IOD_LPUEADDR (R212, 07). -/
def IOD_LPUEADDR : RegDef := ⟨0x130, 1, 8, false, .ro, [⟨63, 63, .ro, 0⟩, ⟨47, 43, .ro, 0⟩, ⟨36, 6, .ro, 0⟩]⟩
abbrev IOD_LPUEADDR_VALID : Fld := ⟨0x130, 63, 63, 0⟩
abbrev IOD_LPUEADDR_CH : Fld := ⟨0x130, 47, 43, 0⟩
abbrev IOD_LPUEADDR_LINE : Fld := ⟨0x130, 36, 6, 0⟩

/-- IOD_TELK (R398, 13). -/
def IOD_TELK : RegDef := ⟨0x180, 1, 8, false, .ro, [⟨63, 48, .ro, 0⟩, ⟨47, 24, .ro, 0⟩, ⟨23, 0, .ro, 0⟩]⟩
abbrev IOD_TELK_MV : Fld := ⟨0x180, 63, 48, 0⟩
abbrev IOD_TELK_CUR : Fld := ⟨0x180, 47, 24, 0⟩
abbrev IOD_TELK_MW : Fld := ⟨0x180, 23, 0, 0⟩

/-- IOD_ENK (R398, 13). -/
def IOD_ENK : RegDef := ⟨0x188, 1, 8, false, .ro, [⟨63, 0, .ro, 0⟩]⟩
abbrev IOD_ENK_MJ : Fld := ⟨0x188, 63, 0, 0⟩

/-- IOD_TELQ (R398, 13). -/
def IOD_TELQ : RegDef := ⟨0x190, 1, 8, false, .ro, [⟨63, 48, .ro, 0⟩, ⟨47, 24, .ro, 0⟩, ⟨23, 0, .ro, 0⟩]⟩
abbrev IOD_TELQ_MV : Fld := ⟨0x190, 63, 48, 0⟩
abbrev IOD_TELQ_CUR : Fld := ⟨0x190, 47, 24, 0⟩
abbrev IOD_TELQ_MW : Fld := ⟨0x190, 23, 0, 0⟩

/-- IOD_ENQ (R398, 13). -/
def IOD_ENQ : RegDef := ⟨0x198, 1, 8, false, .ro, [⟨63, 0, .ro, 0⟩]⟩
abbrev IOD_ENQ_MJ : Fld := ⟨0x198, 63, 0, 0⟩

/-- HP_STAT (R495, 17). -/
def HP_STAT : RegDef := ⟨0x200, 1, 8, false, .ro, [⟨12, 8, .ro, 0⟩, ⟨6, 4, .ro, 0⟩, ⟨1, 0, .ro, 0⟩]⟩
abbrev HP_STAT_WIDTH : Fld := ⟨0x200, 12, 8, 0⟩
abbrev HP_STAT_SPEED : Fld := ⟨0x200, 6, 4, 0⟩
abbrev HP_STAT_LSTATE : Fld := ⟨0x200, 1, 0, 0⟩

/-- HP_ERR (R495, 17). -/
def HP_ERR : RegDef := ⟨0x208, 1, 8, false, .w1c, [⟨63, 48, .w1cAll, 0⟩, ⟨47, 32, .w1cAll, 0⟩, ⟨31, 16, .w1cAll, 0⟩, ⟨15, 12, .ro, 0⟩]⟩
abbrev HP_ERR_LDOWN : Fld := ⟨0x208, 63, 48, 0⟩
abbrev HP_ERR_BADACC : Fld := ⟨0x208, 47, 32, 0⟩
abbrev HP_ERR_DENY : Fld := ⟨0x208, 31, 16, 0⟩
abbrev HP_ERR_LAST : Fld := ⟨0x208, 15, 12, 0⟩

/-- The block registers of class IOD. -/
def regsIOD : List RegDef :=
  [IOD_LPSTATE, IOD_LPCTL, IOD_LPECCj, IOD_LPUEADDR, IOD_TELK, IOD_ENK] ++
  [IOD_TELQ, IOD_ENQ, HP_STAT, HP_ERR]

/-- TUB_DOMAIN (R246, 08). -/
def TUB_DOMAIN : RegDef := ⟨0x80, 1, 8, false, .rwo, [⟨63, 48, .rwo, 0⟩, ⟨47, 36, .rwo, 0⟩, ⟨35, 24, .rwo, 0⟩, ⟨23, 12, .rwo, 0⟩, ⟨11, 8, .rwo, 0⟩, ⟨7, 4, .rwo, 0⟩, ⟨3, 0, .rwo, 0⟩]⟩
abbrev TUB_DOMAIN_DOMID : Fld := ⟨0x80, 63, 48, 0⟩
abbrev TUB_DOMAIN_SELF : Fld := ⟨0x80, 47, 36, 0⟩
abbrev TUB_DOMAIN_LEAD : Fld := ⟨0x80, 35, 24, 0⟩
abbrev TUB_DOMAIN_TMASTER : Fld := ⟨0x80, 23, 12, 0⟩
abbrev TUB_DOMAIN_NXM1 : Fld := ⟨0x80, 11, 8, 0⟩
abbrev TUB_DOMAIN_NYM1 : Fld := ⟨0x80, 7, 4, 0⟩
abbrev TUB_DOMAIN_NZM1 : Fld := ⟨0x80, 3, 0, 0⟩

/-- TUB_CTL (R246, 08). -/
def TUB_CTL : RegDef := ⟨0x88, 1, 8, false, .rwo, [⟨47, 40, .rwo, 20⟩, ⟨14, 12, .rwo, 7⟩, ⟨10, 8, .rwo, 7⟩, ⟨4, 4, .rwo, 1⟩, ⟨3, 2, .ro, 0⟩, ⟨0, 0, .w1s, 0⟩]⟩
abbrev TUB_CTL_FTMO : Fld := ⟨0x88, 47, 40, 0⟩
abbrev TUB_CTL_SVC1 : Fld := ⟨0x88, 14, 12, 0⟩
abbrev TUB_CTL_SVC0 : Fld := ⟨0x88, 10, 8, 0⟩
abbrev TUB_CTL_AUTOFIX : Fld := ⟨0x88, 4, 4, 0⟩
abbrev TUB_CTL_FSTATE : Fld := ⟨0x88, 3, 2, 0⟩
abbrev TUB_CTL_PSTART : Fld := ⟨0x88, 0, 0, 0⟩

/-- TUB_FEPOCH (R246, 08). -/
def TUB_FEPOCH : RegDef := ⟨0x90, 1, 8, false, .rwo, [⟨47, 16, .ro, 0⟩, ⟨7, 7, .ro, 0⟩, ⟨3, 2, .ro, 0⟩, ⟨1, 1, .ro, 0⟩, ⟨0, 0, .rwo, 0⟩]⟩
abbrev TUB_FEPOCH_FLIPS : Fld := ⟨0x90, 47, 16, 0⟩
abbrev TUB_FEPOCH_ERR : Fld := ⟨0x90, 7, 7, 0⟩
abbrev TUB_FEPOCH_STATE : Fld := ⟨0x90, 3, 2, 0⟩
abbrev TUB_FEPOCH_OLD : Fld := ⟨0x90, 1, 1, 0⟩
abbrev TUB_FEPOCH_E : Fld := ⟨0x90, 0, 0, 0⟩

/-- TUB_TBL_SEL (R246, 08). -/
def TUB_TBL_SEL : RegDef := ⟨0x98, 1, 8, false, .rwo, [⟨39, 39, .rwo, 0⟩, ⟨38, 38, .rwo, 0⟩, ⟨37, 35, .rwo, 0⟩, ⟨9, 0, .rwo, 0⟩]⟩
abbrev TUB_TBL_SEL_AUTO : Fld := ⟨0x98, 39, 39, 0⟩
abbrev TUB_TBL_SEL_BANK : Fld := ⟨0x98, 38, 38, 0⟩
abbrev TUB_TBL_SEL_TABLE : Fld := ⟨0x98, 37, 35, 0⟩
abbrev TUB_TBL_SEL_INDEX : Fld := ⟨0x98, 9, 0, 0⟩

/-- TUB_TBL_DATA (R246, 08). -/
def TUB_TBL_DATA : RegDef := ⟨0xA0, 1, 8, false, .rwo, [⟨63, 0, .rwo, 0⟩]⟩
abbrev TUB_TBL_DATA_DATA : Fld := ⟨0xA0, 63, 0, 0⟩

/-- TUB_BANKSUM (R246, 08). -/
def TUB_BANKSUM : RegDef := ⟨0xA8, 1, 8, false, .ro, [⟨63, 32, .ro, 0⟩, ⟨31, 0, .ro, 0⟩]⟩
abbrev TUB_BANKSUM_SUM1 : Fld := ⟨0xA8, 63, 32, 0⟩
abbrev TUB_BANKSUM_SUM0 : Fld := ⟨0xA8, 31, 0, 0⟩

/-- TUB_FRESID (R246, 08). -/
def TUB_FRESID : RegDef := ⟨0xB0, 1, 8, false, .ro, [⟨63, 63, .ro, 0⟩, ⟨62, 32, .ro, 0⟩, ⟨31, 31, .ro, 0⟩, ⟨30, 0, .ro, 0⟩]⟩
abbrev TUB_FRESID_TOUCH1 : Fld := ⟨0xB0, 63, 63, 0⟩
abbrev TUB_FRESID_COUNT1 : Fld := ⟨0xB0, 62, 32, 0⟩
abbrev TUB_FRESID_TOUCH0 : Fld := ⟨0xB0, 31, 31, 0⟩
abbrev TUB_FRESID_COUNT0 : Fld := ⟨0xB0, 30, 0, 0⟩

/-- TUB_EVCNT (R246, 08). -/
def TUB_EVCNT : RegDef := ⟨0xB8, 1, 8, false, .w1c, [⟨63, 48, .w1cAll, 0⟩, ⟨47, 32, .w1cAll, 0⟩, ⟨31, 16, .w1cAll, 0⟩, ⟨15, 0, .w1cAll, 0⟩]⟩
abbrev TUB_EVCNT_TAGREJ : Fld := ⟨0xB8, 63, 48, 0⟩
abbrev TUB_EVCNT_DENREJ : Fld := ⟨0xB8, 47, 32, 0⟩
abbrev TUB_EVCNT_TTL : Fld := ⟨0xB8, 31, 16, 0⟩
abbrev TUB_EVCNT_MSGDROP : Fld := ⟨0xB8, 15, 0, 0⟩

/-- TUB_HOPQ (R246, 08). -/
def TUB_HOPQ : RegDef := ⟨0xC0, 1, 8, false, .rw, [⟨63, 63, .ro, 0⟩, ⟨62, 56, .ro, 0⟩, ⟨55, 44, .ro, 0⟩, ⟨38, 32, .ro, 0⟩, ⟨11, 0, .rw, 0⟩]⟩
abbrev TUB_HOPQ_VALID : Fld := ⟨0xC0, 63, 63, 0⟩
abbrev TUB_HOPQ_HOPS : Fld := ⟨0xC0, 62, 56, 0⟩
abbrev TUB_HOPQ_PHYS : Fld := ⟨0xC0, 55, 44, 0⟩
abbrev TUB_HOPQ_FBW : Fld := ⟨0xC0, 38, 32, 0⟩
abbrev TUB_HOPQ_LOGICAL : Fld := ⟨0xC0, 11, 0, 0⟩

/-- TUB_FTBLW (R246, 08). -/
def TUB_FTBLW : RegDef := ⟨0xC8, 1, 8, false, .wo, [⟨63, 0, .wo, 0⟩]⟩
abbrev TUB_FTBLW_WORD : Fld := ⟨0xC8, 63, 0, 0⟩

/-- TUB_MBOX (R246, 08). -/
def TUB_MBOX : RegDef := ⟨0xF8, 1, 8, false, .ro, [⟨63, 0, .ro, 0⟩]⟩
abbrev TUB_MBOX_MSG : Fld := ⟨0xF8, 63, 0, 0⟩

/-- TUB_JOBp (R246, 08). -/
def TUB_JOBp : RegDef := ⟨0x100, 16, 8, false, .rwo, [⟨63, 63, .rwo, 0⟩, ⟨59, 48, .rwo, 0⟩, ⟨47, 36, .rwo, 4095⟩, ⟨35, 32, .rwo, 0⟩, ⟨15, 0, .rwo, 0⟩]⟩
abbrev TUB_JOBp_EN : Fld := ⟨0x100, 63, 63, 8⟩
abbrev TUB_JOBp_MGR : Fld := ⟨0x100, 59, 48, 8⟩
abbrev TUB_JOBp_STBY : Fld := ⟨0x100, 47, 36, 8⟩
abbrev TUB_JOBp_JSLOT : Fld := ⟨0x100, 35, 32, 8⟩
abbrev TUB_JOBp_TAG : Fld := ⟨0x100, 15, 0, 8⟩

/-- TUB_WINw_BASE (R246, 08). -/
def TUB_WINw_BASE : RegDef := ⟨0x400, 64, 16, false, .rwo, [⟨51, 12, .rwo, 0⟩]⟩
abbrev TUB_WINw_BASE_BASE : Fld := ⟨0x400, 51, 12, 16⟩

/-- TUB_WINw_CTL (R246, 08). -/
def TUB_WINw_CTL : RegDef := ⟨0x408, 64, 16, false, .rwo, [⟨63, 63, .rwo, 0⟩, ⟨62, 59, .rwo, 0⟩, ⟨58, 58, .ro, 0⟩, ⟨55, 40, .rwo, 0⟩, ⟨39, 0, .rwo, 0⟩]⟩
abbrev TUB_WINw_CTL_V : Fld := ⟨0x408, 63, 63, 16⟩
abbrev TUB_WINw_CTL_PERM : Fld := ⟨0x408, 62, 59, 16⟩
abbrev TUB_WINw_CTL_ERR : Fld := ⟨0x408, 58, 58, 16⟩
abbrev TUB_WINw_CTL_TAG : Fld := ⟨0x408, 55, 40, 16⟩
abbrev TUB_WINw_CTL_NPG : Fld := ⟨0x408, 39, 0, 16⟩

/-- The block registers of class TUB. -/
def regsTUB : List RegDef :=
  [TUB_DOMAIN, TUB_CTL, TUB_FEPOCH, TUB_TBL_SEL, TUB_TBL_DATA, TUB_BANKSUM] ++
  [TUB_FRESID, TUB_EVCNT, TUB_HOPQ, TUB_FTBLW, TUB_MBOX, TUB_JOBp] ++
  [TUB_WINw_BASE, TUB_WINw_CTL]

/-- TUB_PSTATE (R247, 08). -/
def TUB_PSTATE : RegDef := ⟨0x80, 1, 8, false, .ro, [⟨63, 52, .ro, 0⟩, ⟨51, 40, .ro, 0⟩, ⟨34, 30, .ro, 0⟩, ⟨29, 27, .ro, 7⟩, ⟨23, 20, .ro, 0⟩, ⟨17, 16, .ro, 0⟩, ⟨3, 0, .ro, 0⟩]⟩
abbrev TUB_PSTATE_PEER : Fld := ⟨0x80, 63, 52, 0⟩
abbrev TUB_PSTATE_CABLE : Fld := ⟨0x80, 51, 40, 0⟩
abbrev TUB_PSTATE_GOOD : Fld := ⟨0x80, 34, 30, 0⟩
abbrev TUB_PSTATE_DIR : Fld := ⟨0x80, 29, 27, 0⟩
abbrev TUB_PSTATE_CAUSE : Fld := ⟨0x80, 23, 20, 0⟩
abbrev TUB_PSTATE_WIDTH : Fld := ⟨0x80, 17, 16, 0⟩
abbrev TUB_PSTATE_STATE : Fld := ⟨0x80, 3, 0, 0⟩

/-- TUB_PCTL (R247, 08). -/
def TUB_PCTL : RegDef := ⟨0x88, 1, 8, false, .rwo, [⟨2, 2, .rwo, 0⟩, ⟨1, 1, .w1s, 0⟩]⟩
abbrev TUB_PCTL_HOLD : Fld := ⟨0x88, 2, 2, 0⟩
abbrev TUB_PCTL_RETRAIN : Fld := ⟨0x88, 1, 1, 0⟩

/-- TUB_PCAPL (R247, 08). -/
def TUB_PCAPL : RegDef := ⟨0x90, 1, 8, false, .ro, [⟨63, 0, .ro, 0⟩]⟩
abbrev TUB_PCAPL_CAP : Fld := ⟨0x90, 63, 0, 0⟩

/-- TUB_PCAPR (R247, 08). -/
def TUB_PCAPR : RegDef := ⟨0x98, 1, 8, false, .ro, [⟨63, 0, .ro, 0⟩]⟩
abbrev TUB_PCAPR_CAP : Fld := ⟨0x98, 63, 0, 0⟩

/-- TUB_PERR (R247, 08). -/
def TUB_PERR : RegDef := ⟨0xA0, 1, 8, false, .w1c, [⟨63, 48, .w1cAll, 0⟩, ⟨47, 32, .w1cAll, 0⟩, ⟨31, 0, .w1cAll, 0⟩]⟩
abbrev TUB_PERR_RESEND : Fld := ⟨0xA0, 63, 48, 0⟩
abbrev TUB_PERR_UNCORR : Fld := ⟨0xA0, 47, 32, 0⟩
abbrev TUB_PERR_CORR : Fld := ⟨0xA0, 31, 0, 0⟩

/-- The block registers of class TUBP. -/
def regsTUBP : List RegDef :=
  [TUB_PSTATE, TUB_PCTL, TUB_PCAPL, TUB_PCAPR, TUB_PERR]

/-- TUB_MGR_CTL (R248, 08). -/
def TUB_MGR_CTL : RegDef := ⟨0x80, 1, 8, false, .rwo, [⟨47, 36, .rwo, 4095⟩, ⟨35, 32, .rwo, 15⟩, ⟨31, 24, .rwo, 1⟩, ⟨23, 16, .rwo, 3⟩, ⟨1, 1, .w1s, 0⟩, ⟨0, 0, .w1s, 0⟩]⟩
abbrev TUB_MGR_CTL_STBY : Fld := ⟨0x80, 47, 36, 0⟩
abbrev TUB_MGR_CTL_PART : Fld := ⟨0x80, 35, 32, 0⟩
abbrev TUB_MGR_CTL_BEATMS : Fld := ⟨0x80, 31, 24, 0⟩
abbrev TUB_MGR_CTL_LOSTN : Fld := ⟨0x80, 23, 16, 0⟩
abbrev TUB_MGR_CTL_STOP : Fld := ⟨0x80, 1, 1, 0⟩
abbrev TUB_MGR_CTL_GO : Fld := ⟨0x80, 0, 0, 0⟩

/-- TUB_MGR_ROSTER (R248, 08). -/
def TUB_MGR_ROSTER : RegDef := ⟨0x88, 1, 8, false, .rwo, [⟨63, 52, .rwo, 0⟩, ⟨51, 6, .rwo, 0⟩]⟩
abbrev TUB_MGR_ROSTER_NM1 : Fld := ⟨0x88, 63, 52, 0⟩
abbrev TUB_MGR_ROSTER_ADDR : Fld := ⟨0x88, 51, 6, 0⟩

/-- TUB_MGR_RING (R248, 08). -/
def TUB_MGR_RING : RegDef := ⟨0x90, 1, 8, false, .rwo, [⟨63, 52, .rwo, 0⟩, ⟨51, 6, .rwo, 0⟩]⟩
abbrev TUB_MGR_RING_NM1 : Fld := ⟨0x90, 63, 52, 0⟩
abbrev TUB_MGR_RING_ADDR : Fld := ⟨0x90, 51, 6, 0⟩

/-- TUB_MGR_STEP (R248, 08). -/
def TUB_MGR_STEP : RegDef := ⟨0x98, 1, 8, false, .rwo, [⟨47, 0, .rwo, 0⟩]⟩
abbrev TUB_MGR_STEP_LIMIT : Fld := ⟨0x98, 47, 0, 0⟩

/-- TUB_MGR_STATUS (R248, 08). -/
def TUB_MGR_STATUS : RegDef := ⟨0xA0, 1, 8, false, .ro, [⟨63, 60, .ro, 0⟩, ⟨47, 0, .ro, 0⟩]⟩
abbrev TUB_MGR_STATUS_MSTATE : Fld := ⟨0xA0, 63, 60, 0⟩
abbrev TUB_MGR_STATUS_STEP : Fld := ⟨0xA0, 47, 0, 0⟩

/-- The block registers of class TUBM. -/
def regsTUBM : List RegDef :=
  [TUB_MGR_CTL, TUB_MGR_ROSTER, TUB_MGR_RING, TUB_MGR_STEP, TUB_MGR_STATUS]

/-- SKN_SEL (R280, 09). -/
def SKN_SEL : RegDef := ⟨0x80, 1, 8, false, .rw, [⟨43, 32, .rw, 0⟩, ⟨31, 0, .rw, 0⟩]⟩
abbrev SKN_SEL_WIDX : Fld := ⟨0x80, 43, 32, 0⟩
abbrev SKN_SEL_SKID : Fld := ⟨0x80, 31, 0, 0⟩

/-- SKN_VALUE (R280, 09). -/
def SKN_VALUE : RegDef := ⟨0x88, 1, 8, false, .ro, [⟨47, 0, .ro, 0⟩]⟩
abbrev SKN_VALUE_VALUE : Fld := ⟨0x88, 47, 0, 0⟩

/-- SKN_INFO (R280, 09). -/
def SKN_INFO : RegDef := ⟨0x90, 1, 8, false, .ro, [⟨63, 63, .ro, 0⟩, ⟨62, 62, .ro, 0⟩, ⟨61, 60, .ro, 0⟩, ⟨52, 48, .ro, 0⟩, ⟨45, 40, .ro, 0⟩, ⟨38, 32, .ro, 0⟩, ⟨27, 16, .ro, 0⟩, ⟨15, 0, .ro, 0⟩]⟩
abbrev SKN_INFO_VALID : Fld := ⟨0x90, 63, 63, 0⟩
abbrev SKN_INFO_SAT : Fld := ⟨0x90, 62, 62, 0⟩
abbrev SKN_INFO_STATE : Fld := ⟨0x90, 61, 60, 0⟩
abbrev SKN_INFO_OWNER : Fld := ⟨0x90, 52, 48, 0⟩
abbrev SKN_INFO_PM1 : Fld := ⟨0x90, 45, 40, 0⟩
abbrev SKN_INFO_NWAIT : Fld := ⟨0x90, 38, 32, 0⟩
abbrev SKN_INFO_NDET : Fld := ⟨0x90, 27, 16, 0⟩
abbrev SKN_INFO_POLLS : Fld := ⟨0x90, 15, 0, 0⟩

/-- SKN_MASK (R280, 09). -/
def SKN_MASK : RegDef := ⟨0x98, 1, 8, false, .ro, [⟨63, 0, .ro, 0⟩]⟩
abbrev SKN_MASK_MASK : Fld := ⟨0x98, 63, 0, 0⟩

/-- SKN_EARLY (R280, 09). -/
def SKN_EARLY : RegDef := ⟨0xA0, 1, 8, false, .ro, [⟨63, 0, .ro, 0⟩]⟩
abbrev SKN_EARLY_EARLY : Fld := ⟨0xA0, 63, 0, 0⟩

/-- SKN_LASTSRC (R280, 09). -/
def SKN_LASTSRC : RegDef := ⟨0xA8, 1, 8, false, .ro, [⟨63, 60, .ro, 0⟩, ⟨59, 56, .ro, 0⟩, ⟨51, 40, .ro, 0⟩, ⟨39, 32, .ro, 0⟩, ⟨30, 28, .ro, 0⟩, ⟨27, 24, .ro, 0⟩]⟩
abbrev SKN_LASTSRC_SOP : Fld := ⟨0xA8, 63, 60, 0⟩
abbrev SKN_LASTSRC_STATUS : Fld := ⟨0xA8, 59, 56, 0⟩
abbrev SKN_LASTSRC_PANEL : Fld := ⟨0xA8, 51, 40, 0⟩
abbrev SKN_LASTSRC_EP : Fld := ⟨0xA8, 39, 32, 0⟩
abbrev SKN_LASTSRC_C : Fld := ⟨0xA8, 30, 28, 0⟩
abbrev SKN_LASTSRC_PART : Fld := ⟨0xA8, 27, 24, 0⟩

/-- SKN_LASTGT (R280, 09). -/
def SKN_LASTGT : RegDef := ⟨0xB0, 1, 8, false, .ro, [⟨63, 0, .ro, 0⟩]⟩
abbrev SKN_LASTGT_GT : Fld := ⟨0xB0, 63, 0, 0⟩

/-- SKN_WAITER (R280, 09). -/
def SKN_WAITER : RegDef := ⟨0xB8, 1, 8, false, .ro, [⟨63, 63, .ro, 0⟩, ⟨62, 62, .ro, 0⟩, ⟨61, 60, .ro, 0⟩, ⟨59, 56, .ro, 0⟩, ⟨55, 48, .ro, 0⟩, ⟨47, 45, .ro, 0⟩, ⟨31, 0, .ro, 0⟩]⟩
abbrev SKN_WAITER_V : Fld := ⟨0xB8, 63, 63, 0⟩
abbrev SKN_WAITER_DET : Fld := ⟨0xB8, 62, 62, 0⟩
abbrev SKN_WAITER_KIND : Fld := ⟨0xB8, 61, 60, 0⟩
abbrev SKN_WAITER_PART : Fld := ⟨0xB8, 59, 56, 0⟩
abbrev SKN_WAITER_EP : Fld := ⟨0xB8, 55, 48, 0⟩
abbrev SKN_WAITER_C : Fld := ⟨0xB8, 47, 45, 0⟩
abbrev SKN_WAITER_TLEFT : Fld := ⟨0xB8, 31, 0, 0⟩

/-- SKN_WAITN (R280, 09). -/
def SKN_WAITN : RegDef := ⟨0xC0, 1, 8, false, .ro, [⟨47, 0, .ro, 0⟩]⟩
abbrev SKN_WAITN_N : Fld := ⟨0xC0, 47, 0, 0⟩

/-- SKN_SETV (R280, 09). -/
def SKN_SETV : RegDef := ⟨0xC8, 1, 8, false, .rwo, [⟨63, 0, .rwo, 0⟩]⟩
abbrev SKN_SETV_OPND : Fld := ⟨0xC8, 63, 0, 0⟩

/-- SKN_CMD (R280, 09). -/
def SKN_CMD : RegDef := ⟨0xD0, 1, 8, false, .rwo, [⟨11, 8, .ro, 0⟩, ⟨1, 1, .w1s, 0⟩, ⟨0, 0, .w1s, 0⟩]⟩
abbrev SKN_CMD_RESULT : Fld := ⟨0xD0, 11, 8, 0⟩
abbrev SKN_CMD_BREAK : Fld := ⟨0xD0, 1, 1, 0⟩
abbrev SKN_CMD_SET : Fld := ⟨0xD0, 0, 0, 0⟩

/-- SKN_OWNSEL (R280, 09). -/
def SKN_OWNSEL : RegDef := ⟨0xD8, 1, 8, false, .rwo, [⟨12, 8, .rwo, 0⟩, ⟨7, 0, .rwo, 0⟩]⟩
abbrev SKN_OWNSEL_BLOCK : Fld := ⟨0xD8, 12, 8, 0⟩
abbrev SKN_OWNSEL_EP : Fld := ⟨0xD8, 7, 0, 0⟩

/-- SKN_OWN (R280, 09). -/
def SKN_OWN : RegDef := ⟨0xE0, 1, 8, false, .rwo, [⟨4, 0, .rwo, 16⟩]⟩
abbrev SKN_OWN_OWNER : Fld := ⟨0xE0, 4, 0, 0⟩

/-- SKN_NFYn_SKID (R280, 09). -/
def SKN_NFYn_SKID : RegDef := ⟨0x100, 64, 16, false, .rwo, [⟨31, 0, .rwo, 0⟩]⟩
abbrev SKN_NFYn_SKID_SKID : Fld := ⟨0x100, 31, 0, 16⟩

/-- SKN_NFYn_CTL (R280, 09). -/
def SKN_NFYn_CTL : RegDef := ⟨0x108, 64, 16, false, .rwo, [⟨63, 63, .w1s, 0⟩, ⟨62, 62, .ro, 0⟩, ⟨61, 61, .ro, 0⟩, ⟨55, 48, .rwo, 0⟩, ⟨47, 0, .rwo, 0⟩]⟩
abbrev SKN_NFYn_CTL_ARM : Fld := ⟨0x108, 63, 63, 16⟩
abbrev SKN_NFYn_CTL_ERR : Fld := ⟨0x108, 62, 62, 16⟩
abbrev SKN_NFYn_CTL_FIRED : Fld := ⟨0x108, 61, 61, 16⟩
abbrev SKN_NFYn_CTL_VEC : Fld := ⟨0x108, 55, 48, 16⟩
abbrev SKN_NFYn_CTL_THRESH : Fld := ⟨0x108, 47, 0, 16⟩

/-- SKN_NFYPEND (R280, 09). -/
def SKN_NFYPEND : RegDef := ⟨0x500, 1, 8, false, .w1c, [⟨63, 0, .w1c, 0⟩]⟩
abbrev SKN_NFYPEND_PEND : Fld := ⟨0x500, 63, 0, 0⟩

/-- The block registers of class SKN. -/
def regsSKN : List RegDef :=
  [SKN_SEL, SKN_VALUE, SKN_INFO, SKN_MASK, SKN_EARLY, SKN_LASTSRC] ++
  [SKN_LASTGT, SKN_WAITER, SKN_WAITN, SKN_SETV, SKN_CMD, SKN_OWNSEL] ++
  [SKN_OWN, SKN_NFYn_SKID, SKN_NFYn_CTL, SKN_NFYPEND]

/-- HNK_PSTATE (R397, 13). -/
def HNK_PSTATE : RegDef := ⟨0x80, 1, 8, false, .ro, [⟨15, 12, .ro, 0⟩, ⟨10, 10, .ro, 0⟩, ⟨2, 0, .ro, 0⟩]⟩
abbrev HNK_PSTATE_CAUSE : Fld := ⟨0x80, 15, 12, 0⟩
abbrev HNK_PSTATE_DERATE : Fld := ⟨0x80, 10, 10, 0⟩
abbrev HNK_PSTATE_STATE : Fld := ⟨0x80, 2, 0, 0⟩

/-- HNK_PCTL (R397, 13). -/
def HNK_PCTL : RegDef := ⟨0x88, 1, 8, false, .rwo, [⟨23, 16, .rwo, 95⟩, ⟨7, 4, .ro, 0⟩, ⟨2, 2, .w1s, 0⟩, ⟨1, 1, .w1s, 0⟩, ⟨0, 0, .w1s, 0⟩]⟩
abbrev HNK_PCTL_THOT : Fld := ⟨0x88, 23, 16, 0⟩
abbrev HNK_PCTL_RESULT : Fld := ⟨0x88, 7, 4, 0⟩
abbrev HNK_PCTL_CLRFLT : Fld := ⟨0x88, 2, 2, 0⟩
abbrev HNK_PCTL_OFFREQ : Fld := ⟨0x88, 1, 1, 0⟩
abbrev HNK_PCTL_ONREQ : Fld := ⟨0x88, 0, 0, 0⟩

/-- HNK_BUDGET (R397, 13). -/
def HNK_BUDGET : RegDef := ⟨0x90, 1, 8, false, .ro, [⟨63, 48, .ro, 0⟩, ⟨47, 32, .ro, 0⟩, ⟨20, 16, .ro, 16⟩, ⟨5, 0, .ro, 0⟩]⟩
abbrev HNK_BUDGET_BW : Fld := ⟨0x90, 63, 48, 0⟩
abbrev HNK_BUDGET_RW : Fld := ⟨0x90, 47, 32, 0⟩
abbrev HNK_BUDGET_NCAP : Fld := ⟨0x90, 20, 16, 0⟩
abbrev HNK_BUDGET_W : Fld := ⟨0x90, 5, 0, 0⟩

/-- HNK_TEMP (R397, 13). -/
def HNK_TEMP : RegDef := ⟨0x98, 1, 8, false, .ro, [⟨63, 56, .ro, 0⟩, ⟨55, 48, .ro, 0⟩, ⟨47, 40, .ro, 0⟩, ⟨39, 32, .ro, 0⟩]⟩
abbrev HNK_TEMP_TJMAX : Fld := ⟨0x98, 63, 56, 0⟩
abbrev HNK_TEMP_TSTK : Fld := ⟨0x98, 55, 48, 0⟩
abbrev HNK_TEMP_FCST : Fld := ⟨0x98, 47, 40, 0⟩
abbrev HNK_TEMP_HOTN : Fld := ⟨0x98, 39, 32, 0⟩

/-- HNK_NOTICE (R397, 13). -/
def HNK_NOTICE : RegDef := ⟨0xA0, 1, 8, false, .w1c, [⟨63, 48, .w1cAll, 0⟩, ⟨47, 32, .w1cAll, 0⟩, ⟨31, 0, .w1cAll, 0⟩]⟩
abbrev HNK_NOTICE_LATE : Fld := ⟨0xA0, 63, 48, 0⟩
abbrev HNK_NOTICE_DROP : Fld := ⟨0xA0, 47, 32, 0⟩
abbrev HNK_NOTICE_ACC : Fld := ⟨0xA0, 31, 0, 0⟩

/-- HNK_CONN (R397, 13). -/
def HNK_CONN : RegDef := ⟨0xA8, 1, 8, false, .ro, [⟨63, 48, .ro, 0⟩, ⟨47, 44, .ro, 0⟩, ⟨43, 43, .ro, 0⟩]⟩
abbrev HNK_CONN_RATIO : Fld := ⟨0xA8, 63, 48, 0⟩
abbrev HNK_CONN_SUSN : Fld := ⟨0xA8, 47, 44, 0⟩
abbrev HNK_CONN_PERS : Fld := ⟨0xA8, 43, 43, 0⟩

/-- HNK_CYC0 (R397, 13). -/
def HNK_CYC0 : RegDef := ⟨0xB0, 1, 8, false, .rwo, [⟨63, 32, .rwo, 0⟩, ⟨31, 0, .rwo, 0⟩]⟩
abbrev HNK_CYC0_B1 : Fld := ⟨0xB0, 63, 32, 0⟩
abbrev HNK_CYC0_B0 : Fld := ⟨0xB0, 31, 0, 0⟩

/-- HNK_CYC1 (R397, 13). -/
def HNK_CYC1 : RegDef := ⟨0xB8, 1, 8, false, .rwo, [⟨63, 32, .rwo, 0⟩, ⟨31, 0, .rwo, 0⟩]⟩
abbrev HNK_CYC1_B3 : Fld := ⟨0xB8, 63, 32, 0⟩
abbrev HNK_CYC1_B2 : Fld := ⟨0xB8, 31, 0, 0⟩

/-- HNK_LIFE (R397, 13). -/
def HNK_LIFE : RegDef := ⟨0xC0, 1, 8, false, .ro, [⟨31, 0, .ro, 0⟩]⟩
abbrev HNK_LIFE_PPM : Fld := ⟨0xC0, 31, 0, 0⟩

/-- HNK_TELd (R397, 13). -/
def HNK_TELd : RegDef := ⟨0x100, 4, 16, false, .ro, [⟨63, 48, .ro, 0⟩, ⟨47, 24, .ro, 0⟩, ⟨23, 0, .ro, 0⟩]⟩
abbrev HNK_TELd_MV : Fld := ⟨0x100, 63, 48, 16⟩
abbrev HNK_TELd_CUR : Fld := ⟨0x100, 47, 24, 16⟩
abbrev HNK_TELd_MW : Fld := ⟨0x100, 23, 0, 16⟩

/-- HNK_ENd (R397, 13). -/
def HNK_ENd : RegDef := ⟨0x108, 4, 16, false, .ro, [⟨63, 0, .ro, 0⟩]⟩
abbrev HNK_ENd_MJ : Fld := ⟨0x108, 63, 0, 16⟩

/-- The block registers of class HNK. -/
def regsHNK : List RegDef :=
  [HNK_PSTATE, HNK_PCTL, HNK_BUDGET, HNK_TEMP, HNK_NOTICE, HNK_CONN] ++
  [HNK_CYC0, HNK_CYC1, HNK_LIFE, HNK_TELd, HNK_ENd]

/-- DIE_LOC (R471, 16). -/
def DIE_LOC : RegDef := ⟨0x80, 1, 8, false, .ro, [⟨63, 32, .ro, 0⟩, ⟨25, 24, .ro, 0⟩, ⟨20, 16, .ro, 0⟩, ⟨10, 8, .ro, 0⟩, ⟨3, 0, .ro, 0⟩]⟩
abbrev DIE_LOC_SERIAL : Fld := ⟨0x80, 63, 32, 0⟩
abbrev DIE_LOC_DISC : Fld := ⟨0x80, 25, 24, 0⟩
abbrev DIE_LOC_HANK : Fld := ⟨0x80, 20, 16, 0⟩
abbrev DIE_LOC_DY : Fld := ⟨0x80, 10, 8, 0⟩
abbrev DIE_LOC_DX : Fld := ⟨0x80, 3, 0, 0⟩

/-- DIE_CLK (R362, 12). -/
def DIE_CLK : RegDef := ⟨0x100, 1, 8, false, .ro, [⟨47, 32, .ro, 0⟩, ⟨23, 16, .ro, 0⟩, ⟨1, 0, .ro, 0⟩]⟩
abbrev DIE_CLK_LERR : Fld := ⟨0x100, 47, 32, 0⟩
abbrev DIE_CLK_PT : Fld := ⟨0x100, 23, 16, 0⟩
abbrev DIE_CLK_GSTATE : Fld := ⟨0x100, 1, 0, 0⟩

/-- DIE_STRETCH (R362, 12). -/
def DIE_STRETCH : RegDef := ⟨0x108, 1, 8, false, .w1c, [⟨63, 32, .w1cAll, 0⟩, ⟨31, 0, .w1cAll, 0⟩]⟩
abbrev DIE_STRETCH_DROOPS : Fld := ⟨0x108, 63, 32, 0⟩
abbrev DIE_STRETCH_SCYC : Fld := ⟨0x108, 31, 0, 0⟩

/-- The block registers of class DIE. -/
def regsDIE : List RegDef :=
  [DIE_LOC, DIE_CLK, DIE_STRETCH]

/-- DIST_STAT (R474, 16). -/
def DIST_STAT : RegDef := ⟨0x80, 1, 8, false, .ro, [⟨63, 63, .ro, 0⟩, ⟨47, 0, .ro, 0⟩]⟩
abbrev DIST_STAT_BUSY : Fld := ⟨0x80, 63, 63, 0⟩
abbrev DIST_STAT_UPD : Fld := ⟨0x80, 47, 0, 0⟩

/-- The block registers of class DIST. -/
def regsDIST : List RegDef :=
  [DIST_STAT]

end Sys2Proof.Machine
end

