-- ==== Sys2Proof/Machine/State.lean ====
section
/-!
DEFINITION. The state of the panel as plain data: registers, memories and every piece of state the spec gives
the block, the commands waiting, and the state after the hardware stage (panel reset).
-/

namespace Sys2Proof.Machine

/-- Why a step stops with a fault. No command of this block stops so: the errors the spec names are effects on State
(sequencer faults, completion statuses, refused requests). -/
inductive Fault where
  /-- Raised by no command; kept so that the type is not empty. Safe. -/
  | unreached
  deriving DecidableEq, Repr

/-- Why a command has no meaning. -/
inductive Refusal where
  /-- The command named is not modelled. Safe: nothing is claimed of it. -/
  | notModelled (mnemonic : String)
  /-- An operand names a unit the panel does not have, or a word that is not of the command's opcode (WellFormed). Safe. -/
  | noSuchUnit
  deriving DecidableEq, Repr
/-! ### Clusters (chapters 02, 03, 04) -/

/-- Sequencer states (Table 2.11), in code order. -/
inductive SeqSt where
  | idle | run | wait | fault | suspended
  deriving DecidableEq, Repr

/-- An open loop level (R58): first and last PC of the body, iterations left, stepped register, step, call depth. -/
structure LoopLv where
  first : Nat
  last : Nat
  left : Nat
  ireg : Nat
  inc : Int
  depth : Nat
  deriving DecidableEq, Repr

/-- The command sequencer of a cluster (R35, R47, R53, R54). -/
structure Seq where
  st : SeqSt := .idle
  pc : Nat := 0
  last : Nat := 0
  fcode : Nat := 0
  /-- I1..I15; I0 is never listed (R50). -/
  iregs : SMap Word := []
  /-- Skein slots 0..63. -/
  slots : SMap (BitVec 32) := []
  /-- Return PCs, innermost first. -/
  calls : List Nat := []
  /-- Open loop levels, innermost first. -/
  loops : List LoopLv := []
  /-- Window shift code and retry limit of TWIN. -/
  shift : Nat := 1
  rlim : Nat := 3
  /-- The command whose issue waits (SYNC, register interlock, full queue). -/
  held : Option Cmd := none
  /-- The unit command whose completion issue waits for (SKOP, BSK). -/
  waitId : Option Nat := none
  /-- The state left at suspension (R61). -/
  resume : SeqSt := .run
  deriving DecidableEq, Repr

/-- The unit a command was issued to (R55); `seq` is the sequencer's own, of a BSK whose READ is out. -/
inductive UnitK where
  | tensor | vector | draft | net | seq
  deriving DecidableEq, Repr

/-- An issued command that is not complete (R55, R57). -/
structure UCmd where
  id : Nat
  unit : UnitK
  w : Cmd
  pc : Nat
  /-- Register operands as read at issue. -/
  args : List Nat
  /-- The unit has begun the command. -/
  started : Bool
  /-- The completion point of Table 2.12 is reached. -/
  fin : Bool
  /-- Completion status (Table 5.4). -/
  status : Nat
  /-- The value a skein operation or atomic returned. -/
  val : Nat
  /-- The integer register an incomplete command will write (R56). -/
  wreg : Option Nat
  /-- Outstanding transfers of the command. -/
  left : Nat
  /-- GT counts of issue, and the deadline of a wait timed at the requester. -/
  due : Option Nat
  /-- The stream was reset: the command completes without effect on the sequencer (R419). -/
  orphan : Bool := false
  deriving DecidableEq, Repr

/-- One operand of a tensor pass: format, lanes, element area and scale area (R50, R103), and the source. -/
structure Oper where
  fmt : Nat
  lanes : Nat
  /-- Draft engine number, or none for a store offset. -/
  ring : Option Nat
  /-- The store offset; for a ring, the place in the stream of the pass's first slot. -/
  off : Nat
  /-- Slots of the pass, those still to be consumed, those consumed, and the ring's release skein. -/
  spp : Nat
  slotsLeft : Nat
  took : Nat
  rsk : Nat
  el : List Byte
  sc : List Byte
  /-- Store ranges of the slots consumed: elements and scales of each (R286). -/
  slots : List (Nat × Nat) := []
  /-- Maximum scale exponent delivered by a pre-scan (R111). -/
  maxes : List Int
  pois : Bool
  deriving DecidableEq, Repr

/-- The tensor pass in progress (R38, R72). -/
structure Pass where
  id : Nat
  set : Nat
  k : Nat
  m : Nat
  n : Nat
  tile : Nat
  wauto : Bool
  l0 : Int
  shift : Nat
  rlim : Nat
  tries : Nat
  /-- The pass is chosen for ply checking: its slots are held (R286). -/
  held : Bool
  a : Oper
  b : Oper
  deriving DecidableEq, Repr

/-- An accumulator set (R71): elements by row·256 + column, window base, valid size and flags. -/
structure AccSet where
  a : SMap (BitVec 96) := []
  spec : SMap (BitVec 2) := []
  l : Int := 0
  m : Nat := 0
  n : Nat := 0
  wrapped : Bool := false
  rtry : Nat := 0
  deriving DecidableEq, Repr

/-- Draft engine states (Table 4.3), in code order. -/
inductive DftSt where
  | idle | run | full | done | stopped | suspended
  deriving DecidableEq, Repr

/-- A mark of a pass (R112): its first slot, that slot's place in the stream of runs, and the pre-scan maxima. -/
structure Mark where
  slot : Nat
  pos : Nat
  maxes : List Int
  deriving DecidableEq, Repr

/-- Bytes a source read returned, and the positions of those that are poisoned. -/
structure Got where
  bytes : List Byte
  px : List Nat
  deriving DecidableEq, Repr

/-- A draft engine (chapter 04). Its outstanding reads and writes are transfers in `Net`. -/
structure Draft where
  st : DftSt := .idle
  /-- The descriptor's sixteen words, first word lowest; none while no descriptor is held. -/
  desc : List Word := []
  descOff : Nat := 0
  first : Nat := 0
  errs : Nat := 0
  cause : Nat := 0
  rwd : Nat := 0
  /-- Slots or chunks signalled on FSK since DSTART. -/
  signalled : Nat := 0
  /-- RSK and FSK values at DSTART. -/
  rsk0 : Nat := 0
  fsk0 : Nat := 0
  /-- FEED slots consumed or discarded since DSTART; a shadow's ring monitor of RSK. -/
  consumed : Nat := 0
  /-- Slot number less the slot's place in the stream: grows at each rewind. -/
  sofs : Nat := 0
  /-- The stream of runs, as byte positions: the next to be read, and the first not received. -/
  pos : Nat := 0
  done : Nat := 0
  /-- Pieces received beyond `done`, or of a transpose group not yet whole, by position; bytes only where they are transposed. -/
  got : SMap Got := []
  /-- Output of transpose groups that its chunks' ring has no room for yet: position in the output stream, and bytes. -/
  obuf : List (Nat × Got) := []
  /-- Index-list entries read: four bytes, positions all listed when the read failed. -/
  idx : SMap Got := []
  /-- Pre-scan: the next position to be read, and the lane maxima formed for the pass. -/
  scan : Nat := 0
  maxes : List Int := []
  marks : List Mark := []
  /-- CSK has received its ADD since DSTART (R107). -/
  cskDone : Bool := false
  /-- Step number of the step in which DSTART issued (R117, R121). -/
  step : Nat := 0
  /-- DSTOP waits for outstanding reads; a rewind waits for outstanding reads. -/
  stopping : Bool := false
  rewinding : Bool := false
  /-- The state left at suspension. -/
  resume : DftSt := .run
  deriving DecidableEq, Repr

/-- An accepted power notice (R382, R383): the four record words. -/
structure Notice where
  ws : List Word
  deriving DecidableEq, Repr

/-- A ply record at its primary (R286 to R293). -/
structure PlyRec where
  id : Nat
  step : Nat
  tile : Nat
  w : Cmd
  shift : Nat
  rlim : Nat
  l : Int
  k : Nat
  m : Nat
  n : Nat
  /-- The operands of the pass: the held slots' contents. -/
  a : Oper
  b : Oper
  d1 : BitVec 128
  d2 : Option (BitVec 128)
  partner : Nat
  referee : Option Nat
  /-- Dies excluded so far, reissues made, deadline of the ticket sent last (GT), ticket to the referee. -/
  xd : List Nat
  reissues : Nat
  due : Nat
  toRef : Bool
  /-- The residue checker flagged the pass (R295). -/
  flagged : Bool
  /-- The flagged pass of an earlier attempt that this replayed pass attributes: its digest and physical cluster (R295). -/
  attrib : Option (BitVec 128 × Nat)
  /-- The ticket is on its way to the partner or referee. -/
  sent : Bool
  /-- The held slots have been released: the referee has read them (R286). -/
  freed : Bool := false
  deriving DecidableEq, Repr

/-- A ply ticket queued at the cluster that is to run it (R286, R287). -/
structure Ticket where
  pri : Nat
  id : Nat
  /-- The ply pass has begun; the accumulator set it uses; what the reads of its operands' slots have brought, A and B. -/
  ran : Bool := false
  set : Nat := 0
  got : List (Nat × List Byte) := []
  deriving DecidableEq, Repr

/-- A physical cluster. Registers of its page are in `Dev.regs`; stores are in `Dev.mem`. -/
structure Clu where
  seq : Seq := {}
  nextId : Nat := 0
  units : List UCmd := []
  pass : Option Pass := none
  acc0 : AccSet := {}
  acc1 : AccSet := {}
  /-- Vector registers: lane j of register v at 512·v + j. -/
  vregs : SMap (BitVec 32) := []
  dft : SMap Draft := []
  notices : List Notice := []
  /-- Running step digest (R332). -/
  sdig : BitVec 128 := 0
  /-- Header switches closed and clocked: usable (R370). -/
  on : Bool := false
  /-- Ingress fenced by a cluster reset (R419). -/
  fenced : Bool := false
  /-- PSTATE held before the hank went off (Table 1.6). -/
  keptState : Nat := 4
  /-- A cluster reset waits for its transfers; a deferred self-test is requested; a self-test runs. -/
  resetting : Bool := false
  stDefer : Bool := false
  stRun : Bool := false
  /-- Images (kind numbers) this cluster has confirmed; failed confirmations of the load in progress. -/
  fwGot : List Nat := []
  fwTries : Nat := 0
  /-- Hot-spot and ramp limits (R384, R385). -/
  nhot : Nat := 16
  nramp : Nat := 16
  /-- GT of the end of the last tensor pass, and of the last step of nramp (R384). -/
  tensAt : Nat := 0
  rampAt : Nat := 0
  /-- Park start in GT, gated (R268). -/
  park : Option Nat := none
  gatedAt : Option Nat := none
  plys : List PlyRec := []
  nextPly : Nat := 0
  tickets : List Ticket := []
  /-- Result log a shadow replays: command number, status and value (R335). -/
  rlog : List (Nat × Nat × Nat) := []
  /-- Received its logical cluster or lost its store since the last commit (R318). -/
  needSeed : Bool := false
  /-- Staggered PUTs held for their slot: command number and GT at which the slot begins (R278). -/
  stag : List (Nat × Nat) := []
  deriving DecidableEq, Repr

/-! ### Network (chapter 05) -/

/-- Where a packet is. -/
inductive Loc where
  /-- In router c of compute die d, entered by the port (Table 5.1; 0 is injection). -/
  | router (d c inp : Nat)
  /-- At the transmit side of an optical endpoint, from the EP port of router c. -/
  | ep (e c : Nat)
  /-- Sent on an optical pair and not yet received (R167): source, destination, link sequence. -/
  | opt (a b lseq : Nat)
  /-- Accepted by a Dabin or IOD link, in its replay buffer (R174); forward is east, north, or from the IOD toward the compute die. -/
  | link (n : Nat) (fwd : Bool)
  /-- Received on the optical pair from a to b, in the pair's receive buffer (R138). -/
  | rx (a b : Nat)
  /-- At an IOD, entered by an input: 0 injection, 5 the optical endpoint, 6 and 7 its links (R160), 8 the fabric. -/
  | iod (k inp : Nat)
  /-- Ejected at its destination, awaiting service. -/
  | dst (e c : Nat)
  /-- On a fabric port, toward another panel (R221). -/
  | fab (q : Nat)
  deriving DecidableEq, Repr

/-- A packet (Table 5.2). FLOW is unbounded (log entry 7). `pois`: payload byte positions marked poisoned. -/
structure Pkt where
  loc : Loc
  vc : Nat := 0
  typ : Nat := 1
  epoch : Nat := 0
  opt : Bool := false
  late : Bool := false
  mc : Bool := false
  status : Nat := 0
  part : Nat := 15
  dpanel : Nat := 0
  dep : Nat := 0
  dcl : Nat := 0
  spanel : Nat := 0
  sep : Nat := 0
  scl : Nat := 0
  sq : Nat := 0
  flow : Nat := 0
  csk : Nat := 0
  len : Nat := 0
  mcg : Nat := 0
  tag : Nat := 0
  sub : Nat := 0
  addr : Nat := 0
  data : List Byte := []
  pois : List Nat := []
  /-- Wait timeout in µs that a WAIT_GE or ACQUIRE carries (R258). -/
  tmo : Nat := 0
  /-- Fabric: hops left, direction taken, reversed once (R224, R225). -/
  ttl : Nat := 0
  dir : Nat := 0
  fepoch : Nat := 0
  reversed : Bool := false
  /-- Fabric: final endpoint and cluster on the destination panel, and the dateline class (R222, R224). -/
  fdep : Nat := 0
  fdcl : Nat := 0
  dcls : Nat := 0
  /-- Fabric: the prefix is on: the packet has been injected into the fabric (R222, R228). -/
  inFab : Bool := false
  /-- The IOD link, or the compute die of the MESH_VIA path, the packet is bound for (R141). -/
  via : Option (Nat × Nat) := none
  /-- Of a multicast copy at a router: the output ports that have sent theirs (R155). -/
  mdone : List Nat := []
  /-- Fabric: the dimension the packet travels in (R222, R223). -/
  dim : Nat := 0
  deriving DecidableEq, Repr

/-- Who requested a transfer, and what its completion does. -/
inductive Own where
  /-- Unit command `id` of cluster `p`. -/
  | unit (p id : Nat)
  /-- Source read of draft engine `n` of cluster `p`: piece; pre-scan piece; index-list entry. -/
  | dftRead (p n key : Nat)
  | dftScan (p n key : Nat)
  | dftIdx (p n key : Nat)
  /-- Write of chunk `c` of draft engine `n`. -/
  | dftWrite (p n c : Nat)
  /-- ADD that hardware performs on behalf of cluster `p` (R260); engine `n`, if any, whose FSK or RSK it is. -/
  | hwAdd (p : Nat) (eng : Option Nat)
  /-- Ticket of ply record `id` of cluster `p` to cluster `q`; the digest that cluster `p` returns; its reads of the slots of an
  operand (R286). -/
  | ticket (p id q : Nat)
  | digest (p : Nat)
  | plyRead (p pri id side : Nat)
  /-- Mirror copy of a partition (R322). -/
  | mirror (j : Nat)
  /-- Output of a winder area, by the area's store key. -/
  | area (key : Nat)
  /-- Completion skein of a winder area. -/
  | areaCsk
  /-- Host data-window access of a port, with its length. -/
  | host (port len : Nat)
  /-- Ticket of the manager's report ring for a record of partition `j`; the record's write into a slot (R243). -/
  | ringTicket (j : Nat) (data : List Byte)
  /-- The step energy record written to partition j's ring (R390); a shadow panel's record of step k (R338). -/
  | energy (j : Nat)
  | splrec (j k : Nat)
  | ringWrite (j slot : Nat)
  /-- The part beyond a 4 KiB boundary that a memory endpoint forwarded (R197): the request, and what its own part gave. -/
  | cross (q : Pkt) (status : Nat) (data : List Byte) (px : List Nat)
  deriving DecidableEq, Repr

/-- An outstanding transfer (R135): its packets by SEQ, status of each completed one that was not OK, data received. -/
structure Xfer where
  flow : Nat
  /-- The requester's endpoint. -/
  ep : Nat := 0
  owner : Own
  /-- Packet type of the requests, and SUB of the first. -/
  typ : Nat
  sub : Nat := 0
  part : Nat
  /-- SEQs not completed, with their destination endpoints. -/
  left : List (Nat × Nat)
  /-- Lowest SEQ that completed other than OK, with its status. -/
  bad : Option (Nat × Nat) := none
  /-- Where received bytes go: store key, or none. -/
  land : Option Nat := none
  got : SMap Got := []
  /-- GT of injection of the last packet; none for a skein wait (R136). -/
  since : Nat := 0
  timed : Bool := true
  /-- Transfer over the fabric (R234), and the port that carried its last packet. -/
  fabric : Bool := false
  fport : Option Nat := none
  /-- MWR: WRACKs expected (R156). -/
  acks : Nat := 0
  /-- The owner was withdrawn by a reset: responses are absorbed. -/
  absorbed : Bool := false
  deriving DecidableEq, Repr

/-- An open combining slot (R158): router, key, INMASK, inputs joined, long words, GT of opening. -/
structure Comb where
  d : Nat
  c : Nat
  epoch : Nat
  grp : Nat
  addr : Nat
  /-- The packet that opened the slot: what goes on carries its header. -/
  hdr : Pkt
  inmask : Nat
  joined : List Nat
  words : List LWord
  opened : Nat
  deriving DecidableEq, Repr

/-- Telemetry of one router port and VC (R160). -/
structure Tel where
  pkts : Nat := 0
  bytes : Nat := 0
  hwm : Nat := 0
  stall : Nat := 0
  /-- One more than the GT at which the stall that runs began. -/
  since : Nat := 0
  deriving DecidableEq, Repr

/-- Network state besides registers. -/
structure Net where
  pkts : List Pkt := []
  xfers : List Xfer := []
  nextFlow : Nat := 0
  /-- Route-table words, by ((bank·256 + endpoint)·8 + table)·65536 + router·8192 + word. -/
  tbl : SMap Word := []
  /-- TOUCH flags, by 2·endpoint + epoch. -/
  touch : List Nat := []
  /-- Endpoints present now (R22, R401). -/
  present : List Nat := []
  comb : List Comb := []
  /-- Telemetry by page·128 + router·16… (telKey), its snapshot, and the pages that read it. -/
  tel : SMap Tel := []
  telSnap : SMap (Nat × Nat × Nat × Nat × Nat) := []
  /-- Buffers that hold their sender off, by bufKey (R137). -/
  xoff : List Nat := []
  /-- What each output sent last (R128): the VC's turn, by output; the input, by output and VC. -/
  turnVc : SMap Nat := []
  turnIn : SMap Nat := []
  /-- Injection points that have not yet acknowledged the flip in progress (R151). -/
  flipLeft : List Nat := []
  deriving DecidableEq, Repr

/-! ### Skeins (chapter 09) -/

/-- Skein states (R252), in code order. -/
inductive SkSt where
  | live | barrier | broken
  deriving DecidableEq, Repr

/-- A hardware or detached waiter (R256, R264, R267). kind: 0 WAIT_GE, 1 ACQUIRE, 2 notifier. -/
structure Waiter where
  kind : Nat
  n : Nat
  part : Nat
  ep : Nat
  c : Nat
  /-- Flow and SEQ of the waiting request; for a notifier, page·64 + number. -/
  flow : Nat
  sq : Nat
  /-- Deadline in GT counts; none: no limit. For a detached waiter, counts left. -/
  due : Option Nat
  det : Bool
  deriving DecidableEq, Repr

/-- The record a commit makes of a skein (R317): state, value, PM1. -/
structure SkRec where
  st : SkSt
  value : Nat
  pm1 : Nat
  deriving DecidableEq, Repr

/-- A skein (R252, R254, R266). -/
structure Skein where
  st : SkSt := .live
  value : Nat := 0
  pm1 : Nat := 0
  mask : BitVec 64 := 0
  early : BitVec 64 := 0
  sat : Bool := false
  lastSrc : Word := 0
  lastGt : Nat := 0
  waiters : List Waiter := []
  /-- GT of the polled repeats received in the last 1 ms, newest first. -/
  polls : List Nat := []
  record : Option SkRec := none
  deriving DecidableEq, Repr

/-- A polled waiter at its requester (R257): the unit command, next interval and the deadline. -/
structure Polled where
  p : Nat
  id : Nat
  interval : Nat
  nextAt : Nat
  due : Option Nat
  frozen : Bool
  deriving DecidableEq, Repr

/-- Skeins by ID, polled waiters, the current owner map and its staged copy (by endpoint·32 + block; default 16). -/
structure Skeins where
  sk : SMap Skein := []
  /-- What the unlisted skeins of a block of 256 are, by endpoint·32 + block: blocks made BROKEN whole (R263, R265). -/
  base : SMap Skein := []
  polled : List Polled := []
  own : SMap Nat := []
  ownStaged : SMap Nat := []
  /-- Latched copies of SKN_INFO, MASK, EARLY, LASTSRC, LASTGT of each SKN page (R280). -/
  latch : SMap Word := []
  /-- Endpoints lost since panel reset and not returned: their skeins return BROKEN (R265). -/
  gone : List Nat := []
  deriving DecidableEq, Repr

/-- A winder area that is not IDLE (R270 to R276), by the store key of its header. -/
structure Area where
  key : Nat
  /-- Home endpoint and cluster of the winder, and the offset of the area in its store. -/
  e : Nat
  c : Nat
  off : Nat
  armedAt : Nat
  zeroing : Bool
  /-- Long words held while zeroing (packet header and words). -/
  heldPkts : List Pkt
  /-- Elements that have been counted complete, the status of the output so far, and whether the MODE has been performed. -/
  complete : List Nat
  outStatus : Nat
  sent : Bool
  deriving DecidableEq, Repr

/-! ### Optical layer and Dabin links (chapter 06) -/

/-- A channel of an optical pair on one plane (R168). Class: 0 GOOD, 1 THIN, 2 POOR, 3 DOWN. -/
structure Chan where
  cls : Nat := 3
  inSvc : Bool := false
  fails : Nat := 0
  /-- Classes of the last windows of its two directions: from the lower endpoint, and from the higher (R168). -/
  up : Nat := 0
  dn : Nat := 0
  /-- Its rings have been retuned since it became POOR. -/
  tuned : Bool := true
  /-- One more than the last second in which a THIN event was sent. -/
  thinAt : Nat := 0
  deriving DecidableEq, Repr

/-- Receive-side counts of one direction of a channel (R168, R187), and successive resends. -/
structure ChanCnt where
  corr : Nat := 0
  uncorr : Nat := 0
  resend : Nat := 0
  succ : Nat := 0
  deriving DecidableEq, Repr

/-- A packet in a pair's replay buffer (R167): sequence, plane last used, time sent, packet as it left the die. -/
structure Sent where
  a : Nat
  b : Nat
  lseq : Nat
  plane : Nat
  at_ : Nat
  pkt : Pkt
  deriving DecidableEq, Repr

/-- The optical layer. Pairs are keyed a·256 + b; channels (pair)·16 + plane, unordered pairs with a < b. A channel that is
not listed is GOOD and in service between two calibrated endpoints, DOWN else; the latency of a pair that is not listed is
a free value, numbered from the `latBase` of the endpoint that was calibrated later (R172, R173). -/
structure Opt where
  cal : List Nat := []
  latBase : SMap Nat := []
  chan : SMap Chan := []
  cnt : SMap ChanCnt := []
  lat : SMap Nat := []
  retired : List Nat := []
  queue : List Nat := []
  relock : Option Nat := none
  /-- Planes out of service by a laser or a re-lock. -/
  outPlanes : List Nat := []
  /-- Laser dies whose comb restart runs. -/
  restart : List Nat := []
  next : SMap Nat := []
  rot : SMap Nat := []
  rx : SMap (List Nat) := []
  replay : List Sent := []
  deriving DecidableEq, Repr

/-- A Dabin or IOD link besides its registers (R174 to R178). -/
structure Link where
  /-- Lanes marked bad, and active lanes, per direction; spares are the good lanes not active. -/
  badF : List Nat := []
  badR : List Nat := []
  actF : List Nat := []
  actR : List Nat := []
  deskewed : Bool := false
  /-- The width at which the link was last ACTIVE. -/
  lastW : Nat := 0
  retired : Bool := false
  discBad : Bool := false
  /-- Replays in the present window of 10 ms. -/
  replays : Nat := 0
  deriving DecidableEq, Repr

/-! ### Memory endpoints (chapter 07) -/

/-- A memory endpoint: a base die (by m) or an IOD's packages (64 + k). -/
structure Mbd where
  /-- Retired channels that are holes (base die). -/
  holes : List Nat := []
  /-- Retirements waiting for the running migration; the channel being migrated. -/
  wait : List Nat := []
  migrating : Option Nat := none
  /-- GT of the corrected errors of each row, newest first; rows soft-repaired (R205). -/
  rowCe : SMap (List Nat) := []
  rows : List Nat := []
  /-- One more than the GT of the last CE event, by channel or package. -/
  ceAt : SMap Nat := []
  /-- SPARE bands that hold remapped data, or to which the running migration copies it (R195). -/
  bands : List Nat := []
  /-- The memory has been trained since panel reset; a commit of band modes has been made since (R499). -/
  trained : Bool := false
  firstDone : Bool := false
  deriving DecidableEq, Repr
/-! ### Fabric and managers (chapter 08) -/

/-- A manager message that awaits its OK reply (R239): the FLOW of its MGWR, target physical panel, message word, times
resent, GT of the last sending, and whether a reply that is not OK has come. -/
structure Msg where
  id : Nat
  panel : Nat
  w0 : Word
  tries : Nat := 0
  sentAt : Nat := 0
  bad : Bool := false
  deriving DecidableEq, Repr

/-- A remap the lead has been asked for (R230, R241): requesting panel, manager slot, logical and physical panel. -/
structure Remap where
  src : Nat
  job : Nat
  l : Nat
  q : Nat
  deriving DecidableEq, Repr

/-- The fabric (chapter 08). Tables by (bank·2 + table)·65536 + word; bundles by direction code. -/
structure Fab where
  tbl : SMap Word := []
  /-- TOUCH by fabric epoch (R228). -/
  touch : List Nat := []
  /-- Bundles with an ACTIVE port, as last reported (R221). -/
  up : List Nat := []
  /-- Lanes marked bad by port: 0..15 receive, 16..31 transmit (R218). -/
  bad : SMap (List Nat) := []
  retired : List Nat := []
  /-- One more than the last second in which a port's THIN lane was scored. -/
  thinAt : SMap Nat := []
  /-- The panel dropped out of a flip: its ports are held with cause CONFIG (R229). -/
  config : Bool := false
  /-- Lead: panels that have not acknowledged FFLIP; the sweep running (0: none), panels that have not answered it, and
  whether a count or a touch was seen. -/
  flipLeft : List Nat := []
  sweep : Nat := 0
  sweepLeft : List Nat := []
  dirty : Bool := false
  /-- Lead: GT at which the FFLIP or FSWEEP messages were sent; panels dropped from the flip. -/
  askedAt : Nat := 0
  dropped : List Nat := []
  /-- Lead: a flip is to start when every FTBL message is acknowledged; another recomputation is due; remaps asked for, and
  those the flip under way carries. -/
  prepared : Bool := false
  again : Bool := false
  remaps : List Remap := []
  serving : List Remap := []
  /-- Lost bundles reported to the lead, by panel·8 + direction (R226). -/
  lost : List Nat := []
  /-- Lead: bundles of BUNDLE messages whose rings the next flip is to carry; panels whose inactive bank lacks the RING words
  that the last flip brought (log entry 38). -/
  affected : List Nat := []
  stale : List Nat := []
  /-- COUNT that this panel answered to sweep 1 (R229). -/
  count1 : Nat := 0
  /-- Messages applied within their resends: source, FLOW, word, GT (R239). -/
  seen : List (Nat × Nat × Nat × Nat) := []
  /-- Messages that await their OK reply. -/
  out : List Msg := []
  /-- GT of the last EV_TUB_REJECT. -/
  lastRej : Option Nat := none
  /-- Header and prefix of the packet that each port's peer accepted last (R222). -/
  sent : SMap (BitVec 256 × Word) := []
  /-- GT that each port's last time beacon carried (R237). -/
  beaconOut : SMap Nat := []
  deriving DecidableEq, Repr

/-- What a manager slot waits for (R244, R245, R330). -/
inductive MgrPh where
  /-- Between steps; START sent; COMMIT sent; ABORT sent; FENCE, SWAP and REMAP sent. -/
  | rest | start | commit | abort | repair
  /-- A standby that has declared the manager lost: waiting for the boundary; TAKEOVER sent; COMMIT c′ sent. -/
  | wait | take | catchup
  deriving DecidableEq, Repr

/-- A manager or standby slot (R244, R245). Workers are named by roster entry. -/
structure Mgr where
  phase : MgrPh := .rest
  /-- Entries whose ACK is awaited; whose DONE, or FAULT, for the step in progress has come. -/
  left : List Nat := []
  done : List Nat := []
  fault : List Nat := []
  /-- Units to be fenced and logical clusters to be swapped: entry, UNIT word, LC (log entry 35). -/
  repl : List (Nat × Nat × Nat) := []
  /-- Remaps to be made, logical and physical; logical panels whose REMAPDONE is awaited. -/
  moves : List (Nat × Nat) := []
  awaited : List Nat := []
  /-- FENCE and SWAP acknowledgements awaited. -/
  acks : Nat := 0
  /-- Spare entries used; entries lost that no spare replaces. -/
  used : List Nat := []
  gone : List Nat := []
  /-- Restarts of the step in progress; GT of the last BEAT sent or received; stop after the step. -/
  replays : Nat := 0
  beatAt : Nat := 0
  stop : Bool := false
  /-- Standby: the manager panel lost; last committed step of each entry, as its TAKEOVER ACK told. -/
  old : Nat := 0
  last : SMap Nat := []
  deriving DecidableEq, Repr

/-! ### Scores (chapter 10) -/

/-- The score of a unit (R298): 16.16 points, probation, retired. -/
structure Score where
  s : Nat := 0
  prob : Bool := false
  ret : Bool := false
  deriving DecidableEq, Repr

/-- Scores by unit key (kind·2^40 + index), weights by event code, and the GT of retirements in the last hour. -/
structure Slub where
  sc : SMap Score := []
  weights : SMap Nat := []
  rets : List Nat := []
  /-- Panel retirements by a manager slot of this panel in the last hour: slot and GT (R306). -/
  panelRets : List (Nat × Nat) := []
  /-- Units a manager put on probation by message (R306). -/
  msgProb : List Nat := []
  deriving DecidableEq, Repr


/-! ### Clocks (chapter 12) -/

/-- Clock state besides registers. Dies are named by endpoint. -/
structure Clk where
  started : Bool := false
  /-- Dies that see no reference, with the GT at which it was lost; dies that have stopped (R344). -/
  lost : SMap Nat := []
  dead : List Nat := []
  /-- GSTATE of dies without a DIE page; GT of each die's last beacon; its successive beacons with |e| ≤ 4 (R353). -/
  gst : SMap Nat := []
  last : SMap Nat := []
  good : SMap Nat := []
  /-- The GT a die that was ahead holds until its count passes it (R353). -/
  hold : SMap Nat := []
  /-- GT that the last beacon down the clock tree carried. -/
  beacon : Option Nat := none
  /-- GT at which a cluster's monitor step last rose or saw a low window (R349). -/
  rmonAt : SMap Nat := []
  /-- The point of the change asked for; present dies that have not switched to it; hanks whose rails stand ramped for the
  change (R359, R369). -/
  tgt : Nat := 0
  switchLeft : List Nat := []
  ramped : List Nat := []
  /-- Domain time (R355): offset samples, newest first; successive ones within 8 counts; GT of the last beacon; rate
  correction now, in counts per 40,000. -/
  samples : List Int := []
  domGood : Nat := 0
  domLast : Nat := 0
  adj : Int := 0
  deriving DecidableEq, Repr

/-! ### Power (chapter 13) -/

/-- Hank power besides registers. -/
structure HankP where
  /-- GT of the OFFREQ being drained; GT of the last CLRFLT (R373, R374). -/
  offAt : Option Nat := none
  clrAt : Option Nat := none
  /-- Turning points of the temperature signal, newest first, in units of 1/16 K (R394). -/
  turns : List Int := []
  /-- The last 16 evaluations of the bump field, newest first (R391). -/
  susp : List Bool := []
  deriving DecidableEq, Repr

/-- Panel power besides registers. -/
structure Power where
  /-- The input stands below 11.4 V (R366); coolant is critical (R396). -/
  underV : Bool := false
  coolCrit : Bool := false
  /-- Successive 1 ms averages above Peff with every hank at ncap 1 (R381). -/
  overMs : Nat := 0
  hank : SMap HankP := []
  /-- Peff in mW and the host cap in W, as last evaluated; readings have been published (R365, R377, R388). -/
  peff : Nat := 0
  host : Nat := 0
  measured : Bool := false
  /-- Budget of each hank in mW, as last divided (R377). -/
  budget : SMap Nat := []
  /-- Edge groups on, by IOD. -/
  edge : List Nat := []
  /-- Posts: last 16 evaluations, newest first; persistent ones; ratio and current of the last evaluation (R391). -/
  susp : SMap (List Bool) := []
  pers : List Nat := []
  ratio : SMap Nat := []
  amps : SMap Nat := []
  /-- Energy not yet counted in mJ, in µJ, by place (R388). -/
  frac : SMap Nat := []
  deriving DecidableEq, Repr

/-! ### Bring-up and firmware (chapter 14) -/

/-- A firmware image the whorl die has measured (R410, R440). KEYSEL 0 is the release key. -/
structure Image where
  typ : Nat
  svn : Nat
  keysel : Nat
  digest : BitVec 512
  deriving DecidableEq, Repr

/-- Bring-up state besides registers. The staging buffer is memory. -/
structure Boot where
  /-- The step that runs, started by GO. -/
  step : Option Nat := none
  /-- Units bad by test, overrides, discrepancies, by kind·2^32 + index (R406, R407). -/
  tbad : List Nat := []
  ovr : List Nat := []
  disc : List Nat := []
  /-- The fuse map as step 1 read it into the WHL_FUSE registers: bad units; additions apply from the next bring-up (R408). -/
  fmap : List Nat := []
  /-- The image measured last and what its checks come to: 0 VERIFIED, or the cause (R441); images loaded, by type (R411, R412). -/
  staged : Option Image := none
  outcome : Nat := 0
  loaded : SMap Image := []
  /-- Clusters still to confirm the image being loaded. -/
  confirm : List Nat := []
  deriving DecidableEq, Repr

/-! ### Security (chapter 15) -/

/-- Security state besides registers. -/
structure Sec where
  /-- The latest 1,024 log entries, newest first; entries appended; chain value (R444). -/
  log : List (List Word) := []
  count : Nat := 0
  chain : BitVec 512 := 0
  presence : Bool := false
  /-- GT at which the lease of WHL_OWN ends (R432). -/
  leaseEnd : Nat := 0
  /-- A fuse command that runs: enrol or revoke, slot, hash (R442). -/
  keyCmd : Option (Bool × Nat × BitVec 512) := none
  /-- The report being built, unsigned, and the last one built (R446). -/
  draft : List Byte := []
  report : List Byte := []
  /-- The public identity key (R438). -/
  idKey : List Byte := []
  deriving DecidableEq, Repr

/-! ### Host ports (chapters 16, 17) -/

/-- A host port: link, vector map, MSI-X table and messages, data window, and the result of the last read. -/
structure HostPort where
  /-- The link stands in L0, with the speed and width trained (HP_STAT). -/
  up : Bool := false
  speed : Nat := 0
  width : Nat := 0
  /-- Configuration space: DWBASE.BASE, MSI-X enabled, BARs assigned (log entry 9). -/
  dwBase : Nat := 0
  msixOn : Bool := false
  memOn : Bool := false
  /-- MSI-X vectors the host has unmasked, and the pending-bit array. -/
  unmasked : List Nat := []
  pba : List Nat := []
  /-- MSI-X messages sent, newest first. -/
  sent : List Nat := []
  /-- Vector map by endpoint: V·256 + VEC; default V = 1, VEC = 0. -/
  vmap : SMap Nat := []
  /-- Bytes and outcome of the last host read: 0 success, a status of Table 5.4 from the data window, 16 Unsupported Request. -/
  rdata : List Byte := []
  rstat : Nat := 0
  /-- GT of the last EV_HP_DERR (R495). -/
  derrAt : Option Nat := none
  /-- The log entry latched by the last read of WHL_LOGDATA0 (R451). -/
  logLatch : List Word := []
  deriving DecidableEq, Repr
/-! ### The whole panel -/

/-- What a partition waits for (R314 to R318, R326, R419). -/
inductive Phase where
  | none
  /-- Abort: transfers to end; the drain flip. -/
  | abort | abortFlip
  /-- Replay start: the drain flip (a manager's worker); the restore; the seed copy. -/
  | startFlip | restore | seed
  /-- A restore the host asked for in ABORTED. -/
  | hostRestore
  /-- Partition reset: transfers to end; the drain flip. -/
  | reset | resetFlip
  deriving DecidableEq, Repr

/-- A partition's state besides its registers: what a step start latches (R416) and what runs. -/
structure Part where
  /-- Latched step-parity entries: BASE and HLOG2, by entry (R119). -/
  spr : SMap (Nat × Nat) := []
  /-- Latched mirror entries: LPANEL and DBASE (R321); latched BUDDY. -/
  mir : SMap (Nat × Nat) := []
  buddy : Bool := false
  /-- Latched PART_ROT (R400). -/
  rot : Word := 0
  k0 : Word := 0
  k1 : Word := 0
  /-- Latched ply fraction code. -/
  plyF : Nat := 0
  phase : Phase := .none
  /-- The attempt being started is a replay. -/
  replay : Bool := false
  /-- Residue flags of passes not chosen, to be attributed at the replay (R295): logical cluster, TILE, digest, physical cluster. -/
  flags : List (Nat × Nat × BitVec 128 × Nat) := []
  /-- Digest of winder output (R332). -/
  areaDig : BitVec 128 := 0
  /-- A cluster of the partition had nhot < 16 in the attempt; in the last committed step (R386). -/
  hot : Bool := false
  hotLast : Bool := false
  /-- Energy since the last commit and of the last attempt, µJ; its start and completion; attempts of the step (R390). -/
  et : Nat := 0
  ec : Nat := 0
  startGt : Nat := 0
  endGt : Nat := 0
  attempts : Nat := 0
  /-- PART_RST.SCRUB of the reset that runs. -/
  scrub : Nat := 0
  /-- Source of a panel splice: own digests not yet compared, by step; steps forwarded for which the shadow has not sent DONE
  (R338, R339). -/
  digs : List (Nat × BitVec 128) := []
  fwd : List Nat := []
  deriving DecidableEq, Repr

/-- The content of a configuration generation (Table 14.6): route tables, staged registers, owner map, hash. -/
structure Gen where
  num : Nat := 0
  tbl : SMap Word := []
  regs : SMap Word := []
  own : SMap Nat := []
  hash : BitVec 512 := 0
  deriving DecidableEq, Repr

/-- What the route flip in progress is for (R151, R428, R430, R431, R315). -/
inductive Job where
  /-- A commit: the generation it replaces; the log's SUB of it: 0 host, 1 panel, 2 revert; the partition whose SWAP it
  carries out, and the logical cluster. -/
  | commit (old : Gen) (kind : Nat) (swap : Option (Nat × Nat))
  /-- A drain flip for a partition. -/
  | drain (j : Nat)
  deriving DecidableEq, Repr

/-- Generations and flips. -/
structure Gens where
  cur : Gen := {}
  prev : Option Gen := none
  /-- The flip running, if any, and what it is for. -/
  job : Option Job := none
  /-- Drain flips waiting (R315). -/
  waiting : List Nat := []
  /-- An accepted generation whose clusters are not all powered with firmware: with the commit's kind and swap; those clusters
  (R370, R412, R428). -/
  next : Option (Gen × Nat × Option (Nat × Nat)) := none
  needOn : List Nat := []
  /-- A host has written an inactive-bank word that differs from the current generation's (R430). -/
  staged : Bool := false
  deriving DecidableEq, Repr

/-- Everything of the panel that is not fused. -/
structure Dev where
  /-- Registers that hold their own value, by BAR0 offset; a port-B copy lies 2^32 above (R461). -/
  regs : SMap Word := []
  /-- GT of the active whorl die in counts of 0.25 ns, and its 32 fraction bits (R352). -/
  gt : Nat := 0
  gtFrac : Nat := 0
  /-- GT of other dies less that of the whorl die, by endpoint. -/
  gtOfs : SMap Int := []
  /-- Every converter opened: only a new hardware stage leaves this state (R366). -/
  stopped : Bool := false
  mem : List Host.Cell := []
  /-- Bases of poisoned granules, rising; in a tier-1 channel listed in `sour` (m·32 + channel: every line stored poisoned at a
  commit, R499) the list names the clean ones instead. -/
  pois : List Nat := []
  sour : List Nat := []
  /-- Upsets not yet found, by granule: 1 correctable, 2 not (R46, R202). -/
  upsets : SMap Nat := []
  clu : SMap Clu := []
  net : Net := {}
  skn : Skeins := {}
  areas : List Area := []
  /-- Headers of areas that have been armed, or refused, and are IDLE again: their words are discarded and counted (R272). -/
  idleAreas : List Nat := []
  parts : SMap Part := []
  gens : Gens := {}
  opt : Opt := {}
  lnk : SMap Link := []
  mbd : SMap Mbd := []
  fab : Fab := {}
  mgrs : SMap Mgr := []
  slub : Slub := {}
  clk : Clk := {}
  pwr : Power := {}
  boot : Boot := {}
  sec : Sec := {}
  ports : SMap HostPort := []
  /-- WHL_DSUM0 and 1 of each endpoint as last propagated (R465), by 2·endpoint + word; the bytes of the last read of the
  identity bus (R482). -/
  dsum : SMap Word := []
  idBus : List Byte := []
  /-- The model's counter of free values (log entry 4). -/
  free : Nat := 0
  deriving DecidableEq, Repr

/-- Fused content: no command but those that blow fuses changes it (R2, R408, R438, R442, R448). -/
structure Fuses where
  /-- Ordering code: 0 HKN-800T, 1 HKN-800E (Table 16.10). -/
  code : Nat := 0
  serial : BitVec 64 := 0
  seed : BitVec 256 := 0
  /-- Serials of the dies, by endpoint. -/
  dieSerial : SMap (BitVec 32) := []
  /-- Capability blocks of the IODs of another product revision, by IOD link (R182). -/
  iodBlock : SMap Word := []
  /-- Fused-bad units, by kind·2^32 + index, rising (R406, R408). -/
  bad : List Nat := []
  /-- Release public key hash, and owner slots: enrolled key hashes and revoked slots (R442). -/
  releaseKey : BitVec 512 := 0
  slots : SMap (BitVec 512) := []
  enrolled : List Nat := []
  revoked : List Nat := []
  sealBlown : Bool := false
  /-- Rows repaired in hard form, with their memory endpoint as in `Dev.mbd`; the stacks and packages hold these fuses (R205). -/
  hardRows : List (Nat × Nat) := []
  deriving DecidableEq, Repr

/-- The fused serial of a die: one that is not listed is the endpoint's number (log entry 2). -/
def Fuses.serialOf (f : Fuses) (e : Nat) : BitVec 32 := SMap.get (BitVec.ofNat 32 e) f.dieSerial e

/-- The state of the block: what is fused, the rest of the panel, and the commands waiting. -/
structure State where
  fuse : Fuses
  dev : Dev
  pending : List Instr
  deriving DecidableEq, Repr


/-- The panel as the hardware stage leaves it (R401, R402, R444), with whorl die 0 active: IOD 0, IOD 8 and the whorl die are
present; the log holds POWERUP; every register holds its reset value. The fuses are those of log entry 2. Host ports are down and
no command waits. -/
def State.reset : State where
  fuse := {}
  dev := {
    net := { present := [168, 176, 184] }
    pwr := { edge := [0, 8] }
    sec := { log := [List.replicate 16 0], count := 1, chain := Config.sha3 (List.replicate 192 0), idKey := Config.mldsaPublic 0 } }
  pending := []

end Sys2Proof.Machine
end

