-- ==== Sys2Proof/Machine/Ops.lean ====
section
/-!
DEFINITION. The named operations over registers, memories and units: reading and writing registers by field,
events and error logs, memory bytes and poison, free values, address resolution.
-/

namespace Sys2Proof.Machine

/-! Pages and registers (R452, R453, Table 16.1). -/

/-- Page classes (Table 16.1); fabric port and manager pages have layouts of their own. -/
inductive Cls where
  | whl | hnk | die | part | dist | rtr | dbl | opt | mbd | iod | clu | skn | tub | tubp | tubm | none
  deriving DecidableEq, Repr

/-- Class, page number and offset of a BAR0 address; `none` where no page is (R453). -/
def pageOf (a : Nat) : Cls × Nat × Nat :=
  let a := a % 2 ^ 32
  let pg (c : Cls) (base cnt : Nat) : Option (Cls × Nat × Nat) :=
    if base ≤ a ∧ a < base + cnt * 0x1000 then some (c, (a - base) / 0x1000, a % 0x1000) else none
  let t := pg .clu 0x1000000 896 <|> pg .whl 0 1 <|> pg .hnk 0x100000 28 <|> pg .die 0x200000 112 <|>
    pg .part 0x400000 16 <|> pg .dist 0x500000 187 <|> pg .rtr 0x600000 186 <|> pg .rtr 0x600000 512 <|>
    pg .dbl 0x800000 600 <|> pg .opt 0xC00000 186 <|> pg .mbd 0xE00000 56 <|> pg .iod 0xF00000 16 <|>
    pg .skn 0x2000000 2 <|> pg .tub 0x3000000 80
  match t with
  | some (.rtr, n, o) => if n < 186 ∨ n = 511 then (.rtr, n, o) else (.none, 0, o)
  | some (.tub, n, o) => if n = 0 then (.tub, 0, o) else if n ≤ 32 then (.tubp, n, o)
      else if 64 ≤ n then (.tubm, n, o) else (.none, 0, o)
  | some x => x
  | none => (.none, 0, a % 0x1000)

/-- Block registers of a class. -/
def regsOf : Cls → List RegDef
  | .whl => regsWHL
  | .hnk => regsHNK
  | .die => regsDIE
  | .part => regsPART
  | .dist => regsDIST
  | .rtr => regsRTR
  | .dbl => regsDBL
  | .opt => regsOPT
  | .mbd => regsMBD
  | .iod => regsIOD
  | .clu => regsCLU
  | .skn => regsSKN
  | .tub => regsTUB
  | .tubp => regsTUBP
  | .tubm => regsTUBM
  | .none => []

/-- Highest event bit used + 1 of a page (CAPS.NEVT, Table 16.4). -/
def nevt : Cls → Nat → Nat
  | .whl, _ => 24
  | .hnk, _ => 6
  | .die, _ => 2
  | .part, _ => 5
  | .dist, n => if n = 0 then 1 else 0
  | .rtr, _ => 6
  | .dbl, _ => 5
  | .opt, _ => 4
  | .mbd, _ => 5
  | .iod, _ => 29
  | .clu, _ => 15
  | .skn, _ => 2
  | .tub, _ => 8
  | .tubp, _ => 3
  | .tubm, _ => 3
  | .none, _ => 0

/-- The register of a class at an offset, and its place in its array; the links' registers of an IOD page
(R472) are the DBL registers at 0x800 and 0x880. -/
def regDef? (c : Cls) (n o : Nat) : Option (RegDef × Nat) :=
  let find (rs : List RegDef) (o : Nat) : Option (RegDef × Nat) :=
    rs.findSome? (fun r =>
      if r.off ≤ o ∧ (o - r.off) % r.stride = 0 ∧ (o - r.off) / r.stride < r.cnt then some (r, (o - r.off) / r.stride)
      else none)
  if c = .rtr ∧ n = 511 then none
  else if c = .dist ∧ n ≠ 0 then none
  else if c = .iod ∧ 0x800 ≤ o ∧ o ≤ 0x840 then find regsDBL (o - 0x780)
  else if c = .iod ∧ 0x880 ≤ o ∧ o ≤ 0x8C0 then find regsDBL (o - 0x800)
  else if c = .iod ∧ 0x200 ≤ o ∧ o < 0x210 ∧ n ≠ 0 ∧ n ≠ 8 then none
  else find (regsOf c) o

/-- The reset value of a register: the reset values of its fields. -/
def RegDef.reset (r : RegDef) : Word :=
  r.flds.foldl (fun w f => setFld w f.hi f.lo f.rst) 0

/-- The value a BAR0 address holds before any write: the reset value of its register, 0 where there is none. -/
def resetAt (a : Nat) : Word :=
  let (c, n, o) := pageOf a
  match regDef? c n o with
  | some (r, _) => r.reset
  | none => 0

/-- The word a register holds. -/
def Dev.reg (d : Dev) (a : Nat) : Word := SMap.get (resetAt a) d.regs a

/-- Write a whole register word. -/
def Dev.setReg (d : Dev) (a : Nat) (v : Word) : Dev := { d with regs := SMap.set (resetAt a) d.regs a v }

/-- The value of a field of a page's register (element `i` of an array). -/
def Dev.f (d : Dev) (page : Nat) (x : Fld) (i : Nat := 0) : Nat :=
  fld (d.reg (page + x.off + i * x.stride)) x.hi x.lo

/-- Write a field. -/
def Dev.setf (d : Dev) (page : Nat) (x : Fld) (v : Nat) (i : Nat := 0) : Dev :=
  let a := page + x.off + i * x.stride
  d.setReg a (setFld (d.reg a) x.hi x.lo v)

/-- A flag field is set. -/
def Dev.fb (d : Dev) (page : Nat) (x : Fld) (i : Nat := 0) : Bool := d.f page x i != 0

/-- Add to a count that saturates at its field's greatest value. -/
def Dev.addSat (d : Dev) (page : Nat) (x : Fld) (n : Nat := 1) (i : Nat := 0) : Dev :=
  d.setf page x (sat (x.hi + 1 - x.lo) (d.f page x i + n)) i

/-- Add to a count that wraps in its field. -/
def Dev.addWrap (d : Dev) (page : Nat) (x : Fld) (n : Nat := 1) (i : Nat := 0) : Dev :=
  d.setf page x ((d.f page x i + n) % 2 ^ (x.hi + 1 - x.lo)) i

/-! Header registers (Table 16.2). -/

/-- EVT_CAUSE, EVT_MASK and the error log, as fields of every page. -/
abbrev HDR_CTRL_LOGHOLD : Fld := ⟨0x10, 0, 0, 0⟩
abbrev HDR_STATUS_LOGV : Fld := ⟨0x18, 2, 2, 0⟩
abbrev HDR_CAUSE : Fld := ⟨0x20, 63, 0, 0⟩
abbrev HDR_MASK : Fld := ⟨0x28, 63, 0, 0⟩
abbrev HDR_LOG : Fld := ⟨0x38, 63, 0, 8⟩

/-- An event arises on a page: its CAUSE bit is set (R456). -/
def Dev.ev (d : Dev) (page b : Nat) : Dev :=
  d.setReg (page + 0x20) (d.reg (page + 0x20) ||| BitVec.ofNat 64 (2 ^ b))

/-- A record is written with an event unless LOGHOLD holds one (R458). -/
def Dev.logRec (d : Dev) (page b : Nat) (ws : List Word) : Dev :=
  if d.fb page HDR_CTRL_LOGHOLD && d.fb page HDR_STATUS_LOGV then d
  else
    let d := forN 4 (fun i d => d.setReg (page + 0x38 + 8 * i) (ws.getD i 0)) d
    let d := d.setReg (page + 0x58) (BitVec.ofNat 64 d.gt)
    let d := d.setReg (page + 0x60) (BitVec.ofNat 64 b)
    d.setf page HDR_STATUS_LOGV 1

/-! The distance table's updates (R34). -/

/-- Something the distance table shows has changed: an update runs until DIST_UPDATE ends it. -/
def Dev.distChange (d : Dev) : Dev := d.setf (pgDIST 0) DIST_STAT_BUSY 1

/-! The shape of every command. -/

/-- The panel is frozen (R423). -/
def Dev.frozen (d : Dev) : Bool := d.fb pgWHL WHL_PRST_FROZEN

/-- Every command's shape: it acts on the panel unless an operand names no unit; a stopped panel stays as it is (R366),
and so does a frozen one (R423). -/
def State.run (s : State) (ok : Bool) (f : Fuses → Dev → Dev) : Host.Outcome State Fault Refusal :=
  if ok then .next (if s.dev.stopped || s.dev.frozen then s else { s with dev := f s.fuse s.dev })
  else .refused .noSuchUnit

/-- The shape of the commands a frozen panel still obeys. -/
def State.runFrozen (s : State) (ok : Bool) (f : Fuses → Dev → Dev) : Host.Outcome State Fault Refusal :=
  if ok then .next (if s.dev.stopped then s else { s with dev := f s.fuse s.dev })
  else .refused .noSuchUnit

/-- The shape of the commands that may blow fuses. -/
def State.runAll (s : State) (ok : Bool) (f : Fuses → Dev → Fuses × Dev) : Host.Outcome State Fault Refusal :=
  if ok then .next (if s.dev.stopped || s.dev.frozen then s else
    { s with fuse := (f s.fuse s.dev).1, dev := (f s.fuse s.dev).2 })
  else .refused .noSuchUnit

/-- The same, of the commands a frozen panel still obeys. -/
def State.runAllFrozen (s : State) (ok : Bool) (f : Fuses → Dev → Fuses × Dev) : Host.Outcome State Fault Refusal :=
  if ok then .next (if s.dev.stopped then s else { s with fuse := (f s.fuse s.dev).1, dev := (f s.fuse s.dev).2 })
  else .refused .noSuchUnit

/-! Units. -/

/-- A physical cluster. -/
def Dev.cl (d : Dev) (p : Nat) : Clu := SMap.get {} d.clu p
/-- Change a cluster. -/
def Dev.updCl (d : Dev) (p : Nat) (f : Clu → Clu) : Dev := { d with clu := SMap.upd {} d.clu p f }
/-- Change a cluster's sequencer. -/
def Dev.updSeq (d : Dev) (p : Nat) (f : Seq → Seq) : Dev := d.updCl p (fun c => { c with seq := f c.seq })
/-- A partition. -/
def Dev.pt (d : Dev) (j : Nat) : Part := SMap.get {} d.parts j
/-- Change a partition. -/
def Dev.updPt (d : Dev) (j : Nat) (f : Part → Part) : Dev := { d with parts := SMap.upd {} d.parts j f }
/-- A draft engine. -/
def Clu.eng (c : Clu) (n : Nat) : Draft := SMap.get {} c.dft n
/-- Change a draft engine. -/
def Dev.updEng (d : Dev) (p n : Nat) (f : Draft → Draft) : Dev :=
  d.updCl p (fun c => { c with dft := SMap.upd {} c.dft n f })
/-- Change the network state. -/
def Dev.updNet (d : Dev) (f : Net → Net) : Dev := { d with net := f d.net }
/-- The block of 256 skeins that holds a skein (R255). -/
def skBlock (id : Nat) : Nat := id / 2 ^ 24 * 32 + id % 2 ^ 24 / 256
/-- What an unlisted skein is. -/
def Dev.skDef (d : Dev) (id : Nat) : Skein := SMap.get {} d.skn.base (skBlock id)
/-- A skein. -/
def Dev.skein (d : Dev) (id : Nat) : Skein := SMap.get (d.skDef id) d.skn.sk id
/-- Change a skein. -/
def Dev.updSk (d : Dev) (id : Nat) (f : Skein → Skein) : Dev :=
  { d with skn := { d.skn with sk := SMap.upd (d.skDef id) d.skn.sk id f } }
/-- A host port. -/
def Dev.hp (d : Dev) (port : Nat) : HostPort := SMap.get {} d.ports port
/-- Change a host port. -/
def Dev.updHp (d : Dev) (port : Nat) (f : HostPort → HostPort) : Dev :=
  { d with ports := SMap.upd {} d.ports port f }
/-- Whether an endpoint is present (R22, R401). -/
def Dev.present (d : Dev) (e : Nat) : Bool := d.net.present.contains e

/-- A fresh free value of `n` bits (log entry 4). -/
def Dev.freeVal (d : Dev) (n : Nat) : Nat × Dev :=
  ((Config.freeWord d.free).toNat % 2 ^ n, { d with free := d.free + 1 })

/-- The active whorl die's endpoint. -/
def Dev.wdEp (d : Dev) : Nat := 184 + d.f pgWHL WHL_CLKSTAT_WD

/-- GT at an endpoint's die (R352); a die that was ahead holds (R353). -/
def Dev.gtAt (d : Dev) (e : Nat) : Nat :=
  max (SMap.get 0 d.clk.hold e) (((d.gt : Int) + SMap.get 0 d.gtOfs e).toNat % 2 ^ 64)

/-! Memory bytes (R46, R196, R203). Keys are those of Machine/Geo.lean. -/

/-- One byte: an unlisted byte reads 0 (log entry 3). -/
def memByte (m : List Host.Cell) (k : Nat) : Byte := SMap.get 0 m k
/-- `n` bytes from a key. -/
def memRead (m : List Host.Cell) (k : Nat) : Nat → List Byte
  | 0 => []
  | n + 1 => memByte m k :: memRead m (k + 1) n
/-- Write bytes from a key on. -/
def memWrite (m : List Host.Cell) (k : Nat) : List Byte → List Host.Cell
  | [] => m
  | b :: t => memWrite (SMap.set 0 m k b) (k + 1) t
/-- The canonical form of memory: addresses rising, no listed byte 0. -/
def Memory.wf (m : List Host.Cell) : Bool := SMap.wf 0 m

/-- Bytes of memory. -/
def Dev.bytes (d : Dev) (k n : Nat) : List Byte := memRead d.mem k n
/-- A little-endian 64-bit word. -/
def Dev.word64 (d : Dev) (k : Nat) : Word := BitVec.ofNat 64 (leNat (d.bytes k 8))

/-- The granules that `n` bytes from a key touch. -/
def granules (k n : Nat) : List Nat :=
  if n = 0 then []
  else
    let g := granuleSize k
    let a := k / g
    (List.range ((k + n - 1) / g - a + 1)).map (fun i => (a + i) * g)

/-- A granule lies in a tier-1 channel whose lines were all stored poisoned. -/
def Dev.sourAt (d : Dev) (g : Nat) : Bool :=
  decide (g < 2 ^ 43) && d.sour.contains (g / 2 ^ 37 * 32 + t1Channel (g % 2 ^ 37))

/-- A granule is poisoned. -/
def Dev.isPois (d : Dev) (g : Nat) : Bool := d.pois.contains g != d.sourAt g

/-- A granule becomes poisoned or clean. -/
def Dev.setPois (d : Dev) (g : Nat) (b : Bool) : Dev :=
  { d with pois := if b != d.sourAt g then setIns d.pois g else setDel d.pois g }

/-- Whether any granule of the bytes is poisoned. -/
def Dev.poisoned (d : Dev) (k n : Nat) : Bool := (granules k n).any d.isPois

/-- The byte positions of a read that lie in poisoned granules. -/
def Dev.poisMap (d : Dev) (k n : Nat) : List Nat :=
  (List.range n).filter (fun i => d.isPois (granule (k + i)))

/-- Write bytes, some arriving poisoned (positions `px`): a granule wholly written with clean data becomes clean; one
partly written stays as it was; any poisoned byte poisons its granule (R46, R203). -/
def Dev.store (d : Dev) (k : Nat) (bs : List Byte) (px : List Nat := []) : Dev :=
  let gs := granules k bs.length
  let d := gs.foldl (fun (d : Dev) g =>
    let sz := granuleSize k
    if px.any (fun i => granule (k + i) = g) then d.setPois g true
    else if k ≤ g ∧ g + sz ≤ k + bs.length then d.setPois g false
    else d) d
  let ups := gs.foldl (fun u g =>
    if k ≤ g ∧ g + granuleSize k ≤ k + bs.length then SMap.del u g else u) d.upsets
  { d with mem := memWrite d.mem k bs, upsets := ups }

/-- Whether a write of these bytes merges into a granule that is poisoned and stays so: it reports POISONED (R46, R203). -/
def Dev.mergesPoison (d : Dev) (k n : Nat) : Bool :=
  (granules k n).any (fun g => d.isPois g && !(decide (k ≤ g) && decide (g + granuleSize k ≤ k + n)))

/-- A range becomes zero and clean; a tier-1 range is a whole stack. -/
def Dev.zero (d : Dev) (k n : Nat) : Dev :=
  { d with mem := d.mem.filter (fun c => c.1 < k ∨ k + n ≤ c.1),
           pois := d.pois.filter (fun g => g < k ∨ k + n ≤ g),
           sour := d.sour.filter (fun x => !(decide (k ≤ t1Key (x / 32) 0) && decide (t1Key (x / 32 + 1) 0 ≤ k + n))),
           upsets := d.upsets.filter (fun u => u.1 < k ∨ k + n ≤ u.1) }

/-! Local addresses (R189, R261). -/

/-- What a local address resolves to. -/
inductive Res where
  | t1 (m y : Nat)
  | t2 (p z : Nat)
  | store (lc off : Nat)
  | skPort (id sop off : Nat)
  | winder (m off : Nat)
  | aperture
  | unmapped
  deriving DecidableEq, Repr

/-- A register as the current generation holds it: band modes, membership, limits take effect at commit (Table 14.6). -/
def Dev.eff (d : Dev) (a : Nat) : Word := SMap.get (resetAt a) d.gens.cur.regs a
/-- A field of such a register. -/
def Dev.effF (d : Dev) (page : Nat) (x : Fld) (i : Nat := 0) : Nat :=
  fld (d.eff (page + x.off + i * x.stride)) x.hi x.lo

/-- Mode of tier-1 band b (R210). -/
def Dev.t1Mode (d : Dev) (b : Nat) : Nat := fld (d.eff (0x340 + 8 * (b / 32))) (2 * (b % 32) + 1) (2 * (b % 32))
/-- Mode of tier-2 band b. -/
def Dev.t2Mode (d : Dev) (b : Nat) : Nat := fld (d.eff (0x358 + 8 * (b / 32))) (2 * (b % 32) + 1) (2 * (b % 32))
/-- Tier-1 bands in SPARE mode. -/
def Dev.spareBands (d : Dev) : Nat := ((List.range 96).filter (fun b => d.t1Mode b = 3)).length

/-- Whether a skein ID is valid (Table 9.1). -/
def skValid (id : Nat) : Bool :=
  let e := id / 2 ^ 24
  let i := id % 2 ^ 24
  (isCD e && decide (i < 8192)) || (isMB e && decide (i < 4096))

/-- Resolve a 52-bit local address (Table 7.1, Table 9.6). -/
def Dev.resolve (d : Dev) (a : Nat) : Res :=
  if a < 0x54000000000 then
    match t1Decode (d.t1Mode (a / (56 * 2 ^ 30))) a with
    | some (m, y) => .t1 m y
    | none => .unmapped
  else if 2 ^ 48 ≤ a ∧ a < 2 ^ 48 + 2 ^ 42 then
    let (p, z) := t2Decode (d.t2Mode ((a - 2 ^ 48) / 2 ^ 36)) (a - 2 ^ 48)
    .t2 p z
  else if 2 ^ 49 ≤ a ∧ a < 2 ^ 49 + 800 * 2 ^ 25 then
    let o := (a - 2 ^ 49) % 2 ^ 25
    if o < 0x1800000 then .store ((a - 2 ^ 49) / 2 ^ 25) o else .unmapped
  else if 3 * 2 ^ 48 ≤ a ∧ a < 4 * 2 ^ 48 then
    let x := a - 3 * 2 ^ 48
    if 2 ^ 47 ≤ x then
      let m := (x - 2 ^ 47) / 2 ^ 32
      let o := (x - 2 ^ 47) % 2 ^ 32
      if m < 56 ∧ o < 12 * 2 ^ 20 then .winder m o else .unmapped
    else
      let id := x / 64
      let sop := x % 64 / 8
      if id < 2 ^ 32 ∧ skValid id ∧ (sop = 0 ∨ sop = 1 ∨ sop = 5) then .skPort id sop (x % 8) else .unmapped
  else if 15 * 2 ^ 48 ≤ a ∧ a < 16 * 2 ^ 48 then .aperture
  else .unmapped

/-- Whether a tier-1 access meets a hole: a retired channel that was not migrated, or a stack not in service (R206, R209,
R371). -/
def Dev.t1Hole (d : Dev) (m y : Nat) : Bool :=
  d.f (pgMBD m) MBD_STATE_TSTATE != 1 || (SMap.get {} d.mbd m).holes.contains (t1Channel y)

/-- Whether a tier-2 package is retired, or not in service (R207). -/
def Dev.t2Hole (d : Dev) (p : Nat) : Bool :=
  d.f (pgIOD (p / 4)) IOD_LPSTATE_TSTATE / 4 ^ (p % 4) % 4 != 1 || (d.f (pgIOD (p / 4)) IOD_LPSTATE_RET).testBit (p % 4)

/-! The spare map (R26, R147). -/

/-- The current injection epoch of an endpoint (RTR_STATE.INJE). -/
def Dev.inje (d : Dev) (e : Nat) : Nat := d.f (pgRTR e) RTR_STATE_INJE

/-- Key of a route-table word. -/
def tblKey (bank e table router idx : Nat) : Nat := (((bank * 256 + e) * 8 + table) * 8 + router) * 8192 + idx

/-- A route-table word. -/
def Dev.tblWord (d : Dev) (bank e table router idx : Nat) : Word := SMap.get 0 d.net.tbl (tblKey bank e table router idx)

/-- XLATE entry of a logical cluster at an endpoint: (endpoint, c) where V is set (R26, Table 5.7). -/
def Dev.xlate (d : Dev) (bank e lc : Nat) : Option (Nat × Nat) :=
  let x := fld (d.tblWord bank e 0 0 (lc / 4)) (16 * (lc % 4) + 15) (16 * (lc % 4))
  if x / 2 ^ 15 = 1 then some (x % 256, x / 256 % 8) else none

/-- The physical cluster of a logical cluster in the active bank, as the whorl die's generation holds it (die 0's table). -/
def Dev.lcPhys (d : Dev) (lc : Nat) : Option Nat :=
  let x := fld (SMap.get 0 d.gens.cur.tbl (tblKey 0 0 0 0 (lc / 4))) (16 * (lc % 4) + 15) (16 * (lc % 4))
  if x / 2 ^ 15 = 1 then some (x % 256 * 8 + x / 256 % 8) else none

/-- State codes of CLU_STATE.PSTATE (Table 2.17). -/
abbrev PS_MAPPED : Nat := 0
abbrev PS_SPARE : Nat := 1
abbrev PS_SPLICE : Nat := 2
abbrev PS_RETIRED : Nat := 3
abbrev PS_DISABLED : Nat := 4
abbrev PS_OFF : Nat := 5

/-- Physical state of a cluster. -/
def Dev.pstate (d : Dev) (p : Nat) : Nat := d.f (pgCLU p) CLU_STATE_PSTATE
/-- Logical cluster held, 0x3FF none. -/
def Dev.lcOf (d : Dev) (p : Nat) : Nat := d.f (pgCLU p) CLU_STATE_LC
/-- Partition of a cluster, 0xF none. -/
def Dev.partOf (d : Dev) (p : Nat) : Nat := d.f (pgCLU p) CLU_STATE_PART
/-- Physical clusters holding the logical clusters of a partition, ascending. -/
def Dev.members (d : Dev) (j : Nat) : List Nat :=
  (List.range Config.clusters).filter (fun p => d.partOf p = j && (d.pstate p = PS_MAPPED || d.pstate p = PS_OFF))

/-- Step number in progress of a partition. -/
def Dev.stepOf (d : Dev) (j : Nat) : Nat := d.f (pgPART j) PART_CMTST_CUR
/-- Step parity (R120). -/
def Dev.parity (d : Dev) (j : Nat) : Nat := d.stepOf j % 2

/-- The address of the cluster-store window of a logical cluster (Table 7.1). -/
def ownSlot (lc : Nat) : Nat := 2 ^ 49 + lc * 2 ^ 25

end Sys2Proof.Machine
end

