-- ==== Sys2Proof/Machine/Mesh.lean ====
section
/-!
DEFINITION. Places of the network: links that carry traffic, what stands behind a port, the buffers and their XOFF,
residue, telemetry, and the moves of a packet from one place to another (R126 to R128, R137, R138, R142, R150, R160).
-/

namespace Sys2Proof.Machine

/-! Packet types and completion status (Tables 5.3, 5.4). -/
abbrev T_RD : Nat := 1
abbrev T_WR : Nat := 2
abbrev T_ATOM : Nat := 3
abbrev T_SKOP : Nat := 4
abbrev T_MWR : Nat := 5
abbrev T_RDRSP : Nat := 0x21
abbrev T_WRACK : Nat := 0x22
abbrev T_ATOMRSP : Nat := 0x23
abbrev T_SKRSP : Nat := 0x24
abbrev T_LWORD : Nat := 0x30
abbrev T_MGRD : Nat := 0x38
abbrev T_MGWR : Nat := 0x39
abbrev T_MGRSP : Nat := 0x3A
abbrev ST_OK : Nat := 0
abbrev ST_BUSY : Nat := 1
abbrev ST_BROKEN : Nat := 2
abbrev ST_TIMEOUT : Nat := 3
abbrev ST_DENIED : Nat := 4
abbrev ST_UNMAPPED : Nat := 5
abbrev ST_ABSENT : Nat := 6
abbrev ST_EARLY : Nat := 7
abbrev ST_UNDERFLOW : Nat := 8
abbrev ST_MISMATCH : Nat := 9
abbrev ST_POISONED : Nat := 10
abbrev ST_TAG : Nat := 11
abbrev ST_RETRIED : Nat := 12

/-- The virtual channel of a packet type (Table 5.3); 4 for a reserved type. -/
def vcOf (t : Nat) : Nat :=
  if 1 ≤ t ∧ t ≤ 5 then 0
  else if 0x21 ≤ t ∧ t ≤ 0x24 then 1
  else if t = 0x30 then 2
  else if 0x38 ≤ t ∧ t ≤ 0x3A then 3
  else 4

/-- Flits a packet occupies. -/
def Pkt.flits (p : Pkt) : Nat := 1 + cdiv p.data.length 32

/-- A link carries traffic: ACTIVE or RECAL (Table 6.3). -/
def Dev.linkUp (d : Dev) (n : Nat) : Bool :=
  let s := d.f (pgLink n) DBL_STATE_STATE
  (s = 6 || s = 7) && d.present (linkEps n).1 && d.present (linkEps n).2

/-- att(k, j): the compute die on link j of IOD k, when the link is present. -/
def Dev.att (d : Dev) (k j : Nat) : Option Nat := if d.linkUp (600 + 2 * k + j) then some (iodDie k j) else none

/-- The endpoint of the die that holds a packet. -/
def Loc.die : Loc → Nat
  | .router d _ _ => d
  | .ep e _ => e
  | .opt a _ _ => a
  | .rx _ b => b
  | .link n fwd => if n < 600 then (if fwd then (linkEps n).1 else (linkEps n).2)
      else (if fwd then (linkEps n).2 else (linkEps n).1)
  | .iod k _ => 168 + k
  | .dst e _ => e
  | .fab q => 168 + q / 2

/-- TOUCH of a die and epoch is set (R150). -/
def Dev.touchSet (d : Dev) (e ep : Nat) : Dev := d.updNet (fun n => { n with touch := setIns n.touch (2 * e + ep) })


/-- This panel's physical number. -/
def Dev.self (d : Dev) : Nat := d.f (pgTUB 0) TUB_DOMAIN_SELF

/-! Paths on the mesh (R142). -/

/-- The router of a compute die that ends the path of a packet on the mesh, and the port it leaves by there: LOCAL, or the
port of the IOD link it is bound for. -/
def Pkt.goal (q : Pkt) : Option (Nat × Nat × Nat) :=
  if q.dep < 112 then some (q.dep, q.dcl, 0)
  else match q.via with
    | some (k, j) => some (iodDie k j, iodRouter k, iodPort k)
    | none => none

/-- The input of the neighbour that a mesh port leads to. -/
def facing (port : Nat) : Nat := if port = 1 then 2 else if port = 2 then 1 else if port = 3 then 4 else 3

/-- The IOD link on a port of a router, by its number above 600 (R17, R127). -/
def iodLinkAt (e c port : Nat) : Option Nat :=
  (List.range 32).find? (fun m => iodDie (m / 2) (m % 2) = e && iodRouter (m / 2) = c && iodPort (m / 2) = port)

/-- The place behind the output port of router (e, c); none: the next hop is absent. -/
def Dev.behind (d : Dev) (e c port : Nat) : Option Loc :=
  let x := meshX e c
  let y := meshY e c
  match hopOf x y port with
  | .die x' y' => some (.router (dieAt x' y') (cAt x' y') (facing port))
  | .dabin n fwd => if d.linkUp n then some (.link n fwd) else none
  | .none =>
    match iodLinkAt e c port with
    | some m => if d.linkUp (600 + m) then some (.link (600 + m) false) else none
    | none => none

/-- Where a link delivers: the router input at its far end, or the IOD. -/
def linkFar (n : Nat) (fwd : Bool) : Loc :=
  if n < 600 then
    let (x, y, p) := linkBase n
    if fwd then
      let (x', y') := if p = 1 then (x + 1, y) else (x, y + 1)
      .router (dieAt x' y') (cAt x' y') (if p = 1 then 2 else 4)
    else .router (dieAt x y) (cAt x y) p
  else
    let k := (n - 600) / 2
    let j := (n - 600) % 2
    if fwd then .router (iodDie k j) (iodRouter k) (iodPort k) else .iod k (6 + j)

/-- The MCMESH mask of a group at a router; none: no entry. -/
def Dev.mcMesh (d : Dev) (bank e c g : Nat) : Option Nat :=
  let x := fld (d.tblWord bank e 2 c (g / 8)) (8 * (g % 8) + 7) (8 * (g % 8))
  if x / 128 = 1 then some (x % 32) else none

/-- INMASK of the COMB entry of a group at a router; none: no valid entry. On an IOD link that negotiated COMBINE 0 the
router's port is absent from it (R182). -/
def Dev.comb (d : Dev) (bank e c g : Nat) : Option Nat :=
  let x := fld (d.tblWord bank e 4 c (g / 4)) (16 * (g % 4) + 15) (16 * (g % 4))
  if x / 2 ^ 15 = 1 then
    let off := (List.range 32).filter (fun m => iodDie (m / 2) (m % 2) = e && iodRouter (m / 2) = c &&
      !d.fb (pgLink (600 + m)) DBL_STATE_COMB)
    let m := x % 64
    some (off.foldl (fun a n => a &&& (63 - 2 ^ iodPort (n / 2))) m)
  else none

/-- The input of a router at which a packet's combining entry takes it (R158). -/
def Dev.combines (d : Dev) (e c inp : Nat) (q : Pkt) : Option Nat :=
  match (if q.typ = T_LWORD ∧ inp < 6 then d.comb q.epoch e c q.mcg else none) with
  | some m => if m.testBit inp then some m else none
  | none => none

/-- Mask bits of a multicast copy that its input does not let it use (R155). -/
def mcCut (inp mask : Nat) : Nat := if inp = 3 ∨ inp = 4 then mask &&& 0b00110 else 0

/-- The output ports of a multicast copy at router (e, c) that have not sent theirs. -/
def Dev.mcPorts (d : Dev) (e c inp : Nat) (q : Pkt) : List Nat :=
  let mask := (d.mcMesh q.epoch e c q.mcg).getD 0
  (List.range 5).filter (fun b => mask.testBit b && !(mcCut inp mask).testBit b && !q.mdone.contains b)

/-- The output port that a packet at router (e, c) takes, and the place behind it; none: the next hop is absent (R141, R142). -/
def Dev.routerOut (d : Dev) (e c : Nat) (q : Pkt) : Option (Nat × Loc) :=
  if q.opt ∧ e ≠ q.dep then some (5, .ep e c)
  else match q.goal with
    | none => none
    | some (te, tc, tport) =>
      if e = te ∧ c = tc then
        if tport = 0 then some (0, .dst e c) else (d.behind e c tport).map (fun l => (tport, l))
      else
        let port := xyPort (meshX e c) (meshY e c) (meshX te tc) (meshY te tc)
        (d.behind e c port).map (fun l => (port, l))

/-- The output that a packet at IOD k takes: LOCAL or a fabric port, the optical endpoint, or a link. -/
def Dev.iodOut (d : Dev) (k : Nat) (q : Pkt) : Option (Nat × Loc) :=
  if q.dep = 168 + k then some (0, if q.dpanel = d.self then .dst (168 + k) 0 else .fab (q.dir % 64))
  else if q.opt ∨ q.late then some (5, .ep (168 + k) 0)
  else match q.via with
    | some (k', j) => if k' = k ∧ d.linkUp (600 + 2 * k + j) then some (6 + j, .link (600 + 2 * k + j) true) else none
    | none => none

/-- The outputs a packet waits for where it stands; none for one that combines there, or whose next hop is absent. -/
def Dev.outs (d : Dev) (q : Pkt) : List (Nat × Loc) :=
  match q.loc with
  | .router e c inp =>
    if q.mc then (d.mcPorts e c inp q).filterMap (fun p => if p = 0 then some (0, .dst e c) else (d.behind e c p).map (fun l => (p, l)))
    else if (d.combines e c inp q).isSome then []
    else (d.routerOut e c q).toList
  | .iod k _ => (d.iodOut k q).toList
  | _ => []

/-! Buffers (R137, R138, R235). -/

/-- A receiving buffer: key, size and thresholds. -/
structure Buf where
  key : Nat
  size : Nat
  off : Nat
  on : Nat
  deriving DecidableEq, Repr

/-- The buffer behind a place (Table 5.5, R235), in flits, that of a fabric port in bytes. Injection queues, replay buffers and what
a router made itself hold no sender off. -/
def bufOf : Loc → Option Buf
  | .router d c inp =>
    if inp = 0 ∨ 6 ≤ inp then none
    else
      let x := meshX d c
      let y := meshY d c
      let far : Bool := match hopOf x y inp with
        | .die _ _ => false
        | .dabin _ _ => true
        | .none => decide (inp ≠ 5)
      let k := (d * 8 + c) * 8 + inp
      some (if far then ⟨k, 512, 232, 288⟩ else ⟨k, 192, 80, 112⟩)
  | .dst e c => some ⟨2 ^ 16 + e * 8 + c, 192, 80, 112⟩
  | .ep e c => if e < 112 ∨ isIOD e then some ⟨2 ^ 17 + e * 8 + c, 192, 80, 112⟩ else none
  | .rx a b => some ⟨2 ^ 18 + a * 256 + b, 512, 464, 480⟩
  | .iod k inp =>
    if inp = 5 then some ⟨2 ^ 19 + k * 16 + inp, 192, 80, 112⟩
    else if inp = 6 ∨ inp = 7 then some ⟨2 ^ 19 + k * 16 + inp, 512, 232, 288⟩
    else if 8 ≤ inp then some ⟨2 ^ 19 + k * 16 + inp, 262144, 245760, 253952⟩
    else none
  | _ => none

/-- The place is the receive buffer of a fabric port. -/
def Loc.fabIn : Loc → Bool
  | .iod _ inp => decide (8 ≤ inp)
  | _ => false

/-- The channel of a packet in a buffer: its VC; on a fabric port, with its dateline class (R224). -/
def Pkt.chan (q : Pkt) (l : Loc) : Nat := q.vc + (if l.fabIn then 4 * q.dcls else 0)

/-- What a packet takes of a buffer: flits, or bytes with prefix and header. -/
def Pkt.size (q : Pkt) (l : Loc) : Nat := if l.fabIn then 40 + q.data.length else q.flits

/-- What stands in a buffer on a channel. -/
def Dev.occupancy (d : Dev) (l : Loc) (ch : Nat) : Nat :=
  (d.net.pkts.filter (fun p => p.chan l = ch && p.typ ≠ 0 && decide (bufOf p.loc = bufOf l))).foldl (fun a p => a + p.size l) 0

/-- The buffer's key on a channel. -/
def Buf.chan (b : Buf) (ch : Nat) : Nat := b.key * 8 + ch

/-- The buffer a sender onto a place fills: a link's far end holds off what goes onto the link. -/
def Loc.fills : Loc → Loc
  | .link n fwd => linkFar n fwd
  | l => l

/-- The buffer holds its senders off. -/
def Dev.heldOff (d : Dev) (l : Loc) (ch : Nat) : Bool :=
  match bufOf l.fills with
  | none => false
  | some b => d.net.xoff.contains (b.chan ch)

/-! Telemetry (R160). -/

/-- Key of a port's counts: endpoint, router, port, VC. -/
def telKey (e c port vc : Nat) : Nat := ((e * 8 + c) * 8 + port) * 4 + vc

/-- Change the counts of a port and VC. -/
def Dev.updTel (d : Dev) (k : Nat) (f : Tel → Tel) : Dev := d.updNet (fun n => { n with tel := SMap.upd {} n.tel k f })

/-- A packet is sent on an output port. -/
def Dev.countOut (d : Dev) (e c port : Nat) (q : Pkt) : Dev :=
  d.updTel (telKey e c port q.vc) (fun t =>
    { t with pkts := (t.pkts + 1) % 2 ^ 48, bytes := (t.bytes + 32 + q.data.length) % 2 ^ 48 })

/-- The input, as its die, router and port, at which a place stands: routers, IODs, and the two sides of an endpoint without
either. -/
def Loc.input : Loc → Option (Nat × Nat × Nat)
  | .router e c inp => if inp < 6 then some (e, c, inp) else none
  | .iod k inp => if inp < 8 then some (168 + k, 0, inp) else none
  | .ep e _ => if e < 112 ∨ isIOD e then none else some (e, 0, 0)
  | .rx _ b => if b < 112 ∨ isIOD b then none else some (b, 0, 5)
  | _ => none

/-- Flits of a VC that stand at an input now. -/
def Dev.inputNow (d : Dev) (e c port vc : Nat) : Nat :=
  (d.net.pkts.filter (fun p => p.vc = vc && p.typ ≠ 0 && decide (p.loc.input = some (e, c, port)))).foldl (fun a p => a + p.flits) 0

/-- The high-water mark of the input at a place. -/
def Dev.countIn (d : Dev) (l : Loc) (vc : Nat) : Dev :=
  match l.input with
  | some (e, c, port) =>
    let o := d.inputNow e c port vc
    d.updTel (telKey e c port vc) (fun t => { t with hwm := max t.hwm o })
  | none => d

/-- Clock cycles in a number of GT counts, at the operating point now (R347). -/
def Dev.cyclesIn (d : Dev) (n : Nat) : Nat := n * (900 + 25 * d.f pgWHL WHL_FREQ_CUR) / 4000

/-- The stall cycles of a port and VC now. -/
def Dev.stallNow (d : Dev) (t : Tel) : Nat :=
  (t.stall + (if t.since = 0 then 0 else d.cyclesIn (d.gt + 1 - t.since))) % 2 ^ 48

/-- The output that feeds the buffer at a place. -/
def Loc.feeder : Loc → Option (Nat × Nat × Nat)
  | .router d c inp =>
    match hopOf (meshX d c) (meshY d c) inp with
    | .die x y => some (dieAt x y, cAt x y, facing inp)
    | .dabin n fwd =>
      match linkFar n fwd with
      | .router d' c' _ => some (d', c', facing inp)
      | _ => none
    | .none => (iodLinkAt d c inp).map (fun m => (168 + m / 2, 0, 6 + m % 2))
  | .dst e c => some (e, c, 0)
  | .ep e c => some (e, c, 5)
  | .iod k inp => if inp = 6 ∨ inp = 7 then some (iodDie k (inp - 6), iodRouter k, iodPort k) else none
  | .rx a _ => if a < 112 ∨ isIOD a then none else some (a, 0, 5)
  | _ => none

/-- An output holds a packet of a VC. -/
def Dev.outHolds (d : Dev) (o : Nat × Nat × Nat) (vc : Nat) : Bool :=
  d.net.pkts.any (fun p => p.vc = vc && p.typ ≠ 0 &&
    match p.loc with
    | .router e c _ => decide (e = o.1 ∧ c = o.2.1) && (d.outs p).any (fun x => x.1 = o.2.2)
    | .iod k _ => decide (168 + k = o.1) && (d.outs p).any (fun x => x.1 = o.2.2)
    | .ep e _ => !(decide (e < 112) || isIOD e) && decide (o = (e, 0, 5))
    | _ => false)

/-- The stall of the output that feeds a buffer begins, when it holds a packet while the buffer holds it off, or ends. -/
def Dev.noteStall (d : Dev) (l : Loc) (vc : Nat) : Dev :=
  match l.feeder with
  | none => d
  | some o =>
    let k := telKey o.1 o.2.1 o.2.2 vc
    let t := SMap.get {} d.net.tel k
    if d.heldOff l vc then
      if t.since = 0 ∧ d.outHolds o vc then d.updTel k (fun t => { t with since := d.gt + 1 }) else d
    else if t.since = 0 then d
    else d.updTel k (fun t => { t with stall := d.stallNow t, since := 0 })

/-- A buffer's XOFF after a packet has come or gone (R137). -/
def Dev.noteBuf (d : Dev) (l : Loc) (ch : Nat) : Dev :=
  match bufOf l with
  | none => d
  | some b =>
    let free := b.size - d.occupancy l ch
    let held := d.net.xoff.contains (b.chan ch)
    let now := decide (free < b.off) || held && decide (free < b.on)
    if now = held then d
    else (d.updNet (fun n => { n with xoff := if now then setIns n.xoff (b.chan ch) else setDel n.xoff (b.chan ch) })).noteStall l ch

/-! Moves. -/

/-- Take packet `i` out of the network. -/
def Dev.take (d : Dev) (i : Nat) : Dev :=
  let d' := d.updNet (fun n => { n with pkts := dropAt n.pkts i })
  match d.net.pkts[i]? with
  | some q => d'.noteBuf q.loc (q.chan q.loc)
  | none => d'

/-- What an arrival at a place changes: buffer and high-water mark there, and the stall of an output already held off that it
waits for. -/
def Dev.arrived (d : Dev) (q : Pkt) (l : Loc) : Dev :=
  let d := (d.noteBuf l (q.chan l)).countIn l q.vc
  forL (d.outs { q with loc := l }) (fun o d => if d.heldOff o.2 q.vc then d.noteStall o.2.fills q.vc else d) d

/-- A packet enters the panel's network; a source's own answer is none (R150). -/
def Dev.place (d : Dev) (p : Pkt) : Dev :=
  let d := d.updNet (fun n => { n with pkts := n.pkts ++ [p] })
  if p.typ = 0 then d else (d.touchSet p.loc.die p.epoch).arrived p p.loc

/-- Packet `q`, already out of where it stood (`from`), enters a place. -/
def Dev.enter (d : Dev) (from_ : Loc) (q : Pkt) (l : Loc) : Dev :=
  let d := d.updNet (fun n => { n with pkts := n.pkts ++ [{ q with loc := l, mdone := [] }] })
  (if from_.die = l.die then d else d.touchSet l.die q.epoch).arrived q l

/-- Packet `i`, which is `q`, moves to a place, unless that place holds it off. -/
def Dev.move (d : Dev) (i : Nat) (q : Pkt) (l : Loc) : Dev :=
  if d.heldOff l (q.chan l) then d else (d.take i).enter q.loc q l

/-- COUNT of a die and epoch (R150): packets held there; those on an optical pair are the replay buffer's. -/
def Dev.residue (d : Dev) (e ep : Nat) : Nat :=
  (d.net.pkts.filter (fun p => decide (p.typ ≠ 0 ∧ p.epoch = ep ∧ p.loc.die = e) && (match p.loc with
    | .opt _ _ _ => false
    | _ => true))).length
  + (d.opt.replay.filter (fun s => s.a = e ∧ s.pkt.epoch = ep)).length
  + (d.net.comb.filter (fun c => c.d = e ∧ c.epoch = ep)).length

/-! Output arbitration (R128). -/

/-- The next in rotation of an ascending list, from a turn on. -/
def nextPlane (ps : List Nat) (r : Nat) : Option Nat := (ps.find? (fun p => decide (r ≤ p))).or ps.head?

/-- The place of a VC in the round of RSP, COL and REQ. -/
def vcRound (vc : Nat) : Nat := if vc = 1 then 0 else if vc = 2 then 1 else 2

/-- The router input of a place. -/
def Loc.inp : Loc → Nat
  | .router _ _ i => i
  | .iod _ i => i
  | _ => 0

/-- The packets, by index, that wait for an output port of the place where `l` stands and are not held off by XOFF. -/
def Dev.waiting (d : Dev) (l : Loc) (port : Nat) : List (Pkt × Nat) :=
  let here (p : Pkt) : Bool := match l, p.loc with
    | .router e c _, .router e' c' _ => e = e' && c = c'
    | .iod k _, .iod k' _ => k = k'
    | _, _ => false
  d.net.pkts.zipIdx.filter (fun x => here x.1 && x.1.typ ≠ 0 &&
    (d.outs x.1).any (fun o => o.1 = port && !d.heldOff o.2 (x.1.chan o.2)))

/-- The output of the place where `l` stands, by key. -/
def outKey (l : Loc) (port : Nat) : Nat :=
  match l with
  | .router e c _ => telKey e c port 0
  | .iod k _ => telKey (168 + k) 0 port 0
  | _ => 0

/-- The packet, by index, that an output port sends next: MGT first, then the VCs and, within one, the inputs in turn. -/
def Dev.winner (d : Dev) (l : Loc) (port : Nat) : Option Nat :=
  let ws := d.waiting l port
  let vc? : Option Nat :=
    if ws.any (fun x => x.1.vc = 3) then some 3
    else
      let rounds := (List.range 3).filter (fun r => ws.any (fun x => x.1.vc < 3 && vcRound x.1.vc = r))
      (nextPlane rounds (SMap.get 0 d.net.turnVc (outKey l port))).map (fun r => [1, 2, 0].getD r 0)
  match vc? with
  | none => none
  | some vc =>
    let ws := ws.filter (fun x => x.1.vc = vc)
    let inps := (List.range 16).filter (fun i => ws.any (fun x => x.1.loc.inp = i))
    match nextPlane inps (SMap.get 0 d.net.turnIn (outKey l port + vc)) with
    | some i => (ws.find? (fun x => x.1.loc.inp = i)).map (·.2)
    | none => none

/-- The turn passes on after a packet has been sent on an output. -/
def Dev.sentTurn (d : Dev) (q : Pkt) (port : Nat) : Dev :=
  let k := outKey q.loc port
  d.updNet (fun n => { n with
    turnVc := if q.vc = 3 then n.turnVc else SMap.set 0 n.turnVc k ((vcRound q.vc + 1) % 3),
    turnIn := SMap.set 0 n.turnIn (k + q.vc) (q.loc.inp + 1) })

end Sys2Proof.Machine
end

