-- ==== Sys2Proof/Machine/Route.lean ====
section
/-!
DEFINITION. Packets: destination resolution, route choice, injection, requests and responses
(chapter 05, R214, R415, R120). Every transfer of the panel is made of packets in `Dev.net`.
-/

namespace Sys2Proof.Machine

/-- Rank of a status in the order of R133: the lower is reported first. -/
def statusRank : Nat → Nat
  | 6 => 1
  | 5 => 2
  | 11 => 3
  | 4 => 4
  | 1 => 5
  | 2 => 6
  | 8 | 7 | 9 | 3 => 7
  | 10 => 8
  | _ => 9

/-- The status reported of two that apply (R133). -/
def worst (a b : Nat) : Nat := if statusRank b < statusRank a then b else a

/-! Route choice (R141). -/

/-- Key of an unordered pair of endpoints. -/
def pairKey (a b : Nat) : Nat := if a < b then a * 256 + b else b * 256 + a

/-- What an unlisted channel is: GOOD between calibrated endpoints, else DOWN. -/
def Dev.chanDef (d : Dev) (a b : Nat) : Chan :=
  if d.opt.cal.contains a ∧ d.opt.cal.contains b then { cls := 0, inSvc := true } else {}

/-- Planes of a pair in service now. -/
def Dev.planeList (d : Dev) (a b : Nat) : List Nat :=
  if a = b ∨ !d.present a ∨ !d.present b then []
  else (List.range 16).filter (fun p =>
    !d.opt.outPlanes.contains p && (SMap.get (d.chanDef a b) d.opt.chan (pairKey a b * 16 + p)).inSvc)

/-- pl(a, b). -/
def Dev.planes (d : Dev) (a b : Nat) : Nat := (d.planeList a b).length

/-- LIVE row of an endpoint, bit of a die (R143). -/
def Dev.live (d : Dev) (e x : Nat) : Bool :=
  if x < 64 then (d.f (pgRTR e) RTR_LIVE_LO_LIVE).testBit x else (d.f (pgRTR e) RTR_LIVE_HI_LIVE).testBit (x - 64)

/-- blk(a, b) of R141. -/
def Dev.blk (d : Dev) (bank e x : Nat) : Bool :=
  bit (d.tblWord bank e 1 0 (x / 64)) (x % 64) || d.live e x

/-- Paths of R141. -/
inductive Path where
  | none
  | local_
  | mesh
  | optical
  | edge (j : Nat)
  | meshVia (j : Nat)
  deriving DecidableEq, Repr

/-- The route choice of the source (R141). -/
def Dev.choose (d : Dev) (s t bank : Nat) : Path :=
  if 185 < t ∨ !d.present t then .none
  else if s = t then .local_
  else
    let opt := d.fb pgWHL WHL_RTCTL_OPTRDY && decide (0 < d.planes s t)
    if isCD s ∧ isCD t then
      if !d.blk bank s t ∧ (dieDist s t ≤ d.f pgWHL WHL_RTCTL_ESC ∨ !opt) then .mesh
      else if opt then .optical else .none
    else if (isIOD s ∧ isCD t) ∨ (isCD s ∧ isIOD t) then
      let k := (if isIOD s then s else t) - 168
      let c := if isCD s then s else t
      if d.att k 0 = some c then .edge 0
      else if d.att k 1 = some c then .edge 1
      else if opt then .optical
      else
        let j? := if (d.att k 0).isSome then some 0 else if (d.att k 1).isSome then some 1 else none
        match j? with
        | none => .none
        | some j =>
          if (c = s ∧ !d.blk bank c (iodDie k j)) ∨ (c ≠ s ∧ !d.blk bank (168 + k) c) then .meshVia j else .none
    else if opt then .optical else .none

/-! Injection. -/

/-- Where a packet that enters by an input of its die starts, for its path (R141, R10): 0 is injection, and at an IOD 8 and above
the receive buffer of a fabric port (R235). -/
def startLoc (e c inp : Nat) (path : Path) : Loc :=
  if isCD e then .router e c 0
  else if inp = 0 ∧ path = .local_ then .dst e 0
  else if isIOD e then .iod (e - 168) inp
  else .ep e 0

/-- The link a packet is bound for on its path: IOD and link. -/
def viaOf (s t : Nat) : Path → Option (Nat × Nat)
  | .edge j => some ((if isIOD s then s else t) - 168, j)
  | .meshVia j => some ((if isIOD s then s else t) - 168, j)
  | _ => none

/-- The hank of a die is DRAINING: the die has stopped injecting (R373). -/
def Dev.draining (d : Dev) (e : Nat) : Bool :=
  match epHank e with
  | some h => d.f (pgHNK h) HNK_PSTATE_STATE = 3
  | none => false

/-- A packet that takes a path from (e, c): the epoch is stamped and the path written into it (R149, R141). -/
def Dev.onPath (d : Dev) (e c inp : Nat) (path : Path) (p : Pkt) : Dev :=
  let p : Pkt := { p with
    loc := startLoc e c inp path, epoch := d.inje e, opt := decide (path = .optical), vc := vcOf p.typ, via := viaOf e p.dep path }
  -- an endpoint's own LOCAL side (R160)
  let d := if !isCD e && decide (p.loc = .dst e 0) then d.countOut e 0 0 p else d
  d.place p

/-- Inject a packet at (e, c), by an input of the die, toward its DEP; none: its path is NONE, or the die has stopped injecting.
A packet that passes through keeps its source. -/
def Dev.injectAt (d : Dev) (e c inp : Nat) (p : Pkt) : Option Dev :=
  if d.draining e then none
  else match d.choose e p.dep (d.inje e) with
  | .none => none
  | path => some (d.onPath e c inp path p)

/-- Inject a packet that the die itself sends on. -/
def Dev.injectRaw (d : Dev) (e c : Nat) (p : Pkt) : Option Dev := d.injectAt e c 0 p

/-- Inject a packet whose source is (e, c). -/
def Dev.inject (d : Dev) (e c : Nat) (p : Pkt) : Option Dev := d.injectRaw e c { p with sep := e, scl := c }

/-! Multicast (R156). -/

/-- The MCEP entry of a group at an endpoint (Table 5.7): its member dies and ACKCNT. -/
def Dev.mcep (d : Dev) (bank e g : Nat) : List Nat × Nat :=
  let w0 := d.tblWord bank e 3 0 (2 * g)
  let w1 := d.tblWord bank e 3 0 (2 * g + 1)
  ((List.range 112).filter (fun x => if x < 64 then bit w0 x else bit w1 (x - 64)), fld w1 57 48)

/-- A multicast packet is injected at (e, c): one copy over the optical layer to each member die but the source's own, and one that
spreads from the injecting router. -/
def Dev.mcInject (d : Dev) (e c : Nat) (p : Pkt) : Dev :=
  let p : Pkt := { p with epoch := d.inje e, vc := vcOf p.typ, mc := true, sep := e, scl := c }
  let d := forL ((d.mcep p.epoch e p.mcg).1.filter (· ≠ e)) (fun x d =>
    d.place { p with loc := if isIOD e then .iod (e - 168) 0 else .ep e c, opt := true, dep := x }) d
  if isCD e then d.place { p with loc := .router e c 0, dep := e } else d

/-! Fabric addressing (R214, R227). -/

/-- A fabric table word. -/
def Dev.fabWord (d : Dev) (bank table idx : Nat) : Word := SMap.get 0 d.fab.tbl ((bank * 2 + table) * 65536 + idx)
/-- The fabric injection epoch. -/
def Dev.fepoch (d : Dev) : Nat := d.f (pgTUB 0) TUB_FEPOCH_E
/-- PMAP of the current bank: the physical panel of a logical number (R214). -/
def Dev.pmapRaw (d : Dev) (l : Nat) : Option Nat :=
  let x := fld (d.fabWord d.fepoch 0 (l / 4)) (16 * (l % 4) + 15) (16 * (l % 4))
  if x / 2 ^ 15 = 1 then some (x % 4096) else none
/-- The panel a logical number resolves to: a shadow takes its working panel's numbers as its own (R337). -/
def Dev.pmap (d : Dev) (l : Nat) : Option Nat :=
  (d.pmapRaw l).map (fun q =>
    if (List.range Config.partitions).any (fun j => d.f (pgPART j) PART_SPL_ROLE = 1 && d.f (pgPART j) PART_SPL_TWIN = q) then d.self
    else q)

/-! Step-parity translation (R120, R121). -/

/-- Translate an issued address against a partition's latched table; `prev` for a SPREV load. The flag counts UNPAIRED. -/
def Dev.translate (d : Dev) (j : Nat) (parity : Nat) (prev : Bool) (a : Nat) : Nat × Bool :=
  let ents := (d.pt j).spr.map (·.2)
  match ents.find? (fun e => decide (e.1 ≤ a ∧ a < e.1 + 2 * 2 ^ e.2)) with
  | some (b, h) =>
    if a < b + 2 ^ h then (a + 2 ^ h * (if prev then 1 - parity else parity), false) else (a, true)
  | none => (a, prev)

/-- Count an UNPAIRED access of a cluster; the first of a step raises EV_DFT_UNPAIRED (Table 4.8). -/
def Dev.unpaired (d : Dev) (p : Nat) : Dev :=
  let d := if d.f (pgCLU p) CLU_SPR_UNPAIRED_COUNT = 0 then d.ev (pgCLU p) 5 else d
  d.addWrap (pgCLU p) CLU_SPR_UNPAIRED_COUNT

/-- Translate an address that cluster p issues for partition j, counting (R121). Outside a partition nothing is translated. -/
def Dev.xlatAddr (d : Dev) (p j : Nat) (parity : Nat) (prev : Bool) (a : Nat) : Nat × Dev :=
  if j = 15 ∧ d.lcOf p = 0x3FF then (a, d)
  else
    let (b, u) := d.translate j parity prev a
    (b, if u then d.unpaired p else d)

/-! Requests (R135, R140, R190, R415). -/

/-- One packet of a transfer as the requester forms it. -/
structure Req where
  addr : Nat
  len : Nat
  data : List Byte := []
  pois : List Nat := []
  sub : Nat := 0
  tmo : Nat := 0
  /-- The fabric tag where it is not that of the request's PART: copies and records the panel makes for a partition. -/
  tag : Option Nat := none
  /-- The multicast group of an MWR. -/
  mcg : Nat := 0
  deriving DecidableEq, Repr

/-- Where a request goes, or the status it completes with at the source. -/
inductive Tgt where
  | to (dep dcl : Nat) (addr : Nat)
  | skop (id sop : Nat)
  | fabric (panel : Nat) (addr : Nat)
  | stop (status : Nat)
  deriving DecidableEq, Repr

/-- Whether all bytes lie in one valid PART_MEMi range of a partition (R415). -/
def Dev.inMem (d : Dev) (j a n : Nat) : Bool :=
  (List.range 8).any (fun i =>
    let b := d.effF (pgPART j) PART_MEMi_BASE_BASE i * 4096
    d.effF (pgPART j) PART_MEMi_SIZE_V i = 1 &&
      decide (b ≤ a ∧ a + n ≤ b + 4096 * d.effF (pgPART j) PART_MEMi_SIZE_NPG i))

/-- Whether a logical cluster belongs to a partition (PART_LCi, current generation). -/
def Dev.inPart (d : Dev) (j lc : Nat) : Bool :=
  (d.effF (pgPART j) PART_LCi_LC (lc / 64)).testBit (lc % 64)

/-- DEP and DCL of a skein (Table 9.1). -/
def skHome (id : Nat) : Nat × Nat :=
  (id / 2 ^ 24, if id / 2 ^ 24 < 112 then id % 2 ^ 24 / 1024 % 8 else 0)

/-- Where the first `n` bytes from a resolved address, in one block of 4 KiB, are served, as seen from endpoint e; none: ABSENT, for
the place is unplaced, off, retired or lost, or a byte lies in a hole (R27, R206, R207, R209). -/
def Dev.home (d : Dev) (bank e n : Nat) : Res → Option (Nat × Nat)
  | .t1 m y => if d.t1Hole m y || d.t1Hole m (y + n - 1) then none else some (112 + m, 0)
  | .t2 p _ => if d.t2Hole p then none else some (168 + p / 4, 0)
  | .store lc _ =>
    match d.xlate bank e lc with
    | some (dep, dcl) =>
      let ps := d.pstate (dep * 8 + dcl)
      if ps = PS_OFF ∨ ps = PS_RETIRED ∨ ps = PS_DISABLED then none else some (dep, dcl)
    | none => none
  | .winder m _ => some (112 + m, 0)
  | .skPort id _ _ => some (skHome id)
  | .aperture => some (e, 0)
  | .unmapped => some (e, 0)

/-- The target of a local address for a source with `part` (15: not checked), as seen from endpoint e (R140, R189, R190, R415), the
statuses in the order of R133. `port8`: an access that may act on a skein operation port, with the SOP it may use (R261). -/
def Dev.localTgt (d : Dev) (e part typ a n : Nat) (port8 : Bool) : Tgt :=
  let bank := d.inje e
  let lim := decide (part < 16 ∧ part ≠ 15)
  let r := d.resolve a
  match d.home bank e (min n (4096 - a % 4096)) r with
  | none => .stop ST_ABSENT
  | some (dep, dcl) =>
    if d.choose e dep bank = .none then .stop ST_ABSENT
    else if r = .unmapped ∨ d.resolve (a + n - 1) = .unmapped then .stop ST_UNMAPPED
    else match r with
    | .t1 _ _ | .t2 _ _ => if lim && !d.inMem part a n then .stop ST_DENIED else .to dep dcl a
    | .store lc _ =>
      if typ = T_ATOM then .stop ST_UNMAPPED
      else if lim && !d.inPart part lc then .stop ST_DENIED
      else .to dep dcl a
    | .skPort id sop off =>
      if port8 && off = 0 && n = 8 && ((typ = T_RD && sop = 0) || (typ = T_WR && sop ≠ 0)) then .skop id sop
      else .stop ST_UNMAPPED
    | .winder _ _ => if typ = T_ATOM then .stop ST_UNMAPPED else .to dep dcl a
    | .aperture => .stop ST_DENIED
    | .unmapped => .stop ST_UNMAPPED

/-- The target of a 64-bit address (R214). -/
def Dev.target (d : Dev) (e part typ a n : Nat) (port8 : Bool) : Tgt :=
  let l := a / 2 ^ 52
  if l = 0 then d.localTgt e part typ a n port8
  else match d.pmap l with
    | none => .stop ST_ABSENT
    | some q =>
      if q = d.self then d.localTgt e part typ (a % 2 ^ 52) n port8
      else if typ = T_MWR then .stop ST_DENIED
      else .fabric q (a % 2 ^ 52)

/-- A response that the source makes itself: the request is not injected (R190, R141). Type 0 is not a packet of the panel. -/
def srcReply (e c flow sq status typ : Nat) : Pkt :=
  { loc := .dst e c, vc := 1, typ := 0, status := status, dep := e, dcl := c, flow := flow, sq := sq, sub := typ }

/-- The response type of a request type. -/
def rspType : Nat → Nat
  | 1 => T_RDRSP
  | 3 => T_ATOMRSP
  | 4 => T_SKRSP
  | 0x38 | 0x39 => T_MGRSP
  | _ => T_WRACK

/-- The dimension a packet travels in on from `dim`, past those whose RING entry is SELF, and the entry there (R223); 3: arrived. -/
def Dev.ringDir (d : Dev) (bank panel dim : Nat) : Nat × Nat :=
  let w0 := d.fabWord bank 1 0
  let w1 := d.fabWord bank 1 1
  let x := fld w0 (2 * (panel % 16) + 1) (2 * (panel % 16))
  let y := fld w0 (32 + 2 * (panel / 16 % 16) + 1) (32 + 2 * (panel / 16 % 16))
  let z := fld w1 (2 * (panel / 256 % 16) + 1) (2 * (panel / 256 % 16))
  if dim = 0 ∧ x ≠ 3 then (0, x) else if dim ≤ 1 ∧ y ≠ 3 then (1, y) else if dim ≤ 2 ∧ z ≠ 3 then (2, z) else (3, 3)

/-- Direction code of a port with the service assignments (Table 8.1, R217). -/
def Dev.portDir (d : Dev) (q : Nat) : Nat :=
  if [10, 12, 13, 14, 15].contains q then 0
  else if [0, 28, 29, 30, 31].contains q then 1
  else if 18 ≤ q ∧ q ≤ 22 then 2
  else if 2 ≤ q ∧ q ≤ 6 then 3
  else if [16, 17, 23, 24, 25].contains q then 4
  else if q = 26 then d.f (pgTUB 0) TUB_CTL_SVC0
  else if q = 27 then d.f (pgTUB 0) TUB_CTL_SVC1
  else 5

/-- ACTIVE ports of a direction (Table 8.2). -/
def Dev.dirPorts (d : Dev) (dir : Nat) : List Nat :=
  (List.range 32).filter (fun q => d.portDir q = dir && d.f (pgTUB (q + 1)) TUB_PSTATE_STATE = 5)

/-- Lanes of a port's width code (Table 8.21). -/
def fabLanes (c : Nat) : Nat := if c = 0 then 0 else 2 * 2 ^ c

/-- Bytes queued on a port per active lane, scaled by 64 (R221). -/
def Dev.portLoad (d : Dev) (q : Nat) : Nat :=
  ((d.net.pkts.filter (fun p => p.loc = .fab q)).foldl (fun a p => a + 40 + p.data.length) 0) * 64 /
    max 1 (fabLanes (d.f (pgTUB (q + 1)) TUB_PSTATE_WIDTH))

/-- The port of least load, lowest number on ties (R221). -/
def Dev.bestPort (d : Dev) (qs : List Nat) : Option Nat :=
  qs.foldl (fun b q => match b with
    | none => some q
    | some x => if d.portLoad q < d.portLoad x then some q else some x) none

/-- Panels along a dimension of the torus (R213). -/
def Dev.ringSize (d : Dev) (dim : Nat) : Nat :=
  1 + (match dim with
    | 0 => d.f (pgTUB 0) TUB_DOMAIN_NXM1
    | 1 => d.f (pgTUB 0) TUB_DOMAIN_NYM1
    | _ => d.f (pgTUB 0) TUB_DOMAIN_NZM1)

/-- The way a packet leaves the panel: port, direction, dimension, REV and DCLS (R222 to R225). -/
structure Egress where
  port : Nat
  dir : Nat
  dim : Nat
  rev : Bool
  dcls : Nat
  deriving DecidableEq, Repr

/-- The way out of a packet that stands at endpoint e; none: its bundle is lost and no reversal is made (R225). Ports whose
IOD has no path from e are not eligible (R224). DCLS and REV last as long as the dimension; a reversed packet keeps its direction
(log entry 29). -/
def Dev.egress (d : Dev) (e : Nat) (p : Pkt) : Option Egress :=
  let (dim, r) := d.ringDir p.fepoch p.dpanel p.dim
  if dim = 3 then none
  else
    let same := decide (p.dim = dim)
    let dcls := if same then p.dcls else 0
    let own := d.self / 16 ^ dim % 16
    let cross (plus : Bool) : Bool := if plus then decide (own + 1 = d.ringSize dim) else decide (own = 0)
    let near (q : Nat) : Bool := e = 168 + q / 2 || d.choose e (168 + q / 2) (d.inje e) != .none
    let go (plus rev : Bool) : Option Egress :=
      let dir := 2 * dim + (if plus then 0 else 1)
      (d.bestPort ((d.dirPorts dir).filter near)).map (fun q => ⟨q, dir, dim, rev, if cross plus then 1 else dcls⟩)
    let back (plus : Bool) : Option Egress := if cross plus ∧ dcls = 1 then none else go plus true
    if same ∧ p.reversed then go (decide (p.dir / 64 % 2 = 0)) true
    else if r = 1 then (go true false).or (back false)
    else if r = 2 then (go false false).or (back true)
    else (back true).or (back false)

/-- TOUCH of a fabric epoch is set (R228). -/
def Dev.fabTouch (d : Dev) (ep : Nat) : Dev := { d with fab := { d.fab with touch := setIns d.fab.touch ep } }

/-- The egress IOD puts the prefix on a packet of its own panel: TTL 48 and the fabric injection epoch (R222, R228). -/
def Dev.fabStamp (d : Dev) (p : Pkt) : Pkt := if p.inFab then p else { p with inFab := true, ttl := 48, fepoch := d.fepoch }

/-- A packet of the fabric that entered (e, c) by an input takes its way out: the IOD of the egress port is its DEP on this panel
(Table 5.6). -/
def Dev.fabSend (d : Dev) (e c inp : Nat) (p : Pkt) : Option Dev :=
  match d.egress e p with
  | none => none
  | some x =>
    let pk : Pkt := { p with dir := x.dir * 64 + x.port, dim := x.dim, reversed := x.rev, dcls := x.dcls, vc := vcOf p.typ }
    let pk : Pkt := { pk with dep := 168 + x.port / 2, dcl := 0 }
    if e ≠ pk.dep then d.injectAt e c inp pk
    else if inp = 0 then
      let pk := d.fabStamp pk
      some ((d.fabTouch pk.fepoch).place { pk with loc := .fab x.port, epoch := d.inje e })
    else some (d.onPath e c inp .local_ pk)

/-- Send a packet into the fabric from (e, c) toward a panel; its DEP and DCL are those on that panel (R222, R228). -/
def Dev.toFabric (d : Dev) (e c panel : Nat) (p : Pkt) : Option Dev :=
  d.fabSend e c 0 { p with
    dpanel := panel, spanel := d.self, inFab := false, ttl := 48, dir := 0, dim := 0, fepoch := d.fepoch, reversed := false, dcls := 0,
    fdep := p.dep, fdcl := p.dcl, sep := e, scl := c }

/-- The header of a packet (Table 5.2); on the fabric DEP and DCL are those of the destination panel. FLOW and the other fields hold
their low bits (log entry 7). -/
def Pkt.header (p : Pkt) : BitVec 256 :=
  let dep := if p.inFab then p.fdep else p.dep
  let dcl := if p.inFab then p.fdcl else p.dcl
  BitVec.ofNat 256 (
    p.vc % 4 * 2 ^ 254 + p.typ % 64 * 2 ^ 248 + p.epoch % 2 * 2 ^ 247 + b2n p.opt * 2 ^ 246 + b2n p.late * 2 ^ 245 + b2n p.mc * 2 ^ 244 +
    p.status % 16 * 2 ^ 240 + p.part % 16 * 2 ^ 236 + p.dpanel % 4096 * 2 ^ 224 + dep % 256 * 2 ^ 216 + dcl % 8 * 2 ^ 213 +
    p.spanel % 4096 * 2 ^ 201 + p.sep % 256 * 2 ^ 193 + p.scl % 8 * 2 ^ 190 + p.sq % 65536 * 2 ^ 174 + p.flow % 65536 * 2 ^ 158 +
    p.csk % 2 ^ 32 * 2 ^ 126 + p.len % 512 * 2 ^ 117 + p.mcg % 4096 * 2 ^ 105 + p.tag % 65536 * 2 ^ 89 + p.sub % 16 * 2 ^ 85 +
    p.addr % 2 ^ 64)

/-- The CRC of a prefix: over its bits [63:32] and the header, bytes lowest first (Table 8.4; log entry 30). -/
def prefixCrc (h : BitVec 256) (pre : Word) : Nat := crc32 (leBytes 4 (fld pre 63 32) ++ leBytes 32 h.toNat)

/-- The prefix of a packet on the fabric (Table 8.4). -/
def Pkt.prefix (p : Pkt) : Word :=
  let w : Word := BitVec.ofNat 64 (p.ttl % 256 * 2 ^ 56 + p.fepoch % 2 * 2 ^ 55 + p.dcls % 2 * 2 ^ 54 + p.dim % 4 * 2 ^ 52 + b2n p.reversed * 2 ^ 51)
  w ||| BitVec.ofNat 64 (prefixCrc p.header w)

/-- Open a transfer and send its request packets from (e, c); each packet that cannot leave completes at the source. -/
def Dev.request (d : Dev) (e c : Nat) (own : Own) (typ part : Nat) (csk : Nat) (timed : Bool) (port8 : Bool)
    (land : Option Nat) (rs : List Req) : Dev :=
  let flow := d.net.nextFlow
  let d := d.updNet (fun n => { n with nextFlow := flow + 1 })
  let step (acc : Dev × List (Nat × Nat) × Option Nat) (ir : Req × Nat) : Dev × List (Nat × Nat) × Option Nat :=
    let (d, left, fab) := acc
    let (r, i) := ir
    let base : Pkt := {
      loc := .dst 0 0, typ := typ, part := part, sq := i, flow := flow, csk := csk, len := r.len,
      sub := r.sub, addr := r.addr, data := r.data, pois := r.pois, tmo := r.tmo, mcg := r.mcg, dpanel := d.self, spanel := d.self }
    let stop (s : Nat) : Dev × List (Nat × Nat) × Option Nat := (d.place (srcReply e c flow i s typ), left ++ [(i, e)], fab)
    match (if typ = T_SKOP then (if skValid r.addr then Tgt.skop r.addr r.sub else .stop ST_UNMAPPED)
           else d.target e part typ r.addr r.len port8) with
    | .stop s => stop s
    | .to dep dcl a =>
      if typ = T_MWR then
        -- ACKCNT acknowledgements are expected of the copies (R156)
        (d.mcInject e c { base with addr := a, dcl := c }, left ++ List.replicate (d.mcep (d.inje e) e r.mcg).2 (i, e), fab)
      else match d.inject e c { base with dep := dep, dcl := dcl, addr := a } with
      | some d' => (d', left ++ [(i, dep)], fab)
      | none => stop ST_ABSENT
    | .skop id sop =>
      let (dep, dcl) := skHome id
      let opd := if typ = T_RD then leBytes 8 0 else r.data
      match d.inject e c { base with typ := T_SKOP, sub := sop, addr := id, data := opd, len := 8, dep := dep, dcl := dcl } with
      | some d' => (d', left ++ [(i, dep)], fab)
      | none => stop ST_ABSENT
    | .fabric q a =>
      let tg := r.tag.getD (d.f (pgTUB 0) TUB_JOBp_TAG (part % 16))
      -- the source converts an access to a skein operation port (R261)
      let pk : Pkt := match d.resolve a with
        | .skPort id sop off =>
          if port8 && off = 0 && r.len = 8 && ((typ = T_RD && sop = 0) || (typ = T_WR && sop ≠ 0)) then
            { base with typ := T_SKOP, sub := sop, addr := id, data := if typ = T_RD then leBytes 8 0 else r.data, tag := tg }
          else { base with addr := a, tag := tg }
        | _ => { base with addr := a, tag := tg }
      match d.toFabric e c q pk with
      | none => stop ST_ABSENT
      | some d' => if tg = 0 then stop ST_DENIED else (d', left ++ [(i, 255)], (d'.net.pkts.getLast?).map (·.dir % 64))
  let (d, left, fab) := rs.zipIdx.foldl step (d, [], none)
  d.updNet (fun n => { n with xfers := n.xfers ++
    [{ flow := flow, ep := e, owner := own, typ := typ, sub := (rs.head?.map (·.sub)).getD 0, part := part, left := left, land := land, since := d.gt,
       timed := timed, fabric := fab.isSome, fport := fab }] })

/-- Cut a range into packets of at most 256 bytes (R135). -/
def pieces (base len : Nat) : List (Nat × Nat) :=
  (List.range (cdiv len 256)).map (fun i => (base + 256 * i, min 256 (len - 256 * i)))

/-- A slice of a list. -/
def slice {α : Type} (l : List α) (o n : Nat) : List α := (l.drop o).take n

/-- The write packets of `bs` at `base`, with poison carried per byte. -/
def wrReqs (base : Nat) (bs : List Byte) (px : List Nat) : List Req :=
  (List.range (cdiv bs.length 256)).map (fun i =>
    { addr := base + 256 * i, len := min 256 (bs.length - 256 * i), data := slice bs (256 * i) 256,
      pois := (px.filter (fun x => 256 * i ≤ x ∧ x < 256 * i + 256)).map (· - 256 * i) })

/-- Hardware ADD of a delta on a skein on behalf of cluster p, at its router or another endpoint (R47, R260). -/
def Dev.hwAdd (d : Dev) (e c : Nat) (own : Own) (part id : Nat) (delta : Nat) : Dev :=
  d.request e c own T_SKOP part id true false none [{ addr := id, len := 8, data := leBytes 8 delta, sub := 1 }]

/-- A response takes its path; with none it leaves by its die's own way, and R144 or R171 decides. A die that has stopped injecting
loses it with its hank (R373). -/
def Dev.sendBack (d : Dev) (e c : Nat) (r : Pkt) : Dev :=
  let r : Pkt := { r with sep := e, scl := c }
  if d.draining e then d
  else match d.choose e r.dep (d.inje e) with
  | .none => d.onPath e c 0 (if isCD e || isIOD e then .mesh else .optical) r
  | path => d.onPath e c 0 path r

/-- Answer a request packet from where it stands: the response is a new packet with the responder's epoch (R149). -/
def Dev.respond (d : Dev) (e c : Nat) (q : Pkt) (status : Nat) (data : List Byte) (pois : List Nat := []) : Dev :=
  let r : Pkt := {
    loc := .dst e c, typ := rspType q.typ, vc := 1, part := q.part, status := status, dep := q.sep, dcl := q.scl,
    flow := q.flow, sq := q.sq, csk := q.csk, len := data.length, data := data, pois := pois, dpanel := q.spanel,
    spanel := d.self, sub := q.sub, addr := q.addr }
  if q.spanel ≠ d.self then (d.toFabric e c q.spanel r).getD d else d.sendBack e c r

end Sys2Proof.Machine
end

