-- ==== Sys2Proof/Machine/Flags.lean ====
section
/-!
DEFINITION. Events and what follows from them: error events, slub scores and retirement (chapter 10), manager
messages and fault records (R239, R243), step failure and the start of an abort (R313, R314), the start of a cluster
reset (R419), channels, links and memory that leave service (R168, R171, R180, R206, R207, R327).
-/

namespace Sys2Proof.Machine

/-! Event bits of the CLU page (R66, R124, R281, R308, R342, R363, R437). -/
abbrev EV_SEQ_FAULT : Nat := 0
abbrev EV_SEQ_OVERLAP : Nat := 1
abbrev EV_CST_CE : Nat := 2
abbrev EV_CST_UE : Nat := 3
abbrev EV_DFT_ERR : Nat := 4
abbrev EV_DFT_UNPAIRED : Nat := 5
abbrev EV_SEQ_ASYNC : Nat := 6
abbrev EV_PLY_VERDICT : Nat := 7
abbrev EV_CHK_FLAG : Nat := 8
abbrev EV_SLUB_STEP : Nat := 9
abbrev EV_SLUB_PROB : Nat := 10
abbrev EV_SPL_READY : Nat := 11
abbrev EV_SPL_MISS : Nat := 12
abbrev EV_RMON_STEP : Nat := 13
abbrev EV_STEST_DONE : Nat := 14
/-! Event bits of the WHL page (Table 16.9). -/
abbrev EV_RT_FLIPDONE : Nat := 0
abbrev EV_RT_LIVEBLK : Nat := 1
abbrev EV_CLK_FDONE : Nat := 2
abbrev EV_CLK_FERR : Nat := 3
abbrev EV_CLK_DOMHOLD : Nat := 4
abbrev EV_SLUB_BRAKE : Nat := 5
abbrev EV_SLUB_RETIRE : Nat := 6
abbrev EV_PWR_UV : Nat := 7
abbrev EV_PWR_SUSPECT : Nat := 8
abbrev EV_PWR_CAPFAIL : Nat := 9
abbrev EV_COOL_DERATE : Nat := 10
abbrev EV_COOL_CRIT : Nat := 12
abbrev EV_BOOT_STEP : Nat := 13
abbrev EV_BOOT_DISCREP : Nat := 14
abbrev EV_FW_DONE : Nat := 15
abbrev EV_FW_FAIL : Nat := 16
abbrev EV_GEN_COMMIT : Nat := 17
abbrev EV_GEN_REFUSED : Nat := 18
abbrev EV_OWN_CHANGE : Nat := 19
abbrev EV_OWN_DENIED : Nat := 20
abbrev EV_PRES_CHANGE : Nat := 21
abbrev EV_PRES_DENIED : Nat := 22
abbrev EV_ATT_DONE : Nat := 23
/-! Event bits of the PART page (R469) and of the RTR, OPT, DBL, MBD, IOD and TUB pages. -/
abbrev EV_PART_PLYABORT : Nat := 0
abbrev EV_PART_STEPDONE : Nat := 1
abbrev EV_PART_FAIL : Nat := 2
abbrev EV_PART_DEGR : Nat := 3
abbrev EV_PART_SPLICE : Nat := 4
abbrev EV_RTR_LATE : Nat := 0
abbrev EV_RTR_STALE : Nat := 1
abbrev EV_RTR_BADPKT : Nat := 2
abbrev EV_RTR_MCERR : Nat := 3
abbrev EV_RTR_TBLERR : Nat := 4
abbrev EV_RTR_COMBFLUSH : Nat := 5
abbrev EV_OPT_PLANE : Nat := 0
abbrev EV_OPT_CHDOWN : Nat := 1
abbrev EV_OPT_THIN : Nat := 2
abbrev EV_OPT_PAIRLOST : Nat := 3
abbrev EV_DBL_UP : Nat := 0
abbrev EV_DBL_WIDTH : Nat := 1
abbrev EV_DBL_ABSENT : Nat := 2
abbrev EV_DBL_REPAIR : Nat := 3
abbrev EV_DBL_RPLBUD : Nat := 4
abbrev EV_MEM_CE : Nat := 0
abbrev EV_MEM_UE : Nat := 1
abbrev EV_MEM_REPAIR : Nat := 2
abbrev EV_MEM_CHRET : Nat := 3
abbrev EV_MEM_MIGDONE : Nat := 4
abbrev EV_LP_CE : Nat := 8
abbrev EV_LP_UE : Nat := 9
abbrev EV_LP_REPAIR : Nat := 10
abbrev EV_LP_RET : Nat := 11
abbrev EV_TUB_BUNDLE : Nat := 0
abbrev EV_TUB_FLIPDONE : Nat := 1
abbrev EV_TUB_REJECT : Nat := 2
abbrev EV_TUB_TTL : Nat := 3
abbrev EV_TUB_MGRLOST : Nat := 4
abbrev EV_TUB_TAKEOVER : Nat := 5
abbrev EV_TUB_MSGDROP : Nat := 6
abbrev EV_TUB_TBLERR : Nat := 7
abbrev EV_TUB_PUP : Nat := 0
abbrev EV_TUB_PWIDTH : Nat := 1
abbrev EV_TUB_PABSENT : Nat := 2

/-- Partition states (Table 11.1). -/
abbrev P_IDLE : Nat := 0
abbrev P_RUN : Nat := 1
abbrev P_DONE : Nat := 2
abbrev P_ABORTING : Nat := 3
abbrev P_ABORTED : Nat := 4
abbrev P_RESTORING : Nat := 5
abbrev P_STUCK : Nat := 6
abbrev P_RESETTING : Nat := 7
/-- Failure causes (Table 11.2). -/
abbrev FC_PLY : Nat := 1
abbrev FC_FAULT : Nat := 2
abbrev FC_UNIT : Nat := 3
abbrev FC_MEMLOSS : Nat := 4
abbrev FC_ABORT : Nat := 5
abbrev FC_SETUP : Nat := 6

/-- Unit kinds (Table 8.7); 9 is the checker of a cluster (Table 10.16). -/
abbrev U_CLUSTER : Nat := 0
abbrev U_DIE : Nat := 1
abbrev U_LINK : Nat := 2
abbrev U_PAIR : Nat := 3
abbrev U_CHAN : Nat := 4
abbrev U_PKG : Nat := 5
abbrev U_HANK : Nat := 6
abbrev U_PORT : Nat := 7
abbrev U_PANEL : Nat := 8
abbrev U_CHECKER : Nat := 9

/-- The unit word of R240. -/
def unitWord (kind idx : Nat) : Word := BitVec.ofNat 64 (kind * 2 ^ 44 + idx)

/-- A partition's state. -/
def Dev.pst (d : Dev) (j : Nat) : Nat := d.f (pgPART j) PART_CMT_STATE

/-- An event of a link on its DBL page or in its half of the IOD page (R186). -/
def Dev.evLink (d : Dev) (n b : Nat) : Dev :=
  if n < 600 then d.ev (pgDBL n) b else d.ev (pgIOD ((n - 600) / 2)) (16 + 8 * ((n - 600) % 2) + b)

/-! Requests that end on the panel without reaching their target. -/

/-- A request packet ends with a status at its requester (R144, R145, R146, R171, R225). -/
def Dev.endRequest (d : Dev) (at_ : Nat) (q : Pkt) (status : Nat) : Dev :=
  if q.spanel = d.self then d.place (srcReply q.sep q.scl q.flow q.sq status q.typ)
  else d.respond at_ 0 q status []

/-- Whether a packet is a request that a requester waits on. -/
def Pkt.isReq (p : Pkt) : Bool := p.vc = 0 || p.typ = T_MGRD || p.typ = T_MGWR

/-- A packet that cannot go on from this panel: a request is answered with a status, another is discarded (R224, R225). -/
def Dev.fabEnd (d : Dev) (e : Nat) (p : Pkt) (status : Nat) : Dev := if p.isReq then d.endRequest e p status else d

/-! Optical channels (R168, R171). -/

/-- Key of a channel: pair and plane. -/
def chanKey (a b plane : Nat) : Nat := pairKey a b * 16 + plane
/-- A channel. -/
def Dev.chan (d : Dev) (a b plane : Nat) : Chan := SMap.get (d.chanDef a b) d.opt.chan (chanKey a b plane)
/-- Change a channel. -/
def Dev.updChan (d : Dev) (a b plane : Nat) (f : Chan → Chan) : Dev :=
  { d with opt := { d.opt with chan := SMap.upd (d.chanDef a b) d.opt.chan (chanKey a b plane) f } }

/-- A packet bound for the pair (a, b) that has no plane left (R171). -/
def Dev.lostOptical (d : Dev) (a b : Nat) (q : Pkt) : Dev :=
  if isCD a && isCD b && !q.late && !d.blk q.epoch a b then
    d.place { q with loc := .router a (if q.sep = a then q.scl else q.dcl) 0, late := true, opt := false }
  else if q.isReq then d.endRequest a q (if q.typ = T_RD || q.typ = T_MGRD then ST_ABSENT else ST_BROKEN)
  else d

/-- The packets of a pair's replay buffers when its last plane has left service (R171). -/
def Dev.pairLost (d : Dev) (a b : Nat) : Dev :=
  let mine (s : Sent) : Bool := (s.a = a && s.b = b) || (s.a = b && s.b = a)
  let ents := d.opt.replay.filter mine
  let gone (l : Loc) : Bool := match l with
    | .opt x y _ => (x = a && y = b) || (x = b && y = a)
    | _ => false
  let d := { d with
    opt := { d.opt with replay := d.opt.replay.filter (fun s => !mine s) },
    net := { d.net with pkts := d.net.pkts.filter (fun p => !gone p.loc) } }
  let d := (d.ev (pgOPT a) EV_OPT_PAIRLOST).ev (pgOPT b) EV_OPT_PAIRLOST
  forL ents (fun s d => d.lostOptical s.a s.b s.pkt) d

/-- Channels of a plane at an endpoint that are POOR or DOWN. -/
def Dev.poorAt (d : Dev) (e plane : Nat) : Nat :=
  ((List.range Config.endpoints).filter (fun x => x ≠ e && d.present x && decide (2 ≤ (d.chan e x plane).cls))).length

/-- Queue a re-lock of a plane; one that waits already is merged (R169). -/
def Dev.queueRelock (d : Dev) (plane : Nat) : Dev :=
  if d.opt.queue.contains plane then d else { d with opt := { d.opt with queue := d.opt.queue ++ [plane] } }

/-- A channel has become POOR or DOWN: 8 such channels of a plane at an endpoint start a re-lock (R169). -/
def Dev.checkRelock (d : Dev) (a b plane : Nat) : Dev :=
  if (8 ≤ d.poorAt a plane ∨ 8 ≤ d.poorAt b plane) ∧ d.opt.relock ≠ some plane then d.queueRelock plane else d

/-- A channel leaves service in a class; the last one of a pair takes the pair with it. -/
def Dev.chanOut (d : Dev) (a b plane cls : Nat) : Dev :=
  let was := d.planes a b
  let d := (d.updChan a b plane (fun c => { c with cls := cls, inSvc := false })).distChange
  let d := if 0 < was ∧ d.planes a b = 0 then d.pairLost a b else d
  d.checkRelock a b plane

/-- All sixteen channels of a pair are DOWN for good (R168). -/
def Dev.retirePair (d : Dev) (a b : Nat) : Dev :=
  let d := { d with opt := { d.opt with retired := setIns d.opt.retired (pairKey a b) } }
  forN 16 (fun p d => d.chanOut a b p 3) d

/-! Links that leave service (Table 6.3). -/

/-- A link becomes ABSENT with a cause (Table 6.7). -/
def Dev.linkAbsent (d : Dev) (n cause : Nat) : Dev :=
  let pg := pgLink n
  let was := d.f pg DBL_STATE_STATE
  let d := (((d.setf pg DBL_STATE_STATE 8).setf pg DBL_STATE_CAUSE cause).setf pg DBL_STATE_WIDTH 0).setf pg DBL_CTL_RETRAIN 0
  if was = 8 then d else (d.evLink n EV_DBL_ABSENT).distChange

/-! Manager messages (R239 to R241). -/

/-- The message word (Table 8.6). -/
def msgWord (mcmd job arg : Nat) : Word := BitVec.ofNat 64 (mcmd * 2 ^ 56 + job % 16 * 2 ^ 52 + arg % 2 ^ 48)

/-- The offset of TUB_MBOX. -/
abbrev MBOX : Nat := 0x30000F8

/-- Send the packet of a message from the whorl die (R239). -/
def Dev.emitMsg (d : Dev) (m : Msg) : Dev :=
  let p : Pkt := {
    loc := .dst d.wdEp 0, typ := T_MGWR, vc := 3, part := 15, flow := m.id, len := 8, addr := MBOX,
    data := leBytes 8 m.w0.toNat, dpanel := m.panel, spanel := d.self, sep := d.wdEp, dep := d.wdEp,
    epoch := d.inje d.wdEp }
  if m.panel = d.self then d.place p
  else match d.toFabric d.wdEp 0 m.panel p with
    | some d' => d'
    | none => d

/-- Send a message to a physical panel and keep it until its OK reply (R239). -/
def Dev.sendMsg (d : Dev) (panel : Nat) (w : Word) : Dev :=
  let m : Msg := { id := d.net.nextFlow, panel := panel, w0 := w, sentAt := d.gt }
  let d := d.updNet (fun n => { n with nextFlow := n.nextFlow + 1 })
  let d := { d with fab := { d.fab with out := d.fab.out ++ [m] } }
  d.emitMsg m

/-- A worker partition reports to its manager and its standby (R241). -/
def Dev.report (d : Dev) (j mcmd arg : Nat) : Dev :=
  let t := pgTUB 0
  let w := msgWord mcmd (d.f t TUB_JOBp_JSLOT j) arg
  let d := d.sendMsg (d.f t TUB_JOBp_MGR j) w
  let s := d.f t TUB_JOBp_STBY j
  if s = 0xFFF then d else d.sendMsg s w

/-- The logical number of a physical panel in the current bank: 0 for this panel. -/
def Dev.logicalOf (d : Dev) (q : Nat) : Option Nat :=
  if q = d.self then some 0
  else ((List.range 4095).map (· + 1)).find? (fun l => d.pmapRaw l = some q)

/-- The report ring of partition j's manager slot: address and slot count (R243; log entry 20). -/
def Dev.ringOf (d : Dev) (j : Nat) : Nat × Nat :=
  let pg := pgTUB (64 + d.f (pgTUB 0) TUB_JOBp_JSLOT j)
  (d.f pg TUB_MGR_RING_ADDR * 64, d.f pg TUB_MGR_RING_NM1 + 1)

/-- The 64 bytes of a fault record (Table 8.9). -/
def Dev.faultBytes (d : Dev) (j step status : Nat) (unit : Word) (page : Nat) : List Byte :=
  leBytes 6 step ++ leBytes 2 status ++ leBytes 8 unit.toNat ++ leBytes 2 d.self ++ leBytes 6 j ++ leBytes 8 d.gt ++
    ((List.range 4).map (fun i => leBytes 8 (d.f page HDR_LOG i))).flatten

/-- Write a fault record: take a ticket of the ring's counter first; with no ring, send FAULT 0 (R243). -/
def Dev.faultRecord (d : Dev) (j status : Nat) (unit : Word) (page : Nat) : Dev :=
  let (a, n) := d.ringOf j
  match d.logicalOf (d.f (pgTUB 0) TUB_JOBp_MGR j) with
  | none => d.report j 5 0
  | some l =>
    if n < 2 then d.report j 5 0
    else d.request d.wdEp 0 (.ringTicket j (d.faultBytes j (d.stepOf j) status unit page)) T_ATOM 15 0 true false none
      [{ addr := l * 2 ^ 52 + a, len := 8, data := leBytes 8 1, sub := 2, tag := some (d.f (pgTUB 0) TUB_JOBp_TAG j) }]

/-! Sequencer scope, abort and failure. -/

/-- Mark the transfers of some owners: their responses are absorbed (R314, R419). -/
def Dev.absorb (d : Dev) (sel : Own → Bool) : Dev :=
  d.updNet (fun n => { n with xfers := n.xfers.map (fun x => if sel x.owner then { x with absorbed := true } else x) })

/-- Change every listed skein. -/
def Dev.mapSk (d : Dev) (f : Nat → Skein → Skein) : Dev :=
  { d with skn := { d.skn with sk := (d.skn.sk.map (fun e => (e.1, f e.1 e.2))).filter (fun e => e.2 ≠ d.skDef e.1) } }

/-- Withdraw waiters without a response (R263): the transfer of each ends with it. -/
def Dev.withdraw (d : Dev) (sel : Waiter → Bool) : Dev :=
  let fl := (d.skn.sk.flatMap (fun e => e.2.waiters.filter sel)).map (·.flow)
  let d := d.mapSk (fun _ s => { s with waiters := s.waiters.filter (fun w => !sel w) })
  d.updNet (fun n => { n with xfers := n.xfers.filter (fun x => !fl.contains x.flow) })

/-- Whether a transfer serves a draft engine of a cluster. -/
def Own.ofEngine (p n : Nat) : Own → Bool
  | .dftRead q m _ => q = p && m = n
  | .dftScan q m _ => q = p && m = n
  | .dftIdx q m _ => q = p && m = n
  | _ => false

/-- Whether a cluster issued a transfer (R311, R314). -/
def Own.ofCluster (p : Nat) : Own → Bool
  | .unit q _ => q = p
  | .dftRead q _ _ => q = p
  | .dftScan q _ _ => q = p
  | .dftIdx q _ _ => q = p
  | .dftWrite q _ _ => q = p
  | .hwAdd q _ => q = p
  | .ticket q _ _ => q = p
  | .digest q => q = p
  | .plyRead q _ _ _ => q = p
  | _ => false

/-- The clocks of a gated cluster run again; the time gated is counted. -/
def Dev.ungate (d : Dev) (p : Nat) : Dev :=
  match (d.cl p).gatedAt with
  | none => d
  | some g =>
    let d := (d.setf (pgCLU p) CLU_PARK_GATED 0).addWrap (pgCLU p) CLU_PARK_PARKUS ((d.gt - g) / 4000)
    d.updCl p (fun c => { c with gatedAt := none })

/-- A transfer is a skein operation in flight from a cluster: of its sequencer, of a SIG or of an engine's ring (R263). -/
def Xfer.skOf (x : Xfer) (p : Nat) : Bool :=
  x.typ = T_SKOP && match x.owner with
    | .unit q _ => q = p
    | .hwAdd q _ => q = p
    | _ => false

/-- Reset of a sequencer (R419): IDLE, cleared; tensor, vector and network commands already issued run on, without effect on it.
Responses of its skein operations are absorbed, and a wait still in flight finds no requester (R263). -/
def Dev.seqReset (d : Dev) (p : Nat) : Dev :=
  let d := (d.ungate p).withdraw (fun w => w.kind < 2 && w.ep = dieOf p && w.c = cOf p)
  let d := { d with skn := { d.skn with polled := d.skn.polled.filter (fun x => x.p ≠ p) } }
  let d := d.updNet (fun n => { n with xfers := n.xfers.map (fun x => if x.skOf p then { x with absorbed := true } else x) })
  let keep (u : UCmd) : Bool := match u.unit with
    | .tensor => true
    | .vector => true
    | .draft => false
    | .net | .seq => d.net.xfers.any (fun x => x.owner = .unit p u.id)
  d.updCl p (fun c => { c with
    seq := {}, units := (c.units.filter keep).map (fun u => { u with orphan := true, wreg := none }),
    stag := [], park := none })

/-- A draft engine ends at an abort or a cluster reset: reads stop, responses are absorbed, IDLE (Table 4.4). -/
def Dev.dftAbort (d : Dev) (p n : Nat) (clear : Bool) : Dev :=
  let d := d.absorb (Own.ofEngine p n)
  d.updEng p n (fun e => if clear then {} else
    { ({} : Draft) with descOff := e.descOff, first := e.first, errs := e.errs, cause := e.cause, rwd := e.rwd,
                        signalled := e.signalled })

/-- The cluster that is to run a record's present ticket. -/
def PlyRec.target (r : PlyRec) : Nat := if r.toRef then r.referee.getD r.partner else r.partner

/-- A partition is suspended: times of its clusters' waits and tickets stand as what is left of them (R264, R288). -/
def Dev.suspd (d : Dev) (j : Nat) : Bool := j < 15 && d.fb (pgPART j) PART_STEP_SUSPD

/-- Change every listed cluster. -/
def Dev.mapClu (d : Dev) (f : Clu → Clu) : Dev :=
  { d with clu := (d.clu.map (fun e => (e.1, f e.2))).filter (fun e => e.2 ≠ {}) }

/-- The ply records of a primary are dropped, with their tickets (Table 10.3). -/
def Dev.dropPly (d : Dev) (p : Nat) : Dev :=
  let d := d.absorb (fun o => match o with
    | .ticket q _ _ => q = p
    | .plyRead _ q _ _ => q = p
    | _ => false)
  (d.updCl p (fun c => { c with plys := [] })).mapClu (fun c => { c with tickets := c.tickets.filter (fun t => t.pri ≠ p) })

/-- A field of word 0 of an area's header (Table 9.8). -/
def Dev.hdr (d : Dev) (key hi lo : Nat) : Nat := fld (d.word64 key) hi lo
/-- The winder writes a field of word 0. -/
def Dev.setHdr (d : Dev) (key hi lo v : Nat) : Dev :=
  { d with mem := memWrite d.mem key (leBytes 8 (setFld (d.word64 key) hi lo v).toNat) }

/-- Winder areas return to IDLE without completion (R277, R314): their headers read IDLE. -/
def Dev.areasIdle (d : Dev) (sel : Area → Bool) : Dev :=
  let gone := d.areas.filter sel
  let d := { d with areas := d.areas.filter (fun a => !sel a), idleAreas := gone.foldl (fun l (a : Area) => setIns l a.key) d.idleAreas }
  let d := d.absorb (fun o => match o with
    | .area k => gone.any (fun a => a.key = k)
    | _ => false)
  forL gone (fun a d => d.setHdr a.key 61 60 0) d

/-- The partition an area's header names (Table 9.8). -/
def Dev.areaPart (d : Dev) (a : Area) : Nat := d.hdr a.key 47 44

/-- Spliced clusters that follow a cluster of a partition (R334, R335). -/
def Dev.followers (d : Dev) (j : Nat) : List Nat :=
  (List.range Config.clusters).filter (fun q =>
    d.pstate q = PS_SPLICE && decide (2 ≤ d.f (pgCLU q) CLU_SPL_STATE) &&
      (match d.lcPhys (d.effF (pgCLU q) CLU_SPL_TLC) with
      | some p => d.partOf p = j
      | none => false))

/-- An abort begins (R314 steps 1 and 2). -/
def Dev.abortStart (d : Dev) (j : Nat) : Dev :=
  let ms := d.members j ++ d.followers j
  let d := forL ms (fun p d =>
    let d := d.seqReset p
    let d := d.absorb (Own.ofCluster p)
    (forN 4 (fun n d => d.dftAbort p n false) (d.dropPly p)).updCl p (fun c => { c with rlog := [] })) d
  let d := d.areasIdle (fun a => d.areaPart a = j)
  let d := (d.setf (pgPART j) PART_CMT_STATE P_ABORTING).setf (pgPART j) PART_STEP_SUSPD 0
  d.updPt j (fun q => { q with phase := .abort })

/-- A cause of failure arises (R313): recorded and aborted only in RUN or DONE. -/
def Dev.stepFail (d : Dev) (j cause : Nat) (fpois : Bool) (unit : Word) (page : Nat) : Dev :=
  if d.pst j = P_RUN ∨ d.pst j = P_DONE then
    let pg := pgPART j
    let d := if d.f pg PART_CMT_FAILC = 0 then (d.setf pg PART_CMT_FAILC cause).setf pg PART_CMT_FPOIS (b2n fpois) else d
    let d := d.ev pg EV_PART_FAIL
    let d := if d.fb (pgTUB 0) TUB_JOBp_EN j && cause != FC_PLY then d.faultRecord j ST_BROKEN unit page else d
    d.abortStart j
  else d

/-- A memory loss (R327): every partition of the panel. -/
def Dev.memLoss (d : Dev) (unit : Word) (page : Nat) : Dev :=
  forN Config.partitions (fun j d =>
    let pg := pgPART j
    let d := if d.fb pg PART_RPL_LOSSAUTO && !d.fb pg PART_RPL_BUDDY then d else d.setf pg PART_CMT_MEMLOSS 1
    d.stepFail j FC_MEMLOSS false unit page) d

/-- The start of a cluster reset (R419, Table 4.4, Table 9.7, R277). Its drain ends in CLU_RESET_DONE. -/
def Dev.clusterReset (d : Dev) (p : Nat) : Dev :=
  let pg := pgCLU p
  let d := d.seqReset p
  let d := d.absorb (Own.ofCluster p)
  let d := (forN 4 (fun n d => d.dftAbort p n true) d).dropPly p
  let d := d.areasIdle (fun a => a.key / 2 ^ 25 = csKey p 0 / 2 ^ 25)
  let d := d.updCl p (fun c => { c with
    fenced := true, resetting := true, units := [], pass := none, acc0 := {}, acc1 := {}, tickets := [],
    rlog := [], stag := [] })
  let d := forL [CLU_WRAP_COUNT, CLU_RETRY_COUNT, CLU_PLYCNT_DUP, CLU_PLYCNT_CHOSEN, CLU_PLYERR_WRONG, CLU_PLYERR_UNRES,
    CLU_PLYERR_SKIP, CLU_PLYERR_FLAGS, CLU_RST_ABSN] (fun x d => d.setf pg x 0) d
  let d := d.setf pg CLU_RST_CLU 1
  -- a partner or referee that is reset: its records are due for reissue at once (Table 10.3)
  d.mapClu (fun c => { c with plys := c.plys.map (fun r => if r.target = p then { r with due := 0 } else r) })

/-- A mapped cluster leaves its partition's service: the step fails with UNIT (Table 11.2). -/
def Dev.unitLost (d : Dev) (p : Nat) (unit : Word) (page : Nat) : Dev :=
  let j := d.partOf p
  if j = 15 ∧ d.lcOf p = 0x3FF then d else d.stepFail j FC_UNIT false unit page

/-! Retirement of units (Table 10.6). -/

/-- A cluster is RETIRED and fenced (R303, R411, R418). -/
def Dev.retireCluster (d : Dev) (p : Nat) : Dev :=
  let pg := pgCLU p
  let d := d.unitLost p (unitWord U_CLUSTER p) pg
  let d := d.clusterReset p
  ((d.setf pg CLU_STATE_PSTATE PS_RETIRED).setf pg CLU_STATE_LC 0x3FF).setf pg CLU_STATE_PART 0xF

/-- The ply mailbox of a cluster's slot (R286). -/
abbrev MAILBOX : Nat := 0x1F00000
/-- A packet of the panel's own for the ply mailbox. -/
def mailbox (q : Pkt) : Bool := q.typ = T_WR && q.part = 15 && decide (MAILBOX ≤ q.addr % 2 ^ 25)

/-- A cluster refuses what reaches it: off, retired or disabled, or fenced by a reset (R27, R303, R419). A retired cluster is still fenced while
its reset drains: what the reset absorbs is counted, and its logical cluster answers ABSENT. -/
def Dev.cluShut (d : Dev) (e c : Nat) (q : Pkt) : Option Dev :=
  let p := e * 8 + c
  let d' := if (d.cl p).fenced then d.addSat (pgCLU p) CLU_RST_ABSN else d
  if d.pstate p = PS_OFF ∨ d.pstate p = PS_RETIRED ∨ d.pstate p = PS_DISABLED then some (d'.respond e c q ST_ABSENT [])
  else if (d.cl p).fenced then some (d'.respond e c q ST_BROKEN [])
  else none

/-- Retired channels of a stack. -/
def Dev.chRet (d : Dev) (m : Nat) : List Nat :=
  (List.range 32).filter (fun ch => (d.f (pgMBD m) MBD_STATE_CHRET).testBit ch)

/-- Channels of a stack that migrate or wait to be retired. -/
def Dev.chGoing (d : Dev) (m : Nat) : Nat :=
  let b := SMap.get {} d.mbd m
  b.wait.length + b.migrating.toList.length

/-- The lowest `n` SPARE bands of a stack that hold no remapped data (log entry 34). -/
def Dev.freeBands (d : Dev) (b : Mbd) (n : Nat) : List Nat :=
  ((List.range 96).filter (fun i => d.t1Mode i = 3 && !b.bands.contains i)).take n

/-- A tier-1 channel is retired: by migration, or as a hole when the spare bands do not hold it (R206). -/
def Dev.retireChannel (d : Dev) (m ch : Nat) : Dev :=
  let pg := pgMBD m
  let b := SMap.get {} d.mbd m
  let upd (d : Dev) (f : Mbd → Mbd) : Dev := { d with mbd := SMap.upd {} d.mbd m f }
  if (d.chRet m).contains ch ∨ b.migrating = some ch ∨ b.wait.contains ch then d
  else if b.migrating.isSome then upd d (fun b => { b with wait := b.wait ++ [ch] })
  else if 3 * ((d.chRet m).length + 1) ≤ d.spareBands then
    (upd d (fun b => { b with migrating := some ch, bands := b.bands ++ d.freeBands b 3 })).setf pg MBD_STATE_MIG 1
  else
    let d := upd d (fun b => { b with holes := setIns b.holes ch })
    let d := d.setf pg MBD_STATE_CHRET (d.f pg MBD_STATE_CHRET ||| 2 ^ ch)
    let d := ((d.setf pg MBD_STATE_MIG 3).setf pg MBD_CTL_RETREQ 0).ev pg EV_MEM_CHRET
    d.memLoss (unitWord U_CHAN (32 * m + ch)) pg

/-- A tier-2 package is retired: its 64 GiB is a hole (R207). -/
def Dev.retirePackage (d : Dev) (pkg : Nat) : Dev :=
  let pg := pgIOD (pkg / 4)
  let r := d.f pg IOD_LPSTATE_RET
  if r.testBit (pkg % 4) then d.setf pg IOD_LPCTL_RETREQ 0
  else
    let d := ((d.setf pg IOD_LPSTATE_RET (r ||| 2 ^ (pkg % 4))).setf pg IOD_LPCTL_RETREQ 0).ev pg EV_LP_RET
    d.memLoss (unitWord U_PKG pkg) pg

/-- A bundle is looked at after one of its ports has changed: lost or regained, it is reported to the lead (R221). -/
def Dev.bundleCheck (d : Dev) (dir : Nat) : Dev :=
  let now := !(d.dirPorts dir).isEmpty
  if 5 < dir ∨ now = d.fab.up.contains dir then d
  else
    let d := { d with fab := { d.fab with up := if now then setIns d.fab.up dir else setDel d.fab.up dir } }
    (d.ev (pgTUB 0) EV_TUB_BUNDLE).sendMsg (d.f (pgTUB 0) TUB_DOMAIN_LEAD)
      (msgWord 0x20 0 ((if now then 0 else 2 ^ 15) + dir * 2 ^ 12 + d.self))

/-- Unacknowledged packets of a port that left ACTIVE go to the other ports of its bundle, or by R225; a request that cannot
go on completes at its requester. -/
def Dev.portLeaves (d : Dev) (q : Nat) : Dev :=
  let mine := d.net.pkts.filter (fun p => p.loc = .fab q)
  let d := d.updNet (fun n => { n with pkts := n.pkts.filter (fun p => p.loc ≠ .fab q) })
  forL mine (fun p d =>
    match d.fabSend (168 + q / 2) 0 0 p with
    | some d' => d'
    | none => d.fabEnd (168 + q / 2) p (if p.typ = T_RD ∨ p.typ = T_MGRD then ST_ABSENT else ST_BROKEN)) d

/-- A port leaves ACTIVE, or any other state, for `st` (Table 8.2). -/
def Dev.portTo (d : Dev) (q st : Nat) : Dev :=
  let pg := pgTUB (q + 1)
  let was := d.f pg TUB_PSTATE_STATE
  let d := d.setf pg TUB_PSTATE_STATE st
  if was = 5 ∧ st ≠ 5 then (d.portLeaves q).bundleCheck (d.portDir q) else d

/-- A fabric port becomes ABSENT with a cause (Table 8.22). -/
def Dev.portAbsent (d : Dev) (q cause : Nat) : Dev :=
  let pg := pgTUB (q + 1)
  let was := d.f pg TUB_PSTATE_STATE
  let d := ((d.setf pg TUB_PSTATE_CAUSE cause).setf pg TUB_PSTATE_WIDTH 0).setf pg TUB_PCTL_RETRAIN 0
  let d := d.portTo q 6
  if was = 6 then d else d.ev pg EV_TUB_PABSENT

/-! Slub scores (R298 to R306). -/

/-- Key of a unit's score. A panel's index is slot·4096 + physical panel: each manager slot scores its own roster (R298, R306). -/
def slubKey (kind idx : Nat) : Nat := kind * 2 ^ 40 + idx
/-- A unit's score. -/
def Dev.score (d : Dev) (kind idx : Nat) : Score := SMap.get {} d.slub.sc (slubKey kind idx)
/-- Change a score. -/
def Dev.updScore (d : Dev) (kind idx : Nat) (f : Score → Score) : Dev :=
  { d with slub := { d.slub with sc := SMap.upd {} d.slub.sc (slubKey kind idx) f } }

/-- Default weights (Table 10.5). -/
def defWeight (code : Nat) : Nat :=
  [400, 150, 200, 1, 200, 50, 20, 300, 1, 20, 100, 20, 1, 100, 20, 100, 1, 100, 20, 25, 1000].getD code 0
/-- The weight of an event code. -/
def Dev.weight (d : Dev) (code : Nat) : Nat := SMap.get (defWeight code) d.slub.weights code

/-- The RETIRE threshold of a kind of unit, points (Table 10.6). -/
def Dev.retireThr (d : Dev) (kind : Nat) : Nat :=
  match kind with
  | 0 => d.f pgWHL WHL_SLUBTHR1_CLRET
  | 2 => d.f pgWHL WHL_SLUBTHR2_DBRET
  | 3 => d.f pgWHL WHL_SLUBTHR2_OPRET
  | 4 => d.f pgWHL WHL_SLUBTHR2_T1RET
  | 5 => d.f pgWHL WHL_SLUBTHR2_T2RET
  | 7 => d.f pgWHL WHL_SLUBTHR3_FPRET
  | 8 => d.f pgWHL WHL_SLUBTHR3_PNRET
  | _ => d.f pgWHL WHL_SLUBTHR1_CKRET

/-- Clusters in SPARE state. -/
def Dev.spareCount (d : Dev) : Nat := ((List.range Config.clusters).filter (fun p => d.pstate p = PS_SPARE)).length

/-- The expulsion brake holds a unit (R304). -/
def Dev.brake (d : Dev) (kind idx : Nat) : Bool :=
  (kind = U_CLUSTER && decide (d.spareCount < d.f pgWHL WHL_SLUBCTL_RSV)) ||
  (d.f pgWHL WHL_SLUBCTL_RCAP != 0 && decide (d.f pgWHL WHL_SLUBCTL_RCAP ≤ d.slub.rets.length)) ||
  (kind = U_CHAN && decide (d.spareBands < 3 * ((d.chRet (idx / 32)).length + d.chGoing (idx / 32) + 1))) ||
  kind = U_PKG

/-- Margin thresholds T1..T4. -/
def Dev.marginThr (d : Dev) (i : Nat) : Nat :=
  [d.f pgWHL WHL_SLUBTHR0_M1, d.f pgWHL WHL_SLUBTHR0_M2, d.f pgWHL WHL_SLUBTHR0_M3, d.f pgWHL WHL_SLUBTHR0_M4].getD (i - 1) 0

/-- The margin step of a score with hysteresis (R302). -/
def Dev.marginStep (d : Dev) (cur s : Nat) : Nat :=
  let top (half : Bool) : Nat := (List.range 4).foldl (fun a i =>
    if d.marginThr (i + 1) * 65536 ≤ s * (if half then 2 else 1) then i + 1 else a) 0
  max (top false) (min cur (top true))

/-- A retirement, from whatever cause, is counted in RET1H and ends the unit's probation (R304, R305). -/
def Dev.noteRetired (d : Dev) (kind idx : Nat) : Dev :=
  let s := d.score kind idx
  if s.ret then d
  else
    let d := d.updScore kind idx (fun s => { s with ret := true, prob := false })
    let d := { d with slub := { d.slub with rets := d.slub.rets ++ [d.gt] } }
    if s.prob ∧ kind = U_CLUSTER then d.ev (pgCLU idx) EV_SLUB_PROB else d

/-- What the retirement of a unit does to it (Table 10.6). -/
def Dev.takeOut (d : Dev) (kind idx : Nat) : Dev :=
  match kind with
  | 0 => d.retireCluster idx
  | 2 => { d.linkAbsent idx 9 with lnk := SMap.upd {} d.lnk idx (fun l => { l with retired := true }) }
  | 3 => d.retirePair (idx / 256) (idx % 256)
  | 4 => d.retireChannel (idx / 32) (idx % 32)
  | 5 => d.retirePackage idx
  | 7 => { d.portAbsent idx 9 with fab := { d.fab with retired := setIns d.fab.retired idx } }
  | _ => d

/-- Retire a unit by its score (R303): counted, the event record, and what Table 10.6 says. -/
def Dev.retireUnit (d : Dev) (kind idx : Nat) : Dev :=
  let s := d.score kind idx
  let d := d.noteRetired kind idx
  ((d.logRec pgWHL EV_SLUB_RETIRE [unitWord kind idx, BitVec.ofNat 64 s.s]).ev pgWHL EV_SLUB_RETIRE).takeOut kind idx

/-- A unit is retired: by its score, by a request or fence, or as a channel or package since memory training (R206 to R208). -/
def Dev.isRetired (d : Dev) (kind idx : Nat) : Bool :=
  (d.score kind idx).ret || (kind = U_CHAN && (d.chRet (idx / 32)).contains (idx % 32)) ||
    (kind = U_PKG && (d.f (pgIOD (idx / 4)) IOD_LPSTATE_RET).testBit (idx % 4))

/-- A request of the host, or a fence, retires a unit that is not retired yet: counted, and never braked (R304). -/
def Dev.retireNow (d : Dev) (kind idx : Nat) : Dev :=
  if d.isRetired kind idx then d else (d.noteRetired kind idx).takeOut kind idx

/-- A unit goes on probation under the brake (R304, R305). -/
def Dev.probation (d : Dev) (kind idx : Nat) : Dev :=
  if (d.score kind idx).prob then d
  else
    let d := (d.updScore kind idx (fun s => { s with prob := true })).ev pgWHL EV_SLUB_BRAKE
    if kind = U_CLUSTER then d.ev (pgCLU idx) EV_SLUB_PROB else d

/-- Evaluate a unit's score (R296, R301 to R305). -/
def Dev.evalScore (d : Dev) (kind idx : Nat) : Dev :=
  let s := d.score kind idx
  let thr := d.retireThr kind * 65536
  if kind = U_CHECKER then
    let pg := pgCLU idx
    let off := d.fb pg CLU_CHKSLUB_CHKOFF
    if !off && decide (thr ≤ s.s) then (d.setf pg CLU_CHKSLUB_CHKOFF 1).ev pg EV_SLUB_STEP
    else if off && decide (2 * s.s < thr) then d.setf pg CLU_CHKSLUB_CHKOFF 0
    else d
  else if kind = U_PANEL then d
  else
    let ret := d.isRetired kind idx
    let d := if kind = U_CLUSTER ∧ !ret then
        let m := d.marginStep (d.f (pgCLU idx) CLU_SLUB_MSTEP) s.s
        if m = d.f (pgCLU idx) CLU_SLUB_MSTEP then d
        else (d.setf (pgCLU idx) CLU_SLUB_MSTEP m).ev (pgCLU idx) EV_SLUB_STEP
      else d
    if ret then d
    else if thr ≤ s.s then
      if d.brake kind idx && decide (s.s < 4 * thr) then d.probation kind idx else d.retireUnit kind idx
    else if s.prob && decide (4 * s.s < 3 * thr) then
      let d := d.updScore kind idx (fun s => { s with prob := false })
      if kind = U_CLUSTER then d.ev (pgCLU idx) EV_SLUB_PROB else d
    else d

/-- An event adds its weight to a unit's score (R299); IOD links carry none (R298). -/
def Dev.slubEvent (d : Dev) (code kind idx : Nat) : Dev :=
  if kind = U_LINK ∧ 600 ≤ idx then d
  else
    (d.updScore kind idx (fun s => { s with s := min (s.s + d.weight code * 65536) 0xFFFFFFFF })).evalScore kind idx

/-- Whether full ply applies to a cluster: its own probation, its die's, or its panel's (R305, R306). -/
def Dev.onProb (d : Dev) (p : Nat) : Bool :=
  (d.score U_CLUSTER p).prob || d.slub.msgProb.contains (slubKey U_DIE (dieOf p))

/-- The brake lifts: probation units at or above RETIRE are retired in descending score (R305). -/
def Dev.brakeRescan (d : Dev) : Dev :=
  let cand := d.slub.sc.filter (fun e => e.2.prob && !e.2.ret &&
    decide (d.retireThr (e.1 / 2 ^ 40) * 65536 ≤ e.2.s) && decide (e.1 / 2 ^ 40 < 8))
  let sorted := cand.mergeSort (fun a b => b.2.s ≤ a.2.s)
  forL sorted (fun e d =>
    let kind := e.1 / 2 ^ 40
    let idx := e.1 % 2 ^ 40
    if d.brake kind idx && decide (e.2.s < 4 * (d.retireThr kind * 65536)) then d else d.retireUnit kind idx) d

/-! Cluster-store errors (R46). -/

/-- A double-bit error of a store word is found: counted, scored, and the word is poisoned. -/
def Dev.cstUE (d : Dev) (p g : Nat) : Dev :=
  let d := (d.addSat (pgCLU p) CLU_CST_ECC_UE).ev (pgCLU p) EV_CST_UE
  let d := { d with upsets := SMap.del d.upsets g }.setPois g true
  d.slubEvent 4 U_CLUSTER p

/-- A single-bit error of a store word is corrected and written back. -/
def Dev.cstCE (d : Dev) (p g : Nat) : Dev :=
  let d := (d.addSat (pgCLU p) CLU_CST_ECC_CE).ev (pgCLU p) EV_CST_CE
  let d := { d with upsets := SMap.del d.upsets g }
  d.slubEvent 3 U_CLUSTER p

/-- Reading `n` store bytes of cluster p from offset `o` finds the upsets that stand in those words (R46). -/
def Dev.cstCheck (d : Dev) (p o n : Nat) : Dev :=
  let k := csKey p o
  let hit := d.upsets.filter (fun u => decide (k / 8 * 8 ≤ u.1 ∧ u.1 < k + n))
  forL hit (fun u d => if u.2 = 1 then d.cstCE p u.1 else d.cstUE p u.1) d

end Sys2Proof.Machine
end

