-- ==== Sys2Proof/Machine/Lead.lean ====
section
/-!
DEFINITION. The lead panel's work (R213 to R215, R223, R226 to R230): default fabric tables, RING tables around lost
bundles, table messages, the fabric flip and its drain check, and the replies to messages (R239).
-/

namespace Sys2Proof.Machine

/-- This panel is the lead (R229). -/
def Dev.isLead (d : Dev) : Bool := d.self = d.f (pgTUB 0) TUB_DOMAIN_LEAD

/-- The panels of the domain (R213). -/
def Dev.panels (d : Dev) : List Nat :=
  (List.range (d.ringSize 2)).flatMap (fun z => (List.range (d.ringSize 1)).flatMap (fun y =>
    (List.range (d.ringSize 0)).map (fun x => z * 256 + y * 16 + x)))

/-- A physical panel number of the domain. -/
def Dev.inDomain (d : Dev) (q : Nat) : Bool :=
  decide (q % 16 < d.ringSize 0 ∧ q / 16 % 16 < d.ringSize 1 ∧ q / 256 < d.ringSize 2)

/-! Tables (Table 8.5). -/

/-- A panel number with one coordinate replaced. -/
def withCoord (panel dim c : Nat) : Nat := panel - panel / 16 ^ dim % 16 * 16 ^ dim + c * 16 ^ dim

/-- The steps between coordinates s and t of a ring of n, going up or down. -/
def ringDist (n s t : Nat) (plus : Bool) : Nat := if plus then (t + n - s) % n else (s + n - t) % n

/-- The path from coordinate s of a panel's ring meets no lost bundle for k steps up or down (R226). -/
def Dev.cleanPath (d : Dev) (panel dim s : Nat) (plus : Bool) : Nat → Bool
  | 0 => true
  | k + 1 =>
    let n := d.ringSize dim
    let t := if plus then (s + 1) % n else (s + n - 1) % n
    let out := 2 * dim + (if plus then 0 else 1)
    let inn := 2 * dim + (if plus then 1 else 0)
    !d.fab.lost.contains (withCoord panel dim s * 8 + out) && !d.fab.lost.contains (withCoord panel dim t * 8 + inn) &&
      d.cleanPath panel dim t plus k

/-- The RING entry of a panel toward coordinate t of a dimension (R223, R226). -/
def Dev.ringEntry (d : Dev) (panel dim t : Nat) : Nat :=
  let n := d.ringSize dim
  let s := panel / 16 ^ dim % 16
  if n ≤ t then 0
  else if s = t then 3
  else
    let up := ringDist n s t true
    let dn := ringDist n s t false
    let first := decide (up ≤ dn)
    let ok (plus : Bool) : Bool := d.cleanPath panel dim s plus (if plus then up else dn)
    if ok first then (if first then 1 else 2)
    else if ok (!first) then (if first then 2 else 1)
    else 0

/-- The two words of a panel's RING table. -/
def Dev.ringWords (d : Dev) (panel : Nat) : Word × Word :=
  let row (dim : Nat) : Nat := (List.range 16).foldl (fun a c => a + d.ringEntry panel dim c * 4 ^ c) 0
  (BitVec.ofNat 64 (row 0 + 2 ^ 32 * row 1), BitVec.ofNat 64 (row 2))

/-- The default PMAP entry of a logical number (R215). -/
def Dev.pmapDefault (d : Dev) (l : Nat) : Nat :=
  let nx := d.ringSize 0
  let ny := d.ringSize 1
  if l = 0 ∨ nx * ny * d.ringSize 2 < l then 0
  else 2 ^ 15 + (l - 1) / (nx * ny) * 256 + (l - 1) / nx % ny * 16 + (l - 1) % nx

/-- Key of a fabric table word. -/
def fabKey (bank table idx : Nat) : Nat := (bank * 2 + table) * 65536 + idx

/-- Write a fabric table word. -/
def Dev.setFab (d : Dev) (bank table idx : Nat) (v : Word) : Dev :=
  { d with fab := { d.fab with tbl := SMap.set 0 d.fab.tbl (fabKey bank table idx) v } }

/-- Both banks get the default tables (R215, R223; when: log entry 37). -/
def Dev.fabDefaults (d : Dev) : Dev :=
  let d : Dev := { d with fab := { d.fab with tbl := [], lost := [] } }
  let (w0, w1) := d.ringWords d.self
  forN 2 (fun b d' =>
    let d' := (d'.setFab b 1 0 w0).setFab b 1 1 w1
    forN 1024 (fun i d' => d'.setFab b 0 i (BitVec.ofNat 64 ((List.range 4).foldl (fun a k =>
      a + d.pmapDefault (4 * i + k) * 2 ^ (16 * k)) 0))) d') d

/-- Words of a fabric table. -/
def fabWords (table : Nat) : Nat := if table = 0 then 1024 else if table = 1 then 2 else 0

/-- A write of a fabric table word is taken, or discarded with EV_TUB_TBLERR (R227); one of no word is discarded. -/
def Dev.fabWrite (d : Dev) (bank table idx : Nat) (v : Word) : Dev :=
  if fabWords table ≤ idx then d
  else if bank = d.fepoch ∨ d.f (pgTUB 0) TUB_FEPOCH_STATE ≠ 0 then d.ev (pgTUB 0) EV_TUB_TBLERR
  else d.setFab bank table idx v

/-- TUB_BANKSUM of a bank (R227). -/
def Dev.fabSum (d : Dev) (bank : Nat) : Nat :=
  crc32 ((List.range 2).flatMap (fun t => (List.range (fabWords t)).flatMap (fun i => leBytes 8 (d.fabWord bank t i).toNat)))

/-- COUNT of a fabric epoch (R228): packets with their prefix on, in IOD queues, replay buffers and between IODs. -/
def Dev.fabCount (d : Dev) (ep : Nat) : Nat := (d.net.pkts.filter (fun p => p.typ ≠ 0 && p.inFab && p.fepoch = ep)).length

/-! Flips (R229, R230). -/

/-- A fabric table word is sent to a panel in two FTBL messages (Table 8.8). -/
def Dev.sendFtbl (d : Dev) (panel bank table idx : Nat) (v : Word) : Dev :=
  let arg (hi : Nat) : Nat := bank * 2 ^ 47 + hi * 2 ^ 46 + table * 2 ^ 44 + idx * 2 ^ 32 + fld v (32 * hi + 31) (32 * hi)
  (d.sendMsg panel (msgWord 0x21 0 (arg 0))).sendMsg panel (msgWord 0x21 0 (arg 1))

/-- The flip starts: FFLIP to every panel of the domain. -/
def Dev.startFabFlip (d : Dev) : Dev :=
  let t := pgTUB 0
  let new := 1 - d.fepoch
  let d := ((d.setf t TUB_FEPOCH_STATE 1).setf t TUB_FEPOCH_OLD d.fepoch).setf t TUB_FEPOCH_ERR 0
  let d : Dev := { d with fab := { d.fab with flipLeft := d.panels, sweep := 0, sweepLeft := [], askedAt := d.gt, prepared := false } }
  forL d.panels (fun p d => d.sendMsg p (msgWord 0x22 0 new)) d

/-- Whether an FTBL message awaits its reply. -/
def Dev.ftblOut (d : Dev) : Bool := d.fab.out.any (fun m => fld m.w0 63 56 = 0x21)

/-- A flip that stands prepared starts when no FTBL message is outstanding. -/
def Dev.flipReady (d : Dev) : Dev :=
  if d.fab.prepared ∧ !d.ftblOut then { d with fab := { d.fab with dropped := [] } }.startFabFlip else d

/-- Panel p lies on the ring of a bundle, given as panel·8 + direction. -/
def onRing (p k : Nat) : Bool := withCoord p (k % 8 / 2) 0 = withCoord (k / 8) (k % 8 / 2) 0

/-- The new tables are sent to the inactive bank: RING words around the lost bundles to the panels on the affected rings, and to those
whose inactive bank lacks an earlier recomputation; the PMAP words that differ from the inactive bank to every panel (R226, R230;
log entry 38). The flip starts when every message has its reply. -/
def Dev.prepareFlip (d : Dev) : Dev :=
  if d.f (pgTUB 0) TUB_FEPOCH_STATE ≠ 0 ∨ d.fab.prepared then { d with fab := { d.fab with again := true } }
  else
    let b := 1 - d.fepoch
    let put (w : Word) (l q : Nat) : Word := setFld w (16 * (l % 4) + 15) (16 * (l % 4)) (2 ^ 15 + q)
    let word (i : Nat) : Word := d.fab.remaps.foldl (fun w m => if m.l / 4 = i then put w m.l m.q else w) (d.fabWord d.fepoch 0 i)
    let diff := (List.range 1024).filter (fun i => word i ≠ d.fabWord b 0 i)
    let ring := d.panels.filter (fun p => d.fab.affected.any (onRing p))
    let behind := d.fab.stale
    let d' : Dev := { d with fab := { d.fab with
      prepared := true, again := false, serving := d.fab.remaps, remaps := [], affected := [], stale := ring } }
    let d' := forL d.panels (fun p d' =>
      let d' := if ring.contains p || behind.contains p then
          (d'.sendFtbl p b 1 0 (d.ringWords p).1).sendFtbl p b 1 1 (d.ringWords p).2
        else d'
      forL diff (fun i d' => d'.sendFtbl p b 0 i (word i)) d') d'
    d'.flipReady

/-- A sweep of the drain check begins: FSWEEP to every panel that takes part (R151, R229). -/
def Dev.startSweep (d : Dev) (n : Nat) (who : List Nat) : Dev :=
  let old := d.f (pgTUB 0) TUB_FEPOCH_OLD
  let d : Dev := { d with fab := { d.fab with sweep := n, sweepLeft := who, askedAt := d.gt, dirty := d.fab.dirty && n ≠ 1 } }
  forL who (fun p d => d.sendMsg p (msgWord 0x23 0 ((n - 1) * 2 + old))) d

/-- The flip is over: REMAPDONE to those whose remap it carried; a recomputation that waits begins. -/
def Dev.fabFlipDone (d : Dev) : Dev :=
  let t := pgTUB 0
  let d := ((d.setf t TUB_FEPOCH_STATE 0).addWrap t TUB_FEPOCH_FLIPS).ev t EV_TUB_FLIPDONE
  let done := d.fab.serving
  let d : Dev := { d with fab := { d.fab with sweep := 0, serving := [] } }
  let d := forL done (fun m d => d.sendMsg m.src (msgWord 0x0D m.job (m.l * 2 ^ 12))) d
  if d.fab.again then d.prepareFlip else d

/-- Every panel has acknowledged: draining begins. -/
def Dev.flipAcked (d : Dev) (who : List Nat) : Dev :=
  if d.f (pgTUB 0) TUB_FEPOCH_STATE = 1 ∧ d.fab.flipLeft = [] then
    (d.setf (pgTUB 0) TUB_FEPOCH_STATE 2).startSweep 1 who
  else d

/-- Every panel has answered the sweep: the second one, the end, or both again. -/
def Dev.sweepAnswered (d : Dev) (who : List Nat) : Dev :=
  if d.f (pgTUB 0) TUB_FEPOCH_STATE ≠ 2 ∨ d.fab.sweepLeft ≠ [] then d
  else if d.fab.sweep = 1 then d.startSweep 2 who
  else if d.fab.dirty then d.startSweep 1 who
  else d.fabFlipDone

/-- The panels that take part in the flip. -/
def Dev.flipWho (d : Dev) : List Nat := d.panels.filter (fun p => !d.fab.dropped.contains p)

/-- A panel leaves the flip and the sweeps (R229). -/
def Dev.dropPanel (d : Dev) (p : Nat) : Dev :=
  let d : Dev := { d with fab := { d.fab with
    dropped := setIns d.fab.dropped p, flipLeft := d.fab.flipLeft.filter (· ≠ p), sweepLeft := d.fab.sweepLeft.filter (· ≠ p) } }
  if d.f (pgTUB 0) TUB_FEPOCH_STATE = 1 then d.flipAcked d.flipWho else d.sweepAnswered d.flipWho

/-- The reply to a message has come (R239): OK ends it. -/
def Dev.msgReply (d : Dev) (flow status : Nat) : Dev :=
  match d.fab.out.find? (fun m => m.id = flow) with
  | none => d
  | some m =>
    if status ≠ ST_OK then
      { d with fab := { d.fab with out := d.fab.out.map (fun x => if x.id = flow then { x with bad := true } else x) } }
    else
      let d : Dev := { d with fab := { d.fab with out := d.fab.out.filter (fun x => x.id ≠ flow) } }
      match fld m.w0 63 56 with
      | 0x21 => d.flipReady
      | 0x22 => { d with fab := { d.fab with flipLeft := d.fab.flipLeft.filter (· ≠ m.panel) } }.flipAcked d.flipWho
      | _ => d

end Sys2Proof.Machine
end

