-- ==== Sys2Proof/Machine/HostPort.lean ====
section
/-!
DEFINITION. A host port's register write (R21, R459 to R462): which writes are accepted, field by field, and what an
accepted one leaves in the register; MSI-X messages (R466, R467).
-/

namespace Sys2Proof.Machine

/-! Presence of pages (R21, R464). -/

/-- The endpoint of a page that goes absent with its die (R464); none: a page of the whorl die. -/
def pageEp (c : Cls) (n : Nat) : Option Nat :=
  match c with
  | .die => some n
  | .clu => some (dieOf n)
  | .rtr => if n < 184 then some n else none
  | .opt => if n < 184 then some n else none
  | .dbl => some (linkEps n).1
  | .mbd => some (112 + n)
  | .iod => some (168 + n)
  | .tubp => some (168 + (n - 1) / 2)
  | _ => none

/-- The block of a page is powered and in service (Table 16.4 PRESENT). -/
def Dev.pageOn (d : Dev) (c : Cls) (n : Nat) : Bool :=
  match pageEp c n with
  | some e => d.present e
  | none => true

/-! Ownership (R432). -/

/-- The port holds control. -/
def Dev.owns (d : Dev) (port : Nat) : Bool := d.f pgWHL WHL_OWN_OWNER = port + 1

/-- A host access can arrive on the port: the link is up and the BARs are assigned (R487, R488). -/
def Dev.hostUp (d : Dev) (port : Nat) : Bool := decide (port < 2) && (d.hp port).up && (d.hp port).memOn

/-- The address of a port's own copy of a register (R461). -/
def portCopy (r : RegDef) (port a : Nat) : Nat := if r.perPort then a + port * 2 ^ 32 else a

/-! Reserved codes (R460). -/

/-- A write that places a reserved code into a writable field of the register at an offset of a class. -/
def reservedCode (c : Cls) (o : Nat) (v : Word) : Bool :=
  match c, o with
  | .whl, 0x358 => (List.range 32).any (fun i => fld v (2 * i + 1) (2 * i) = 3)
  | .whl, 0x360 => (List.range 32).any (fun i => fld v (2 * i + 1) (2 * i) = 3)
  | .whl, 0x530 => decide (3 < fld v 59 56)
  | .whl, 0x548 => fld v 59 58 = 3 || fld v 57 56 = 3
  | .part, 0x630 => fld v 63 62 = 3
  | .part, 0x908 => fld v 9 8 = 3
  | .part, 0x910 => fld v 1 0 = 3
  | .skn, 0xE0 => decide (16 < fld v 4 0)
  | _, _ => false

/-- The RESULT field of a register that has one. -/
def resultFld (c : Cls) (o : Nat) : Option Fld :=
  match c, o with
  | .clu, 0x380 => some CLU_RST_RESULT
  | .part, 0x900 => some PART_STEP_RESULT
  | .part, 0x908 => some PART_RST_RESULT
  | .whl, 0x520 => some WHL_FUSECMD_RESULT
  | .whl, 0x548 => some WHL_OWN_RESULT
  | .whl, 0x610 => some WHL_KEYCMD_RESULT
  | .whl, 0x6B0 => some WHL_ATTCTL_RESULT
  | .skn, 0xD0 => some SKN_CMD_RESULT
  | .hnk, 0x88 => some HNK_PCTL_RESULT
  | _, _ => none

/-- RESULT of a register reads DENIED. -/
def Dev.deny (d : Dev) (c : Cls) (a o : Nat) : Dev :=
  match resultFld c o with
  | some f => d.setReg a (setFld (d.reg a) f.hi f.lo ST_DENIED)
  | none => d

/-! A write (R459, R460). -/

/-- A register of the configuration generation (Table 14.6), or one that writes the staged owner map. -/
def isStaged (a : Nat) : Bool :=
  match pageOf a with
  | (.whl, _, o) => decide (0x340 ≤ o ∧ o ≤ 0x360)
  | (.part, _, o) => decide ((0x400 ≤ o ∧ o ≤ 0x500) ∨ o = 0x600 ∨ o = 0x608 ∨ (0x700 ≤ o ∧ o ≤ 0x800) ∨ o = 0x910 ∨
      (0x940 ≤ o ∧ o < 0xA40))
  | (.clu, _, o) => o = 0x370
  | (.skn, _, o) => o = 0xE0
  | _ => false

/-- While a commit or a revert runs, writes of staged registers are discarded and set ERRC BUSY (R428). -/
def Dev.genHeld (d : Dev) (a : Nat) : Bool := isStaged a && d.f pgWHL WHL_GENCTL_STATE != 0

/-- What a host write comes to: the panel after it, the action bits accepted, and whether the register took it. -/
structure Wr where
  d : Dev
  acts : Word
  took : Bool

/-- A write that changes nothing. -/
def Wr.none (d : Dev) : Wr := ⟨d, 0, false⟩

/-- The fields of a register that a write reaches, one after another. -/
def Dev.writeFields (d : Dev) (port a : Nat) (r : RegDef) (v : Word) : Wr :=
  r.flds.foldl (fun (x : Wr) f =>
    let b := fld v f.hi f.lo
    let own := d.owns port
    let cur := x.d.reg a
    match f.acc with
    | .ro => x
    | .rw => ⟨x.d.setReg a (setFld cur f.hi f.lo b), x.acts, true⟩
    | .rwo | .wo => if own then ⟨x.d.setReg a (setFld cur f.hi f.lo b), x.acts, true⟩ else ⟨x.d.ev pgWHL EV_OWN_DENIED, x.acts, x.took⟩
    | .w1c => ⟨x.d.setReg a (setFld cur f.hi f.lo (fld cur f.hi f.lo &&& (2 ^ (f.hi + 1 - f.lo) - 1 - b))), setFld x.acts f.hi f.lo b, true⟩
    | .w1cAll => if b % 2 = 1 then ⟨x.d.setReg a (setFld cur f.hi f.lo f.rst), setFld x.acts f.lo f.lo 1, true⟩ else ⟨x.d, x.acts, true⟩
    | .w1s =>
      if (r.acc = .rwo ∨ r.acc = .wo) ∧ !own then (if b = 0 then x else ⟨x.d.ev pgWHL EV_OWN_DENIED, x.acts, x.took⟩)
      else ⟨x.d, setFld x.acts f.hi f.lo b, true⟩
    | .rwp =>
      if b = 0 then ⟨x.d, x.acts, true⟩
      else if d.sec.presence then ⟨x.d, setFld x.acts f.hi f.lo b, true⟩
      else
        let (c, _, o) := pageOf a
        ⟨(x.d.ev pgWHL EV_PRES_DENIED).deny c a o, x.acts, x.took⟩) (Wr.none d)

/-- A field that either port may write (Table 16.6). -/
def Acc.anyPort : Acc → Bool
  | .rw | .w1c | .w1cAll | .rwp => true
  | _ => false

/-- Nothing of the register can take a write from this port (R459, R460): it asks for ownership, and no field of it does not. -/
def Dev.shut (d : Dev) (port : Nat) (r : RegDef) : Bool :=
  (r.acc = .rwo || r.acc = .wo) && !d.owns port && !r.flds.any (fun f => f.acc.anyPort)

/-- The fields of the header registers (Table 16.2). -/
def hdrReg (o : Nat) (nev : Nat) : Option RegDef :=
  match o with
  | 0x10 => some ⟨0x10, 1, 8, false, .rwo, [⟨1, 1, .w1s, 0⟩, ⟨0, 0, .rwo, 0⟩]⟩
  | 0x20 => if nev = 0 then none else some ⟨0x20, 1, 8, false, .w1c, [⟨nev - 1, 0, .w1c, 0⟩]⟩
  | 0x28 => if nev = 0 then none else some ⟨0x28, 1, 8, false, .rwo, [⟨nev - 1, 0, .rwo, 0⟩]⟩
  | 0x30 => if nev = 0 then none else some ⟨0x30, 1, 8, false, .rwo, [⟨nev - 1, 0, .w1s, 0⟩]⟩
  | _ => none

/-- The register a write at an address reaches, if the page is there (R21, R453, R475); a 4-byte register is never written. -/
def Dev.regAt (d : Dev) (a : Nat) : Option RegDef :=
  let (c, n, o) := pageOf a
  if c = .none || !d.pageOn c n || (c = .rtr && n = 511) then none
  else if o < 0x80 then hdrReg o (nevt c n)
  else (regDef? c n o).map (·.1)

/-- A host write of eight bytes at a register (R459, R460, R462). On a frozen panel only WHL_PRST, WHL_OWN and the
per-port registers take writes (R463). -/
def Dev.hostWrite (d : Dev) (port a : Nat) (v : Word) : Wr :=
  if !d.hostUp port then .none d
  else
    match d.regAt a with
    | none => .none d
    | some r =>
      let (c, _, o) := pageOf a
      if d.frozen ∧ !(r.perPort || (c = .whl && (o = 0x540 || o = 0x548))) then .none d
      else
        let at_ := portCopy r port a
        if d.shut port r then .none (d.ev pgWHL EV_OWN_DENIED)
        else if d.genHeld a then .none (d.setf pgWHL WHL_GENCTL_ERRC 2)
        else if reservedCode c o v then .none (d.deny c at_ o)
        else d.writeFields port at_ r v

/-- Whether a register takes a write from a port, with the event of a refusal: for registers whose write does not simply
leave the value in place. -/
def Dev.hostMay (d : Dev) (port a : Nat) (v : Word) : Bool × Dev :=
  if !d.hostUp port then (false, d)
  else
    match d.regAt a with
    | none => (false, d)
    | some r =>
      let (c, _, o) := pageOf a
      if d.frozen ∧ !(r.perPort || (c = .whl && (o = 0x540 || o = 0x548))) then (false, d)
      else if (r.acc = .rwo ∨ r.acc = .wo) ∧ !d.owns port then (false, d.ev pgWHL EV_OWN_DENIED)
      else if d.genHeld a then (false, d.setf pgWHL WHL_GENCTL_ERRC 2)
      else if reservedCode c o v then (false, d.deny c a o)
      else (true, d)

/-- An accepted write, or nothing: `act` gets the panel and the action bits. -/
def Dev.onWrite (d : Dev) (port a : Nat) (v : Word) (act : Dev → Word → Dev) : Dev :=
  let w := d.hostWrite port a v
  if w.took then act w.d w.acts else w.d

/-- A one-bit word. -/
def wbit (i : Nat) : Word := BitVec.ofNat 64 (2 ^ i)

/-! MSI-X (R466, R467). -/

/-- A port's copy of a per-port WHL register word. -/
def portReg (port o : Nat) : Nat := port * 2 ^ 32 + o

/-- Send an MSI-X message on a port: masked, it is pending; with the link down or MSI-X disabled it is not sent. -/
def Dev.msix (d : Dev) (port v : Nat) : Dev :=
  let h := d.hp port
  if !h.up ∨ !h.msixOn then d
  else if h.unmasked.contains v then d.updHp port (fun h => { h with sent := v :: h.sent })
  else d.updHp port (fun h => { h with pba := setIns h.pba v })

end Sys2Proof.Machine
end

