-- ==== Sys2Proof/Machine/Areas.lean ====
section
/-!
DEFINITION. Winder areas as memory holds them (R270, R271): headers, the writes they refuse, arming and disarming.
-/

namespace Sys2Proof.Machine

/-! Headers (Table 9.8). -/

/-- A field of word k of an area's header. -/
def Dev.hw (d : Dev) (key k hi lo : Nat) : Nat := fld (d.word64 (key + 8 * k)) hi lo

/-- KIND, MODE and sizes of an area. -/
def Dev.aKind (d : Dev) (key : Nat) : Nat := d.hw key 0 51 50
/-- Bytes of an element. -/
def Dev.aSize (d : Dev) (key : Nat) : Nat := if d.aKind key = 2 then 48 else 24
/-- Elements of an area. -/
def Dev.aNelem (d : Dev) (key : Nat) : Nat := d.hw key 0 43 24

/-- The store of a winder: key of its first byte and its length. -/
def winderStore (e c : Nat) : Nat × Nat :=
  if e < 112 then (csKey (e * 8 + c) 0, STORE_END) else (wsKey (e - 112) 0, 12 * 2 ^ 20)

/-- The output formats of MODE FINAL. -/
def finalFmt (f : Nat) : Bool := [0, 1, 8, 9, 10, 11].contains f

/-- A header at `key`, offset `off` of a store of `size` bytes, passes the checks of R271. -/
def Dev.headerGood (d : Dev) (key off size : Nat) : Bool :=
  let w (k hi lo : Nat) : Nat := d.hw key k hi lo
  let mode := w 0 49 48
  !(w 0 51 50 = 3 || mode = 3 || w 0 61 52 ≠ 0 || w 0 23 0 ≠ 0 || w 0 43 24 = 0 || w 1 31 0 ≠ 0 || w 1 63 32 = 0 ||
    w 2 30 16 ≠ 0 || (mode = 2 && w 3 28 24 ≠ 0) || w 4 57 48 ≠ 0 || w 5 63 16 ≠ 0 || w 6 63 0 ≠ 0 || w 7 63 0 ≠ 0 ||
    decide (size < off + 64 + d.aNelem key * d.aSize key) ||
    (mode = 1 && w 0 51 50 ≠ 2 && !finalFmt (w 4 63 60)))

/-- The record of an area by its store key. -/
def Dev.area (d : Dev) (key : Nat) : Option Area := d.areas.find? (fun a => a.key = key)
/-- Change an area's record. -/
def Dev.updArea (d : Dev) (key : Nat) (f : Area → Area) : Dev :=
  { d with areas := d.areas.map (fun a => if a.key = key then f a else a) }

/-- Whether an area refuses writes: OPEN or FINAL. -/
def Dev.areaShut (d : Dev) (a : Area) : Bool := d.hdr a.key 61 60 = 1 || d.hdr a.key 61 60 = 2

/-! Writes that meet areas (R271). -/

/-- A write of `bs` at key `k` reaches the bytes of an area. -/
def Dev.areaHit (d : Dev) (a : Area) (k n : Nat) : Bool :=
  decide (k < a.key + 64 + d.aNelem a.key * d.aSize a.key ∧ a.key < k + n)

/-- A write that writes word 0 of an area with ARM = 0. -/
def disarms (key k : Nat) (bs : List Byte) : Bool :=
  decide (k ≤ key ∧ key + 8 ≤ k + bs.length) && !((bs.getD (key + 7 - k) 0).getLsbD 7)

/-- A write is refused by an OPEN or FINAL area it reaches. -/
def Dev.areaRefuses (d : Dev) (k : Nat) (bs : List Byte) : Bool :=
  d.areas.any (fun a => d.areaShut a && d.areaHit a k bs.length && !disarms a.key k bs)

/-- The header keys that a write arms: word 0 at each 64-byte boundary whose ARM bit it writes as 1, ascending. -/
def armKeys (base k : Nat) (bs : List Byte) : List Nat :=
  let first := (k - base) / 64
  (List.range (bs.length / 64 + 2)).filterMap (fun i =>
    let h := base + (first + i) * 64
    if k ≤ h + 7 ∧ h + 7 < k + bs.length ∧ (bs.getD (h + 7 - k) 0).getLsbD 7 then some h else none)

/-- Arm one area at key `h` of the winder (e, c). A header that fails the checks is left IDLE with ARM 0 and STATUS DENIED, and
the write answers DENIED; in a cluster store, where no area is or was at `h`, such a word is plain data (log entry 27). -/
def Dev.arm (d : Dev) (e c h : Nat) : Bool × Dev :=
  let (base, size) := winderStore e c
  let rest (l : List Area) : List Area := l.filter (fun a => a.key ≠ h)
  if d.headerGood h (h - base) size then
    let d := (d.setHdr h 61 60 1).setHdr h 23 0 0
    (true, { d with
      areas := rest d.areas ++
        [{ key := h, e := e, c := c, off := h - base, armedAt := d.gt, zeroing := decide (d.hw h 0 62 62 = 1),
           heldPkts := [], complete := [], outStatus := ST_OK, sent := false }],
      idleAreas := setDel d.idleAreas h })
  else if e < 112 ∧ (d.area h).isNone then (true, d)
  else
    let d := ((d.setHdr h 63 63 0).setHdr h 61 60 0).setHdr h 59 56 ST_DENIED
    (false, { d with areas := rest d.areas, idleAreas := setIns d.idleAreas h })

/-- A write into a winder's store, by whatever path: refused, or applied with what it disarms and arms. The answer is the
write's status. -/
def Dev.winderWrite (d : Dev) (e c k : Nat) (bs : List Byte) (px : List Nat) : Nat × Dev :=
  if d.areaRefuses k bs then (ST_DENIED, d)
  else
    let merges := d.mergesPoison k bs.length
    let off := d.areas.filter (fun a => disarms a.key k bs)
    let d := d.store k bs px
    let d := d.areasIdle (fun a => off.any (fun b => b.key = a.key))
    let d := forL off (fun a d => d.setHdr a.key 61 60 0) d
    let hs := armKeys (winderStore e c).1 k bs
    let (ok, d) := hs.foldl (fun (x : Bool × Dev) h =>
      let (g, d) := x.2.arm e c h
      (x.1 && g, d)) (true, d)
    (if !ok then ST_DENIED else if merges then ST_POISONED else ST_OK, d)

end Sys2Proof.Machine
end

