-- ==== Sys2Proof/Machine/Digest.lean ====
section
/-!
DEFINITION. The mixing functions and digests of ply checking and of step replay (R285, R290, R332), and the residues
of the residue checker (R294).
-/

namespace Sys2Proof.Machine

/-- mix of R285, arithmetic modulo 2^64. -/
def mix (a0 b0 : Word) : Word :=
  let (a, b) := (List.range 4).foldl (fun (ab : Word × Word) i =>
    let a := ab.1 + ab.2 + BitVec.ofNat 64 i
    let a := (a ^^^ (a >>> 31)) * 0xB5A73C19E24D8F63#64
    let b := (ab.2 ^^^ rotl64 a 23) * 0x6E1FD40397C82A5B#64
    (a, b ^^^ (b >>> 29))) (a0, b0)
  a ^^^ b

/-- plymix of R285. -/
def plymix (step tile lc salt : Nat) : Word :=
  mix (BitVec.ofNat 64 step ^^^ 0x5D2AE7C4913B60F9#64)
    (BitVec.ofNat 64 (tile * 2 ^ 40) ||| BitVec.ofNat 64 (lc * 2 ^ 8) ||| BitVec.ofNat 64 salt)

/-- Two 64-bit halves. -/
def cat128 (hi lo : Word) : BitVec 128 := BitVec.ofNat 128 (hi.toNat * 2 ^ 64 + lo.toNat)

/-- The contribution of one element to the tile digest (R290). -/
def tdigElem (e : Nat) (a : BitVec 96) (spec : BitVec 2) (l : Int) : BitVec 128 :=
  let w0 : Word := BitVec.ofNat 64 a.toNat
  let w1 : Word := BitVec.ofNat 64 (e * 2 ^ 48 + wrap 12 l * 2 ^ 36 + spec.toNat * 2 ^ 32 + a.toNat / 2 ^ 64)
  cat128 (mix (w0 ^^^ 0xC4E91D07A53F8B26#64) w1) (mix w0 w1)

/-- The tile digest of an accumulator set (R290). -/
def tdig (s : AccSet) : BitVec 128 :=
  forN s.m (fun r d => forN s.n (fun c d =>
    let e := r * 256 + c
    d + tdigElem e (SMap.get 0 s.a e) (SMap.get 0 s.spec e) s.l) d) 0

/-- sline of R332: `a` and `m` as formed there, `w` the eight words of the line image. -/
def sline (a m : Word) (w : List Word) : BitVec 128 :=
  let (u, v) := (List.range 8).foldl (fun (uv : Word × Word) i =>
    let x := w.getD i 0
    (mix (uv.1 ^^^ x) (BitVec.ofNat 64 i), mix (uv.2 ^^^ x) (BitVec.ofNat 64 (i + 8))))
    (mix a m, mix (a ^^^ 0x93C467E10B5DA28F#64) m)
  cat128 u v

/-- The words of a line image with `bs` at byte `o` of the line, other bytes zero. -/
def lineWords (o : Nat) (bs : List Byte) : List Word :=
  let l := List.replicate o (0 : Byte) ++ bs
  (List.range 8).map (fun i => BitVec.ofNat 64 (leNat ((l.drop (8 * i)).take 8)))

/-- The digest of a store of bytes at an address: one sline for each 64-byte line it touches (R332). -/
def digStore (addr : Nat) (bs : List Byte) (px : List Nat) : BitVec 128 :=
  if bs.length = 0 then 0
  else
    let l0 := addr / 64
    let l1 := (addr + bs.length - 1) / 64
    forN (l1 - l0 + 1) (fun i d =>
      let line := l0 + i
      let lo := if addr < line * 64 then line * 64 - addr else 0      -- first byte of the store in this line
      let o := addr + lo - line * 64
      let n := min (64 - o) (bs.length - lo)
      let seg := slice bs lo n
      let bad := px.any (fun x => decide (lo ≤ x ∧ x < lo + n))
      let mask := (2 ^ n - 1) * 2 ^ o
      d + sline (BitVec.ofNat 64 (line * 64 + b2n bad)) (BitVec.ofNat 64 mask) (lineWords o seg)) 0

/-- The digest of an ATOM (R332). -/
def digAtom (addr aop : Nat) (v v2 : Word) : BitVec 128 :=
  let line := addr / 64 * 64
  let n := if aop = 0xA then 16 else 8
  sline (BitVec.ofNat 64 (line + 2 + aop * 4)) (BitVec.ofNat 64 ((2 ^ n - 1) * 2 ^ (addr % 64))) [v, v2]

/-- C_e of an element (R294): Σ wrap80(t) mod 65,535 of its finite terms. -/
def residueC (l : Int) (ps : List Num) : Nat :=
  ps.foldl (fun a p => (a + (wrap80 (termAt l p) % 65535).toNat) % 65535) 0

/-- Q_e of an element (R294). -/
def residueQ (sum : Int) : Nat := (sum % 65535).toNat

end Sys2Proof.Machine
end

