-- ==== Sys2Proof/Machine/Operands.lean ====
section
/-!
DEFINITION. The fields of a sequencer command and the faults a command takes before it has any effect
(R47, R48, Tables 2.6 to 2.10, 2.13).
-/

namespace Sys2Proof.Machine

/-! Fields (Table 2.6). -/
/-- OPC. -/
def opcOf (w : Cmd) : Nat := fld w 127 120
/-- SYNC. -/
def syncOf (w : Cmd) : Bool := bit w 119
/-- SIG. -/
def sigOf (w : Cmd) : Bool := bit w 118
/-- SLOT. -/
def slotOf (w : Cmd) : Nat := fld w 117 112
/-- A signed field. -/
def sfld (w : Cmd) (hi lo : Nat) : Int := sgn (hi + 1 - lo) (fld w hi lo)

/-- Fault codes (Table 2.13). -/
abbrev F_ILLEGAL_OPC : Nat := 1
abbrev F_RESERVED_SET : Nat := 2
abbrev F_LOOP_DEPTH : Nat := 3
abbrev F_LOOP_NEST : Nat := 4
abbrev F_LOOP_RET : Nat := 5
abbrev F_CALL_DEPTH : Nat := 6
abbrev F_RET_EMPTY : Nat := 7
abbrev F_STORE_RANGE : Nat := 8
abbrev F_ALIGN : Nat := 9
abbrev F_FORMAT : Nat := 10
abbrev F_SKEIN_STATUS : Nat := 11
abbrev F_POISON : Nat := 12

/-- The opcodes of Table 2.7. -/
def assignedOpc (o : Nat) : Bool :=
  [0x00, 0x01, 0x02, 0x03, 0x04, 0x05, 0x08, 0x10, 0x11, 0x12, 0x16, 0x17, 0x18, 0x20, 0x21, 0x30, 0x31, 0x40, 0x42,
   0x43, 0x44, 0x50, 0x51, 0x52, 0x53, 0x54, 0x60, 0x61, 0x62, 0x70].contains o

/-- Bits [n − 1:0] of a command are reserved, n by opcode (Tables 2.8 to 2.10). -/
def resLow (o : Nat) : Nat :=
  match o with
  | 0x00 | 0x01 | 0x04 => 112
  | 0x02 | 0x03 => 85
  | 0x05 => 59
  | 0x08 => 67
  | 0x10 => 44
  | 0x11 => 72
  | 0x12 => 96
  | 0x16 | 0x17 => 80
  | 0x18 => 104
  | 0x20 => 74
  | 0x21 => 32
  | 0x30 => 106
  | 0x31 => 109
  | 0x40 => 20
  | 0x42 => 74
  | 0x43 => 82
  | 0x44 => 107
  | 0x50 | 0x51 => 99
  | 0x52 => 86
  | 0x53 => 97
  | 0x54 => 100
  | 0x60 | 0x61 => 78
  | 0x62 => 94
  | _ => 108

/-- A reserved operation selector (R48: ALU FUNC, VOP VOPC, VFN FN, VRED KIND). -/
def badSelector (w : Cmd) : Bool :=
  match opcOf w with
  | 0x12 => decide (10 < fld w 99 96)
  | 0x52 => decide (10 < fld w 111 106)
  | 0x53 => decide (11 < fld w 111 107)
  | 0x54 => decide (fld w 111 110 = 3)
  | _ => false

/-- A non-zero reserved field, or a value a field gives no meaning to (R48). -/
def badField (w : Cmd) : Bool :=
  decide (0 < fld w (resLow (opcOf w) - 1) 0) ||
  match opcOf w with
  | 0x02 => decide (fld w 111 109 = 6)
  | 0x03 => decide (0 < fld w 111 101)
  | 0x08 => !([0, 1, 4, 5].contains (fld w 111 109))
  | 0x18 => decide (5 < fld w 107 104)
  | 0x21 => decide (5 < fld w 111 108) || (bit w 32 && fld w 111 108 != 1 && fld w 111 108 != 5)
  | 0x40 => decide (4 < fld w 103 101) || decide (4 < fld w 96 94)
  | 0x43 => decide (fld w 110 109 = 3) || (decide (0 < fld w 100 98) && !isCD (fld w 108 101))
  | 0x44 => decide (fld w 111 110 = 3)
  | 0x52 => decide (fld w 111 106 = 10) && bit w 95
  | 0x62 => decide (10 < fld w 103 100) || (decide (fld w 103 100 = 1) && decide (fld w 107 104 = 15))
  | _ => false

/-- Format codes a TMMA accepts as operands (Table 2.3). -/
def isOperandFmt (c : Nat) : Bool := decide (c ≤ 9)

/-- The format rules of R37 and R74 for TMMA, of Table 2.8 for TDRAIN, of Table 2.10 for VLD and VST.
`n` is the number of valid columns of the pass a TDRAIN reads. -/
def badFormat (w : Cmd) (n : Nat) : Bool :=
  match opcOf w with
  | 0x40 =>
    let a := fld w 111 108
    let b := fld w 107 104
    let mx := isMX a || isMX b
    !isOperandFmt a || !isOperandFmt b || ((a = 7) != (b = 7)) ||
    (mx && decide ((fld w 88 73 + 1) % 32 ≠ 0)) ||
    (bit w 32 && !(isMX a && isMX b && decide (fld w 103 101 < 4) && decide (fld w 96 94 < 4)))
  | 0x42 =>
    let f := fld w 110 107
    f = 7 || decide (11 < f) || (isMX f && decide (n % 32 ≠ 0))
  | 0x50 | 0x51 => !([0, 1, 8, 9, 10].contains (fld w 102 99))
  | _ => false

/-- Registers a command reads (R56). -/
def readsOf (w : Cmd) : List Nat :=
  match opcOf w with
  | 0x02 => [fld w 108 105, fld w 104 101]
  | 0x05 => fld w 78 75 :: (if bit w 111 then [fld w 110 107] else [])
  | 0x08 => [fld w 102 99]
  | 0x11 | 0x16 => [fld w 107 104]
  | 0x12 => [fld w 107 104, fld w 103 100]
  | 0x17 => [fld w 111 108, fld w 107 104]
  | 0x21 => if bit w 97 then [] else [fld w 101 98]
  | 0x30 => [fld w 109 106]
  | 0x40 => (if fld w 103 101 = 4 then [fld w 100 97] else []) ++ (if fld w 96 94 = 4 then [fld w 93 90] else [])
  | 0x42 => [fld w 89 86, fld w 85 82, fld w 81 78, fld w 77 74]
  | 0x43 => [fld w 85 82]
  | 0x50 | 0x51 => [fld w 106 103]
  | 0x52 => if fld w 111 106 = 10 then [fld w 94 91] else []
  | 0x60 | 0x61 => [fld w 111 108, fld w 107 104]
  | 0x62 => [fld w 111 108, fld w 107 104] ++ (if fld w 103 100 = 1 then [fld w 107 104 + 1] else [])
  | 0x70 => [fld w 111 108]
  | _ => []

/-- The unit a command is queued to (Table 2.7); none: executed by the sequencer at issue. -/
def unitOf (w : Cmd) : Option UnitK :=
  match opcOf w with
  | 0x40 | 0x42 | 0x43 | 0x44 => some .tensor
  | 0x50 | 0x51 | 0x52 | 0x53 | 0x54 => some .vector
  | 0x30 | 0x31 => some .draft
  | 0x21 | 0x60 | 0x61 | 0x62 => some .net
  | _ => none

/-- Queue depths (R55); the sequencer holds one BSK. -/
def depthOf : UnitK → Nat
  | .tensor => 4
  | .vector => 8
  | .draft => 4
  | .net => 32
  | .seq => 1


/-- An integer register; I0 reads zero (R50). -/
def Seq.ireg (s : Seq) (n : Nat) : Word := if n = 0 then 0 else SMap.get 0 s.iregs n
/-- Write an integer register; writes of I0 are ignored (R50). -/
def Seq.setIreg (s : Seq) (n : Nat) (v : Word) : Seq := if n = 0 then s else { s with iregs := SMap.set 0 s.iregs n v }

/-- Bytes of a VLD or VST element of a format. -/
def vbytes (f : Nat) : Nat := if f = 10 then 4 else if f = 8 ∨ f = 9 then 2 else 1

/-- Bytes of one FEED pass of an operand held in store: element area and scale area (R50, R103). -/
def passBytes (fmt k lanes : Nat) : Nat × Nat :=
  (cdiv (cdiv (k * lanes * fmtBits fmt) 8) 64 * 64, if isMX fmt then cdiv (k / 32 * lanes) 64 * 64 else 0)

/-- STORE_RANGE and ALIGN of the store operands of a command, with its registers as read at issue. -/
def storeFault (w : Cmd) (s : Seq) : Option Nat :=
  let chk (range align : Bool) : Option Nat := if range then some F_STORE_RANGE else if align then some F_ALIGN else none
  match opcOf w with
  | 0x16 | 0x17 =>
    let off := sfld w 103 80
    let a := wrap 64 ((s.ireg (fld w 107 104)).toNat + off)
    chk (STORE_END < a + 8) (a % 8 ≠ 0 ∨ off % 8 ≠ 0)
  | 0x40 =>
    let k := fld w 88 73 + 1
    let one (src reg fmt lanes : Nat) : Bool × Bool :=
      if src = 4 then
        let a := (s.ireg reg).toNat
        let (e, c) := passBytes fmt k lanes
        (decide (STORE_END < a + e + c), decide (a % 64 ≠ 0))
      else (false, false)
    let x := one (fld w 103 101) (fld w 100 97) (fld w 111 108) 128
    let y := one (fld w 96 94) (fld w 93 90) (fld w 107 104) 256
    chk (x.1 || y.1) (x.2 || y.2)
  | 0x50 | 0x51 => chk (STORE_END < (s.ireg (fld w 106 103)).toNat + 512 * vbytes (fld w 102 99)) false
  | 0x60 | 0x61 => chk (STORE_END < (s.ireg (fld w 111 108)).toNat + fld w 103 84 + 1) false
  | 0x62 => chk false ((s.ireg (fld w 111 108)).toNat % (if fld w 103 100 = 10 then 16 else 8) ≠ 0)
  | 0x70 =>
    let a := (s.ireg (fld w 111 108)).toNat
    chk (STORE_END < a + 32) (a % 32 ≠ 0)
  | _ => none

/-- Control faults of codes 3 to 7 (R58). A LOOP at four open levels faults whatever its count (log entry 124). -/
def controlFault (w : Cmd) (s : Seq) : Option Nat :=
  match opcOf w with
  | 0x03 => if 8 ≤ s.calls.length then some F_CALL_DEPTH else none
  | 0x04 =>
    match s.loops with
    | l :: _ => if l.depth = s.calls.length ∧ 0 < s.calls.length then some F_LOOP_RET
        else if s.calls.length = 0 then some F_RET_EMPTY else none
    | [] => if s.calls.length = 0 then some F_RET_EMPTY else none
  | 0x05 =>
    let body := fld w 90 79
    if 4 ≤ s.loops.length then some F_LOOP_DEPTH
    else if body = 0 then some F_LOOP_NEST
    else match s.loops with
      | l :: _ => if l.depth = s.calls.length ∧ l.last < s.pc + body then some F_LOOP_NEST else none
      | [] => none
  | _ => none

/-- The lowest of several fault codes (R48). -/
def firstFault (fs : List (Option Nat)) : Option Nat :=
  fs.foldl (fun a f => match a, f with
    | some x, some y => some (min x y)
    | none, y => y
    | x, none => x) none

/-- The fault of codes 1 to 10 that a command takes; `n`: valid columns of the pass a TDRAIN reads (R48). -/
def commandFault (w : Cmd) (s : Seq) (n : Nat) : Option Nat :=
  if !assignedOpc (opcOf w) then some F_ILLEGAL_OPC
  else if badSelector w then some F_ILLEGAL_OPC
  else if badField w then some F_RESERVED_SET
  else firstFault [controlFault w s, storeFault w s, if badFormat w n then some F_FORMAT else none]

end Sys2Proof.Machine
end

