-- ==== Sys2Proof/Machine/ClusterIO.lean ====
section
/-!
DEFINITION. What a cluster reads, stores and signals: its own store, stores that leave it with translation, digest and
mirror copies (R120, R322, R332, R333), skein ADDs on its behalf (R47, R260), and a shadow's part in each (R335).
-/

namespace Sys2Proof.Machine

/-- A spliced cluster that follows its working cluster (R334, R335). -/
def Dev.shadowing (d : Dev) (p : Nat) : Bool :=
  d.pstate p = PS_SPLICE && decide (2 ≤ d.f (pgCLU p) CLU_SPL_STATE)

/-- The logical cluster a physical cluster computes for: a shadow's is TLC (Table 11.6). -/
def Dev.lcEff (d : Dev) (p : Nat) : Nat := if d.shadowing p then d.effF (pgCLU p) CLU_SPL_TLC else d.lcOf p

/-- The working cluster of a shadow; any other cluster is its own. -/
def Dev.working (d : Dev) (p : Nat) : Nat :=
  if d.shadowing p then (d.lcPhys (d.effF (pgCLU p) CLU_SPL_TLC)).getD p else p

/-- The partition a cluster computes for. -/
def Dev.partEff (d : Dev) (p : Nat) : Nat := d.partOf (d.working p)

/-- A partition whose panel shadows another panel (R338). -/
def Dev.panelShadow (d : Dev) (j : Nat) : Bool := d.f (pgPART j) PART_SPL_ROLE = 1

/-- Add to a cluster's running step digest (R332). -/
def Dev.addDig (d : Dev) (p : Nat) (x : BitVec 128) : Dev := d.updCl p (fun c => { c with sdig := c.sdig + x })

/-- Read `n` bytes of a cluster's store, with the positions of poisoned ones (R46). -/
def Dev.readStore (d : Dev) (p o n : Nat) : Got × Dev :=
  let d := d.cstCheck p o n
  ({ bytes := d.bytes (csKey p o) n, px := d.poisMap (csKey p o) n }, d)

/-- A store by the cluster into its own store, digested (R333). -/
def Dev.ownStore (d : Dev) (p o : Nat) (bs : List Byte) (px : List Nat) : Dev :=
  (d.winderWrite (dieOf p) (cOf p) (csKey p o) bs px).2.addDig p (digStore (ownSlot (d.lcEff p) + o) bs px)

/-- Mirror copies of a store at address `a` as issued (R322): into the buddy region of the entry whose name half holds it. -/
def Dev.mirrorCopy (d : Dev) (e c j parity typ sub : Nat) (a : Nat) (bs : List Byte) (px : List Nat) : Dev :=
  let q := d.pt j
  match q.mir.find? (fun e => decide ((SMap.get (0, 0) q.spr e.1).1 ≤ a ∧
      a < (SMap.get (0, 0) q.spr e.1).1 + 2 ^ (SMap.get (0, 0) q.spr e.1).2)) with
  | none => d
  | some (i, lp, db) =>
    if d.panelShadow j then d
    else
      let (b, h) := SMap.get (0, 0) q.spr i
      let t := lp * 2 ^ 52 + (db + (a - b) + 2 ^ h * parity) % 2 ^ 52
      let rs := if typ = T_WR then wrReqs t bs px
        else [{ addr := t, len := if sub = 0xA then 16 else 8, data := bs, sub := sub }]
      d.request e c (.mirror j) typ 15 0 true false none
        (rs.map (fun r => { r with tag := some (d.f (pgTUB 0) TUB_JOBp_TAG j) }))

/-- Whether a target resolves to another panel. -/
def Dev.offPanel (d : Dev) (a : Nat) : Bool :=
  decide (0 < a / 2 ^ 52) && (match d.pmap (a / 2 ^ 52) with
    | some q => q != d.self
    | none => false)

/-- The local form of a global address that names this panel (R189, R214); any other address as it is. -/
def Dev.here (d : Dev) (a : Nat) : Nat := if d.pmap (a / 2 ^ 52) = some d.self then a % 2 ^ 52 else a

/-- The store offset of a run of bytes that lies in the addressed part of the cluster's own slot (R50). -/
def Dev.ownAt (d : Dev) (p a n : Nat) : Option Nat :=
  let b := ownSlot (d.lcEff p)
  if d.lcEff p ≠ 0x3FF ∧ b ≤ d.here a ∧ d.here a + n ≤ b + STORE_END then some (d.here a - b) else none

/-- One contiguous run of bytes stored by cluster p to an issued address `a`, translated `a'`, for an owner (R121, R322, R332):
into its own store directly when `direct`, else as WR packets; a shadow's stores outside its own store are not sent. -/
def Dev.storeTo (d : Dev) (p : Nat) (own : Own) (parity csk : Nat) (port8 direct : Bool) (a a' : Nat) (bs : List Byte)
    (px : List Nat) : Dev :=
  let j := d.partEff p
  match (if direct then d.ownAt p a' bs.length else none) with
  | some o => d.ownStore p o bs px
  | none =>
    let rs := wrReqs a' bs px
    let d := d.addDig p (rs.foldl (fun x r => x + digStore r.addr r.data r.pois) 0)
    if d.shadowing p && (d.ownAt p a' bs.length).isNone then d
    else if d.panelShadow j && d.offPanel a' then d
    else
      let d := d.request (dieOf p) (cOf p) own T_WR j csk true port8 none rs
      d.mirrorCopy (dieOf p) (cOf p) j parity T_WR 0 a bs px

/-- The same, of an address to be translated at a parity, with the count of R120. -/
def Dev.storeRun (d : Dev) (p : Nat) (own : Own) (parity csk : Nat) (port8 direct : Bool) (a : Nat) (bs : List Byte)
    (px : List Nat) : Dev :=
  let (a', d) := d.xlatAddr p (d.partEff p) parity false a
  d.storeTo p own parity csk port8 direct a a' bs px

/-- The ADD that hardware performs on a skein for cluster p, and for its engine's FSK or RSK (R47, R52, R260);
a shadow sends none (Table 11.6). -/
def Dev.sigAdd (d : Dev) (p id delta : Nat) (eng : Option Nat) : Dev :=
  if d.shadowing p then d else d.hwAdd (dieOf p) (cOf p) (.hwAdd p eng) (d.partOf p) id delta

/-- CLU_SEQ_STATUS (Table 2.19). -/
def seqStatus (s : Seq) : Word :=
  let code : Nat := match s.st with
    | .idle => 0
    | .run => 1
    | .wait => 2
    | .fault => 3
    | .suspended => 4
  BitVec.ofNat 64 (s.last % 16 * 2 ^ 48 + s.fcode % 16 * 2 ^ 44 + s.calls.length % 16 * 2 ^ 40 +
    s.loops.length % 8 * 2 ^ 37 + s.pc % 2 ^ 21 * 2 ^ 11 + code)

/-- The sequencer faults at `pc` on command `w` (R60); the step fails with FAULT (R313). -/
def Dev.seqFault (d : Dev) (p code pc : Nat) (w : Cmd) : Dev :=
  let d := d.updSeq p (fun s => { s with st := .fault, fcode := code, pc := pc, held := none, waitId := none })
  let pg := pgCLU p
  let d := d.logRec pg EV_SEQ_FAULT [BitVec.ofNat 64 w.toNat, BitVec.ofNat 64 (w.toNat / 2 ^ 64), seqStatus (d.cl p).seq, 0]
  let d := d.ev pg EV_SEQ_FAULT
  if d.pstate p = PS_MAPPED then d.stepFail (d.partOf p) FC_FAULT (code = F_POISON) (unitWord U_CLUSTER p) pg else d

/-! The issue throttle (R379, R384). -/

/-- CLU_THROTTLE of a cluster: n = min(ncap, nhot, nramp), and what sets it. -/
def Dev.applyThrottle (d : Dev) (p : Nat) : Dev :=
  let c := d.cl p
  let a := min (d.f (pgHNK (hankOf (dieOf p))) HNK_BUDGET_NCAP) c.nramp
  let src := if 16 ≤ min a c.nhot then 0 else if a < c.nhot then 1 else if c.nhot < a then 2 else 3
  (d.setf (pgCLU p) CLU_THROTTLE_N (min a c.nhot)).setf (pgCLU p) CLU_THROTTLE_SRC src

/-- The start and length of segment i of a notice, GT counts, and its LOAD (Table 13.4). -/
def Notice.seg (n : Notice) (i : Nat) : Nat × Nat × Nat :=
  let w (i hi lo : Nat) : Nat := fld (n.ws.getD (2 + i / 2) 0) (32 * (i % 2) + hi) (32 * (i % 2) + lo)
  ((n.ws.getD 1 0).toNat + 1000 * (List.range i).foldl (fun a k => a + w k 23 0) 0, 1000 * w i 23 0, w i 31 27)

/-- A moment is covered by a segment of the notice with LOAD ≥ 1. -/
def Notice.covers (n : Notice) (gt : Nat) : Bool :=
  (List.range (fld (n.ws.getD 0 0) 59 58 + 1)).any (fun i =>
    let (t, len, load) := n.seg i
    decide (t ≤ gt ∧ gt < t + len ∧ 1 ≤ load))

/-- The issue ramp at the start of a tensor pass (R384): 4 after 2 µs without issue, unless a notice covers the moment. -/
def Dev.rampStart (d : Dev) (p : Nat) : Dev :=
  let c := d.cl p
  if c.notices.any (fun n => n.covers (d.gtAt (dieOf p))) then (d.updCl p (fun c => { c with nramp := 16 })).applyThrottle p
  else if c.tensAt + 8000 ≤ d.gt then (d.updCl p (fun c => { c with nramp := 4, rampAt := d.gt })).applyThrottle p
  else d

end Sys2Proof.Machine
end

