-- ==== Sys2Proof/Machine/Draft.lean ====
section
/-!
DEFINITION. Draft engines (chapter 04): descriptor checks, the address walk, transforms and slot layout, reads,
releases, pre-scan, rewind, stop, and the meanings of the draft engine's events.
-/

namespace Sys2Proof.Machine

/-! Descriptor fields (Table 4.1). -/

/-- A field of a descriptor word. -/
def Draft.fd (e : Draft) (k hi lo : Nat) : Nat := fld (e.desc.getD k 0) hi lo
/-- FEED mode. -/
def Draft.feed (e : Draft) : Bool := e.fd 0 59 59 = 1
/-- Transpose. -/
def Draft.xpose (e : Draft) : Bool := e.fd 0 57 57 = 1
/-- MX unpack. -/
def Draft.mxu (e : Draft) : Bool := e.fd 0 56 56 = 1
/-- Scale pre-scan. -/
def Draft.scanOn (e : Draft) : Bool := e.fd 0 53 53 = 1
/-- COPY ring. -/
def Draft.ring (e : Draft) : Bool := e.fd 0 52 52 = 1
/-- Format code. -/
def Draft.fmt (e : Draft) : Nat := e.fd 0 50 47
/-- Walk dimensions. -/
def Draft.ndim (e : Draft) : Nat := e.fd 0 44 42
/-- Gathered dimension. -/
def Draft.gdim (e : Draft) : Nat := e.fd 0 41 39
/-- Lanes of a transpose group. -/
def Draft.lanes (e : Draft) : Nat := e.fd 0 38 31 + 1
/-- Slots or chunks of the ring. -/
def Draft.depth (e : Draft) : Nat := e.fd 0 30 25 + 1
/-- k-steps of a slot. -/
def Draft.kt (e : Draft) : Nat := e.fd 1 27 16 + 1
/-- k-steps of a pass. -/
def Draft.passk (e : Draft) : Nat := e.fd 1 15 0 + 1
/-- Slots of a pass (R110). -/
def Draft.spp (e : Draft) : Nat := e.passk / e.kt
/-- Ring base of a FEED engine. -/
def Draft.rbase (e : Draft) : Nat := e.fd 3 24 0
/-- Bytes of a walk point. -/
def Draft.run (e : Draft) : Nat := e.fd 4 63 48 + 1
/-- log2 of the COPY chunk. -/
def Draft.chlog2 (e : Draft) : Nat := e.fd 5 63 58
/-- Fill, release and completion skeins. -/
def Draft.fsk (e : Draft) : Nat := e.fd 6 63 32
/-- Release skein. -/
def Draft.rsk (e : Draft) : Nat := e.fd 6 31 0
/-- Count of dimension n. -/
def Draft.count (e : Draft) (n : Nat) : Nat := if n < e.ndim then e.fd (9 + n) 63 40 else 1
/-- Stride of dimension n. -/
def Draft.stride (e : Draft) (n : Nat) : Int := sgn 40 (e.fd (9 + n) 39 0)
/-- Walk points of the descriptor. -/
def Draft.points (e : Draft) : Nat := (List.range 6).foldl (fun a n => a * e.count n) 1
/-- Bits of an output element: FEED by format, COPY by ESZ. -/
def Draft.ebits (e : Draft) : Nat := if e.feed then fmtBits e.fmt else 8 * 2 ^ e.fd 0 46 45
/-- Elements of a run (R101, R102). -/
def Draft.elems (e : Draft) : Nat := if e.mxu then e.run / recordBytes e.fmt * 32 else e.run * 8 / e.ebits
/-- Output bytes of one run. -/
def Draft.runOut (e : Draft) : Nat := if e.mxu then e.elems * e.ebits / 8 else e.run
/-- Element bytes of one slot, unpadded; of one chunk in COPY; the whole walk where CHLOG2 is 0. -/
def Draft.slotBytes (e : Draft) : Nat :=
  if e.feed then e.kt * e.lanes * fmtBits e.fmt / 8
  else if e.chlog2 = 0 then max 1 (e.points * e.run) else 2 ^ e.chlog2
/-- The element area of a slot (R103). -/
def Draft.elArea (e : Draft) : Nat := cdiv (e.kt * e.lanes * fmtBits e.fmt / 8) 64 * 64
/-- The scale area of a slot (R103). -/
def Draft.scArea (e : Draft) : Nat := if isMX e.fmt then cdiv (e.kt / 32 * e.lanes) 64 * 64 else 0
/-- SLOTB. -/
def Draft.slotb (e : Draft) : Nat := e.elArea + e.scArea
/-- Output bytes of the walk. -/
def Draft.total (e : Draft) : Nat := e.points * e.runOut
/-- Slots or chunks of the walk. -/
def Draft.slots (e : Draft) : Nat := cdiv e.total e.slotBytes

/-- A skein homed on a compute die (R98). -/
def homedOn (id die : Nat) : Bool := decide (id / 2 ^ 24 = die)

/-- The fault of Table 4.2 for a descriptor at offset `a`, read with poison flag `px`: the lowest (R48), but none beside POISON
where a word is poisoned; a descriptor beyond the store has no words (R98). -/
def Dev.descFault (d : Dev) (p a : Nat) (ws : List Word) (px : Bool) : Option Nat :=
  let e : Draft := { desc := ws }
  let die := dieOf (d.working p)
  let f := e.feed
  let mx := isMX e.fmt
  let range := decide (STORE_END < a + 128) || (f && decide (STORE_END < e.fd 3 24 0 + e.depth * e.slotb))
  let align := decide (a % 64 ≠ 0) || (f && decide (e.fd 3 24 0 % 64 ≠ 0)) || decide (e.fd 4 47 0 % 64 ≠ 0) ||
    decide (e.fd 5 47 0 % 64 ≠ 0)
  let z (k hi lo : Nat) : Bool := decide (e.fd k hi lo ≠ 0)
  let rsv := z 0 24 0 || z 1 63 28 || z 5 57 48 || z 8 31 0 || z 15 63 0 || (f && z 3 63 25) ||
    (List.range 6).any (fun n => decide (e.ndim ≤ n) && z (9 + n) 63 0) ||
    decide (e.fd 0 63 60 ≠ 1) || e.ndim = 0 || e.ndim = 7 || decide (e.ndim ≤ e.gdim) ||
    (List.range 6).any (fun n => decide (n < e.ndim) && decide (e.fd (9 + n) 63 40 = 0)) ||
    (z 5 63 58 && (decide (e.chlog2 < 12) || decide (30 < e.chlog2))) || (e.chlog2 = 0 && e.ring) ||
    (f && (z 0 46 45 || e.ring)) || (!f && (z 0 58 58 || z 1 27 0)) ||
    (f && decide (e.lanes ≠ if e.fd 0 58 58 = 0 then 128 else 256)) ||
    (f && (!homedOn e.fsk die || !homedOn e.rsk die)) || (!f && e.ring && !homedOn e.rsk die)
  let fmtBad := if f then
      decide (9 < e.fmt) || (mx && !(e.mxu && e.xpose)) || (!mx && e.mxu) || (e.scanOn && !e.mxu) ||
      (e.mxu && decide (e.run % recordBytes e.fmt ≠ 0)) || (mx && decide (e.kt % 32 ≠ 0)) ||
      decide (e.passk % e.kt ≠ 0) || (!e.mxu && decide (e.run * 8 % fmtBits e.fmt ≠ 0)) ||
      (e.xpose && decide (e.elems = 0 ∨ e.kt % e.elems ≠ 0)) ||
      decide (e.points * e.elems % (e.passk * e.lanes) ≠ 0)
    else e.mxu || e.scanOn || decide (e.fmt ≠ 0) || (e.xpose && decide (e.run % 2 ^ e.fd 0 46 45 ≠ 0))
  let in_ := decide (a + 128 ≤ STORE_END)
  if in_ && px then some F_POISON
  else firstFault [if range then some F_STORE_RANGE else none, if align then some F_ALIGN else none,
    if in_ && rsv then some F_RESERVED_SET else none, if in_ && fmtBad then some F_FORMAT else none]

/-! The walk (R99). -/

/-- Index of dimension n at a walk point. -/
def Draft.index (e : Draft) (t n : Nat) : Nat := t / ((List.range n).foldl (fun a m => a * e.count m) 1) % e.count n
/-- The index-list entry a point uses: its key is the point with the dimensions below GDIM left out. -/
def Draft.idxKey (e : Draft) (t : Nat) : Nat := t / ((List.range e.gdim).foldl (fun a m => a * e.count m) 1)
/-- GATH. -/
def Draft.gath (e : Draft) : Bool := e.fd 0 55 55 = 1

/-- The entry a gathered point uses was read and failed. -/
def Draft.idxBad (e : Draft) (t : Nat) : Bool :=
  e.gath && decide (0 < (SMap.get (⟨[], []⟩ : Got) e.idx (e.idxKey t)).px.length)

/-- The entry a gathered point uses has not been read. -/
def Draft.idxNone (e : Draft) (t : Nat) : Bool :=
  e.gath && decide ((SMap.get (⟨[], []⟩ : Got) e.idx (e.idxKey t)).bytes = [])

/-- The source of a walk point, its offset summed as int64; none for a point that is not read: skipped, or its entry failed. -/
def Draft.source (e : Draft) (t : Nat) : Option Nat :=
  let x := leNat (SMap.get (⟨[], []⟩ : Got) e.idx (e.idxKey t)).bytes
  if e.idxBad t ∨ (e.gath && decide (x = 0xFFFFFFFF)) then none
  else
    let off : Int := (List.range e.ndim).foldl (fun a n =>
      a + (if e.gath && n = e.gdim then (x : Int) else (e.index t n : Int)) * e.stride n) 0
    let off := sgn 64 (wrap 64 off)
    let sw : Int := e.fd 4 47 0
    some (wrap 64 (e.fd 2 63 0 + if sw = 0 then off else off % sw))

/-! The stream of runs, by byte position. It is read in pieces of at most 256 bytes of whole lines, cut at runs and at slots. -/

/-- Bytes of the walk's runs. -/
def Draft.inLen (e : Draft) : Nat := e.points * e.run
/-- The address of the byte at a position, as issued. -/
def Draft.addrAt (e : Draft) (q : Nat) : Option Nat := (e.source (q / e.run)).map (fun a => (a + q % e.run) % 2 ^ 64)
/-- Bytes of a transpose group's runs. -/
def Draft.groupLen (e : Draft) : Nat := e.lanes * e.run
/-- The output position of the byte at a position; with XPOSE, of its group. -/
def Draft.outAt (e : Draft) (q : Nat) : Nat := if e.xpose then q / e.groupLen * (e.lanes * e.runOut) else q
/-- The slot or chunk of the output stream that holds it. -/
def Draft.slotAt (e : Draft) (q : Nat) : Nat := e.outAt q / e.slotBytes
/-- Length of the piece that begins at a position. -/
def Draft.pieceLen (e : Draft) (q : Nat) : Nat :=
  let n := min (256 - ((e.addrAt q).getD 0) % 64) (e.run - q % e.run)
  if e.xpose then n else min n (e.slotBytes - q % e.slotBytes)
/-- Bytes of the runs of one pass (R110). -/
def Draft.passLen (e : Draft) : Nat :=
  if e.xpose then e.spp * e.slotBytes / e.runOut * e.run else e.spp * e.slotBytes

/-! Skein values of a ring (R104, R105). -/

/-- Growth of RSK since DSTART; a shadow's ring monitor holds it (Table 11.6). -/
def Dev.rskGrowth (d : Dev) (p : Nat) (e : Draft) : Nat :=
  if d.shadowing p && e.feed then e.consumed else (d.skein e.rsk).value - e.rsk0
/-- Growth of FSK since DSTART. -/
def Dev.fskGrowth (d : Dev) (p : Nat) (e : Draft) : Nat :=
  if d.shadowing p then e.signalled else (d.skein e.fsk).value - e.fsk0

/-- Slot s may be filled (R104); a linear COPY has no ring. -/
def Dev.maySlot (d : Dev) (p : Nat) (e : Draft) (s : Nat) : Bool :=
  if e.feed || e.ring then decide (s + e.sofs < e.depth + d.rskGrowth p e) else true

/-- What the engine would write next has room in the ring: output that waits, else the next position to be read. -/
def Dev.dftRoom (d : Dev) (p : Nat) (e : Draft) : Bool :=
  match e.obuf with
  | (q, _) :: _ => d.maySlot p e (q / e.slotBytes)
  | [] => d.maySlot p e (e.slotAt e.pos)

/-! Failures (R118). -/

/-- One failure of the descriptor: counted; the first is recorded and raises EV_DFT_ERR. CAUSE: 1 READ, 2 WRITE,
3 UNDERRUN, 4 INDEX, 5 SKEIN. -/
def Dev.dftErr (d : Dev) (p n cause status : Nat) : Dev :=
  let e := (d.cl p).eng n
  let d := if e.errs = 0 ∧ e.cause = 0 then
      (d.updEng p n (fun e => { e with first := status, cause := cause })).ev (pgCLU p) EV_DFT_ERR
    else d
  d.updEng p n (fun e => { e with errs := sat 16 (e.errs + 1) })

/-! Reads. -/

/-- Reads an engine has outstanding; those abandoned by a stop or a rewind count until they return (R108). -/
def Dev.dftOuts (d : Dev) (p n : Nat) : Nat := (d.net.xfers.filter (fun x => Own.ofEngine p n x.owner)).length
/-- Those whose data the engine still takes. -/
def Dev.dftLive (d : Dev) (p n : Nat) : Nat :=
  (d.net.xfers.filter (fun x => Own.ofEngine p n x.owner && !x.absorbed)).length
/-- Writes an engine has outstanding. -/
def Dev.dftWouts (d : Dev) (p n : Nat) : Nat :=
  (d.net.xfers.filter (fun x => match x.owner with
    | .dftWrite q m _ => q = p && m = n
    | _ => false)).length

/-- A read the engine makes without the network: bytes of its own store (DRAFT port) or of no source at all. -/
def Dev.localRead (d : Dev) (p : Nat) (own : Own) (g : Got) : Dev :=
  let flow := d.net.nextFlow
  let st := if g.px = [] then ST_OK else ST_POISONED
  let pk : Pkt := { srcReply (dieOf p) (cOf p) flow 0 st T_RD with data := g.bytes, pois := g.px }
  d.updNet (fun n => { n with
    nextFlow := flow + 1, pkts := n.pkts ++ [pk],
    xfers := n.xfers ++ [{ flow := flow, owner := own, typ := T_RD, part := 15, left := [(0, dieOf p)], since := d.gt }] })

/-- Read the whole lines that hold `n` bytes at an issued address, for an owner: from the own store, or by a RD packet (R99). -/
def Dev.dftFetch (d : Dev) (p : Nat) (own : Own) (parity : Nat) (prev count : Bool) (a n : Nat) : Dev :=
  let j := d.partEff p
  let (b, d') := d.xlatAddr p j parity prev a
  let d := if count then d' else d
  let l := b / 64 * 64
  let n := cdiv (b % 64 + n) 64 * 64
  match d.ownAt p l n with
  | some o =>
    let (g, d) := d.readStore p o n
    d.localRead p own g
  | none => d.request (dieOf p) (cOf p) own T_RD j 0 true false none [{ addr := l, len := n }]

/-- The issued address of the index-list entry of a point. -/
def Draft.idxAddr (e : Draft) (t : Nat) : Nat := (e.fd 7 63 0 + 4 * e.index t e.gdim) % 2 ^ 64

/-- Issue `go`'s read of a point, or first the point's index-list entry (R99): at the current parity, whatever SPREV says. -/
def Dev.dftIndexed (d : Dev) (p n t : Nat) (go : Dev → Dev) : Option Dev :=
  let e := (d.cl p).eng n
  let own := Own.dftIdx p n (e.idxKey t)
  if !e.idxNone t then some (go d)
  else if d.net.xfers.any (fun x => x.owner = own && !x.absorbed) then none
  else some (d.dftFetch p own (e.step % 2) false true (e.idxAddr t) 4)

/-- Read the piece at position q for the fill: a point that is not read gives zeros, poisoned where its entry failed (R118). -/
def Dev.dftFill (d : Dev) (p n q : Nat) : Dev :=
  let e := (d.cl p).eng n
  let len := e.pieceLen q
  let d := match e.addrAt q with
    | some a => d.dftFetch p (.dftRead p n q) (e.step % 2) (e.fd 0 54 54 = 1) (q % e.run = 0) a len
    | none => d.localRead p (.dftRead p n q)
        { bytes := List.replicate len 0, px := if e.idxBad (q / e.run) then List.range len else [] }
  d.updEng p n (fun e => { e with pos := q + len })

/-- Read the piece at position q for the pre-scan; a run that is not read has no scales (R111). It is not counted in CLU_SPR_UNPAIRED: the
fill counts the walk point (R120; log entry 137). -/
def Dev.dftScanRead (d : Dev) (p n q : Nat) : Dev :=
  let e := (d.cl p).eng n
  match e.addrAt q with
  | some a => (d.dftFetch p (.dftScan p n q) (e.step % 2) (e.fd 0 54 54 = 1) false a (e.pieceLen q)).updEng p n (fun e =>
      { e with scan := q + e.pieceLen q })
  | none => d.updEng p n (fun e => { e with scan := (q / e.run + 1) * e.run })

/-- The pre-scan of a pass has reads outstanding. -/
def Dev.dftScanning (d : Dev) (p n : Nat) : Bool :=
  d.net.xfers.any (fun x => !x.absorbed && match x.owner with
    | .dftScan q m _ => q = p && m = n
    | _ => false)

/-- One action more of a walk that may go on: a read for the pre-scan of the pass that begins at `pos` (R111), its mark once
the pre-scan is whole (R112), or a read for the fill. -/
def Dev.dftIssue (d : Dev) (p n : Nat) : Option Dev :=
  let e := (d.cl p).eng n
  if e.st ≠ .run ∨ e.stopping ∨ e.rewinding ∨ 64 ≤ d.dftOuts p n ∨ e.inLen ≤ e.pos ∨ !d.maySlot p e (e.slotAt e.pos) then none
  else
    let s := e.slotAt e.pos
    if e.feed && e.pos % e.passLen = 0 && !(e.marks.any (fun m => m.slot = s)) then
      let q := max e.scan e.pos
      if e.scanOn && decide (q < e.pos + e.passLen) then d.dftIndexed p n (q / e.run) (fun d => d.dftScanRead p n q)
      else if e.scanOn && d.dftScanning p n then none
      else some (d.updEng p n (fun e => { e with
        marks := e.marks ++ [{ slot := s, pos := e.pos, maxes := e.maxes }], maxes := [] }))
    else d.dftIndexed p n (e.pos / e.run) (fun d => d.dftFill p n e.pos)

/-! Placing (R100 to R103, R106). -/

/-- Pack element codes at a format's width, first element lowest. -/
def packCodes (bits : Nat) (cs : List Nat) : List Byte :=
  leBytes (cs.length * bits / 8) (cs.foldr (fun c a => c % 2 ^ bits + a * 2 ^ bits) 0)

/-- Element code `i` of packed bytes. -/
def codeAt (bits i : Nat) (bs : List Byte) : Nat :=
  let b0 := i * bits / 8
  leNat ((bs.drop b0).take (bits / 8 + 2)) / 2 ^ (i * bits % 8) % 2 ^ bits

/-- Where stream position q lies: in a FEED slot of the ring, a store offset; in COPY, the destination address. -/
def Draft.placeAt (e : Draft) (q : Nat) : Nat :=
  if e.feed then e.rbase + ((q / e.slotBytes + e.sofs) % e.depth) * e.slotb + q % e.slotBytes
  else
    let dst := e.fd 3 63 0
    let dw := e.fd 5 47 0
    if e.ring then (dst + q / e.slotBytes % e.depth * e.slotBytes + q % e.slotBytes) % 2 ^ 64
    else (dst + (if dw = 0 then q else q % dw)) % 2 ^ 64

/-- Cut output bytes at stream position q where they cross a slot, a chunk or the wrap of a linear destination. -/
def Draft.segments (e : Draft) : Nat → Nat → Nat → List (Nat × Nat)
  | 0, _, _ => []
  | f + 1, q, n =>
    if n = 0 then []
    else
      let dw := e.fd 5 47 0
      let room := e.slotBytes - q % e.slotBytes
      let room := if !e.feed && !e.ring && dw ≠ 0 then min room (dw - q % dw) else room
      let k := min n room
      (q, k) :: Draft.segments e f (q + k) (n - k)

/-- Walk points whose output begins in `n` output bytes at position q and goes to a raw alias are counted (R120). -/
def Dev.dftAliases (d : Dev) (p : Nat) (e : Draft) (q n : Nat) : Dev :=
  forN (cdiv (q + n) e.runOut - cdiv q e.runOut) (fun i d =>
    (d.xlatAddr p (d.partEff p) (e.step % 2) false (e.placeAt ((cdiv q e.runOut + i) * e.runOut))).2) d

/-- Write output bytes at position q of the output stream: a FEED engine into its ring, a COPY to its destination. -/
def Dev.dftOut (d : Dev) (p n q : Nat) (g : Got) : Dev :=
  let e := (d.cl p).eng n
  let d := if e.feed then d else d.dftAliases p e q g.bytes.length
  forL (e.segments (g.bytes.length / 64 + 66) q g.bytes.length) (fun (s : Nat × Nat) d =>
    let bs := slice g.bytes (s.1 - q) s.2
    let px := (g.px.filter (fun x => decide (s.1 - q ≤ x ∧ x < s.1 - q + s.2))).map (· - (s.1 - q))
    let a := e.placeAt s.1
    if e.feed then (d.winderWrite (dieOf p) (cOf p) (csKey p a) bs px).2
    else d.storeTo p (.dftWrite p n (s.1 / e.slotBytes)) (e.step % 2) 0 false true a
      (d.xlatAddr p (d.partEff p) (e.step % 2) false a).1 bs px) d

/-! Transposition (R101, R102). Bytes of a group's runs may be missing when a stop ends the walk inside it (R115). -/

/-- Bytes and poison; none where nothing was received. -/
abbrev Recv : Type := List (Option (Byte × Bool))

/-- The received bytes of a run. -/
def Draft.runPart (e : Draft) (t : Nat) : Recv :=
  let at_ (q : Nat) : Option (Byte × Bool) :=
    (e.got.find? (fun x => decide (x.1 ≤ q ∧ q < x.1 + x.2.bytes.length))).map (fun x =>
      (x.2.bytes.getD (q - x.1) 0, x.2.px.contains (q - x.1)))
  (List.range e.run).map (fun i => at_ (t * e.run + i))

/-- The bit field of `bits` bits at bit `b` of a run, and whether a byte of it is poisoned. -/
def Recv.field (r : Recv) (b bits : Nat) : Option (Nat × Bool) :=
  let xs := slice r (b / 8) ((b + bits - 1) / 8 + 1 - b / 8)
  if xs.all (·.isSome) then
    some (leNat (xs.map (fun x => (x.getD (0, false)).1)) / 2 ^ (b % 8) % 2 ^ bits, xs.any (fun x => (x.getD (0, false)).2))
  else none

/-- Element i of a run: after its scale bytes are removed, with MXU. -/
def Draft.elemOf (e : Draft) (r : Recv) (i : Nat) : Option (Nat × Bool) :=
  if e.mxu then r.field (8 * (i / 32 * recordBytes e.fmt + 1) + i % 32 * e.ebits) e.ebits else r.field (i * e.ebits) e.ebits

/-- Elements side by side, first lowest, as bytes: a byte is there when all of it is. -/
def packPart (bits : Nat) (cs : List (Option (Nat × Bool))) : Recv :=
  let bs := packCodes bits (cs.map (fun c => (c.getD (0, false)).1))
  (List.range bs.length).map (fun j =>
    let on := slice cs (8 * j / bits) ((8 * j + 7) / bits + 1 - 8 * j / bits)
    if on.all (·.isSome) then some (bs.getD j 0, on.any (fun c => (c.getD (0, false)).2)) else none)

/-- The pieces that are there: the whole, or else byte by byte. -/
def Recv.pieces (r : Recv) : List (Nat × Got) :=
  if r.all (·.isSome) then
    [(0, ⟨r.map (fun x => (x.getD (0, false)).1), (List.range r.length).filter (fun i => ((r.getD i none).getD (0, false)).2)⟩)]
  else (List.range r.length).filterMap (fun i => (r.getD i none).map (fun x => (i, ⟨[x.1], if x.2 then [0] else []⟩)))

/-- Transpose group g as far as it is received: its rows join the output that waits; scale byte b of run l becomes scale
b·LANES + l of the slot's scale rows (R102, R103). The last group may have fewer runs than LANES: it is transposed as a group of
those (log entry 132). -/
def Dev.dftGroup (d : Dev) (p n g : Nat) : Dev :=
  let e := (d.cl p).eng n
  let k := min e.lanes (e.points - g * e.lanes)
  let runs := (List.range k).map (fun l => e.runPart (g * e.lanes + l))
  let q := g * e.lanes * e.runOut
  let rows := (List.range e.elems).flatMap (fun i =>
    (packPart e.ebits (runs.map (fun r => e.elemOf r i))).pieces.flatMap (fun (x : Nat × Got) =>
      let at_ := q + i * (k * e.ebits / 8) + x.1
      (e.segments (x.2.bytes.length / 64 + 66) at_ x.2.bytes.length).map (fun s =>
        (s.1, (⟨slice x.2.bytes (s.1 - at_) s.2,
          (x.2.px.filter (fun y => decide (s.1 - at_ ≤ y ∧ y < s.1 - at_ + s.2))).map (· - (s.1 - at_))⟩ : Got)))))
  let d := d.updEng p n (fun e => { e with obuf := e.obuf ++ rows })
  if e.mxu then
    let row0 := q % e.slotBytes / (e.lanes * e.ebits / 8) / 32
    let base := e.rbase + ((q / e.slotBytes + e.sofs) % e.depth) * e.slotb + e.elArea
    forN (e.elems / 32) (fun b d =>
      let part : Recv := runs.map (fun r => r.getD (b * recordBytes e.fmt) none)
      forL part.pieces (fun x d =>
        (d.winderWrite (dieOf p) (cOf p) (csKey p (base + (row0 + b) * e.lanes + x.1)) x.2.bytes x.2.px).2) d) d
  else d

/-- Write the waiting output that has room, in order. -/
def Dev.dftFlush (d : Dev) (p n : Nat) : Dev :=
  ((d.cl p).eng n).obuf.foldl (fun (x : Dev × Bool) _ =>
    let e := (x.1.cl p).eng n
    match e.obuf with
    | (q, g) :: t =>
      if x.2 || !x.1.maySlot p e (q / e.slotBytes) then (x.1, true)
      else ((x.1.updEng p n (fun e => { e with obuf := t })).dftOut p n q g, false)
    | [] => x) (d, false) |>.1

/-- The output position up to which everything is written. -/
def Draft.outDone (e : Draft) : Nat :=
  match e.obuf with
  | (q, _) :: _ => q
  | [] => if e.inLen ≤ e.done then e.total else e.outAt e.done

/-- FEED slots whose every byte is written are signalled in order: ADD +1 on FSK each (R104). -/
def Dev.dftSignal (d : Dev) (p n : Nat) : Dev :=
  let e := (d.cl p).eng n
  forN (e.outDone / e.slotBytes + e.sofs - e.signalled) (fun _ d =>
    let d := d.updEng p n (fun e => { e with signalled := e.signalled + 1 })
    d.sigAdd p e.fsk 1 (some n)) d

/-- `done` moves over the pieces received. -/
def Draft.advance (e : Draft) : Nat → Draft
  | 0 => e
  | f + 1 =>
    if e.got.any (fun x => x.1 = e.done) then
      Draft.advance { e with done := e.done + e.pieceLen e.done, got := if e.xpose then e.got else SMap.del e.got e.done } f
    else e

/-- Transpose groups wholly received when everything before a position is. -/
def Draft.groups (e : Draft) (q : Nat) : Nat := if e.inLen ≤ q then cdiv e.points e.lanes else q / e.groupLen

/-- Account received pieces: transpose the groups that are whole, write what has room, signal FEED slots. -/
def Dev.dftPlace (d : Dev) (p n : Nat) : Dev :=
  let e := (d.cl p).eng n
  let d := d.updEng p n (fun e => e.advance e.got.length)
  let e' := (d.cl p).eng n
  let d := if e.xpose then
      let d := forN (e.groups e'.done - e.groups e.done) (fun i d => d.dftGroup p n (e.groups e.done + i)) d
      d.updEng p n (fun e => { e with got := e.got.filter (fun x => decide (e.groups e.done * e.groupLen ≤ x.1)) })
    else d
  let d := d.dftFlush p n
  if e.feed then d.dftSignal p n else d

/-- Go on with the walk while it may; the engine enters FULL when the ring has no room and nothing is outstanding (R113). -/
def Dev.dftPump (d : Dev) (p n : Nat) : Dev :=
  let d := if ((d.cl p).eng n).st = .run then d.dftFlush p n else d
  let d := (List.range 128).foldl (fun (x : Dev × Bool) _ =>
    if x.2 then x else match x.1.dftIssue p n with
      | some d' => (d', false)
      | none => (x.1, true)) (d, false) |>.1
  let e := (d.cl p).eng n
  if e.st = .run ∧ !e.stopping ∧ !e.rewinding ∧ (e.pos < e.inLen ∨ e.obuf ≠ []) ∧ d.dftLive p n = 0 ∧ !d.dftRoom p e then
    d.updEng p n (fun e => { e with st := .full })
  else d

/-- A stop that drains writes what it has of a transpose group that is not whole (R115, Table 4.4). -/
def Dev.dftRest (d : Dev) (p n : Nat) : Dev :=
  let e := (d.cl p).eng n
  if e.xpose && e.got ≠ [] then
    ((d.dftGroup p n (e.groups e.done)).updEng p n (fun e => { e with got := [] })).dftFlush p n
  else d

/-- A DSTOP that drains ends when the reads whose data it takes have returned and its writes are over; a rewind ends when every
outstanding read has returned (R112, R115). -/
def Dev.dftSettle (d : Dev) (p n : Nat) : Dev :=
  let e := (d.cl p).eng n
  if e.stopping then
    if 0 < d.dftLive p n then d
    else
      let d := d.dftRest p n
      if 0 < d.dftWouts p n then d else d.updEng p n (fun e => { e with st := .stopped, stopping := false })
  else if e.rewinding ∧ d.dftOuts p n = 0 then (d.updEng p n (fun e => { e with rewinding := false })).dftPump p n
  else d

/-- Fold the scale exponents of the pre-scan piece at position q into the lane maxima (R111). -/
def Draft.scanFold (e : Draft) (q : Nat) (bs : List Byte) : Draft :=
  let best : Int := (List.range bs.length).foldl (fun (a : Int) i =>
    if (q + i) % e.run % recordBytes e.fmt = 0 ∧ (bs.getD i 0).toNat ≠ 255 then max a ((bs.getD i 0).toNat - 127) else a) (-127)
  let l := q / e.run % e.lanes
  let ms := if e.maxes = [] then List.replicate e.lanes (-127 : Int) else e.maxes
  { e with maxes := ms.set l (max (ms.getD l (-127)) best) }

/-- The wanted `n` bytes, at address `a`, of the lines that a read brought. -/
def lineBytes (a n : Nat) (bs : List Byte) (px : List Nat) : Got :=
  ⟨slice bs (a % 64) n, (px.filter (fun x => decide (a % 64 ≤ x ∧ x < a % 64 + n))).map (· - a % 64)⟩

/-- An index-list entry has been read, or failed: every run that uses it is then poisoned (R118). A point that uses it: `t`. -/
def Dev.dftGotIdx (d : Dev) (p n k status : Nat) (bs : List Byte) : Dev :=
  let d := if status = ST_OK then d else d.dftErr p n 4 status
  d.updEng p n (fun e =>
    let t := k * (List.range e.gdim).foldl (fun a m => a * e.count m) 1
    { e with idx := SMap.ins e.idx k (if status = ST_OK then lineBytes (e.idxAddr t) 4 bs [] else ⟨[0, 0, 0, 0], [0]⟩) })

/-- A pre-scan read has returned (R111): a failed one is left out of the maxima, a poisoned one counts as read (log entry 133). -/
def Dev.dftGotScan (d : Dev) (p n q status : Nat) (bs : List Byte) : Dev :=
  let d := if status = ST_OK then d else d.dftErr p n 1 status
  if status = ST_OK ∨ status = ST_POISONED then
    d.updEng p n (fun e => e.scanFold q (lineBytes ((e.addrAt q).getD 0) (e.pieceLen q) bs []).bytes)
  else d

/-- The piece at position q has returned; of a failed read zeros are written, poisoned (R118; log entry
136). -/
def Dev.dftGotRead (d : Dev) (p n q status : Nat) (bs : List Byte) (px : List Nat) : Dev :=
  let e := (d.cl p).eng n
  let len := e.pieceLen q
  let d := if status = ST_OK ∨ e.idxBad (q / e.run) then d else d.dftErr p n 1 status
  let g : Got := if status = ST_OK ∨ status = ST_POISONED then lineBytes ((e.addrAt q).getD 0) len bs px
    else ⟨List.replicate len 0, List.range len⟩
  let d := if e.xpose then d else d.dftOut p n q g
  d.updEng p n (fun e => { e with got := SMap.ins e.got q (if e.xpose then g else ⟨[], []⟩) })

/-- A source read of the engine has completed with its bytes (R118): placed, then more is read. -/
def Dev.dftArrive (d : Dev) (p n : Nat) (own : Own) (status : Nat) (bs : List Byte) (px : List Nat) : Dev :=
  let d : Dev := match own with
    | .dftIdx _ _ k => d.dftGotIdx p n k status bs
    | .dftScan _ _ q => d.dftGotScan p n q status bs
    | .dftRead _ _ q => d.dftGotRead p n q status bs px
    | _ => d
  ((d.dftPlace p n).dftPump p n).dftSettle p n

/-- A read that a stop or a rewind abandoned has returned (R108, R112). -/
def Dev.dftAbandoned (d : Dev) (p n : Nat) : Dev := (d.dftPump p n).dftSettle p n

/-! Starting, stopping, rewinding. -/

/-- Accept a descriptor: the engine enters RUN and begins to read (R98, R113). -/
def Dev.dftStart (d : Dev) (p n a : Nat) (ws : List Word) : Dev :=
  let e : Draft := { desc := ws }
  let e' : Draft := { ({} : Draft) with
    st := .run, desc := ws, descOff := a, rsk0 := (d.skein e.rsk).value,
    fsk0 := (d.skein e.fsk).value, step := d.stepOf (d.partEff p) }
  (d.updEng p n (fun _ => e')).dftPump p n

/-- DSTOP (R115): an IDLE or DONE engine is left as it is; DRAIN 0 abandons the outstanding reads, and the output that waits for room
(log entry 138). -/
def Dev.dftStop (d : Dev) (p n : Nat) (drain : Bool) : Dev :=
  let e := (d.cl p).eng n
  if e.st = .idle ∨ e.st = .done ∨ e.st = .stopped then d
  else
    let d := if drain then d else d.absorb (Own.ofEngine p n)
    if drain then (d.updEng p n (fun e => { e with stopping := true })).dftSettle p n
    else d.updEng p n (fun e => { e with st := .stopped, stopping := false, rewinding := false, got := [], obuf := [] })

/-- The engine rewinds to the mark of the pass whose first slot is `slot` (R112). -/
def Dev.dftRewind (d : Dev) (p n slot : Nat) : Dev :=
  let e := (d.cl p).eng n
  match (if e.st = .idle ∨ e.st = .stopped then none else e.marks.find? (fun m => m.slot = slot)) with
  | none => d
  | some m =>
    let gone := e.signalled - e.consumed
    let d := d.absorb (Own.ofEngine p n)
    let d := d.updEng p n (fun e => { e with
      rwd := sat 16 (e.rwd + 1), consumed := e.signalled, sofs := e.signalled - m.slot, pos := m.pos, done := m.pos,
      got := [], obuf := [], marks := e.marks.filter (fun x => x.slot ≤ slot), scan := m.pos + e.passLen, maxes := [],
      rewinding := true, st := if e.st = .suspended then .suspended else .run })
    let d := if gone = 0 then d else d.sigAdd p e.rsk gone (some n)
    d.dftSettle p n

/-! Meanings of the engine's own events. -/

/-- A walk ended with all writes acknowledged: DONE, and the first end adds 1 to CSK (R107, R113). -/
def Dev.dftWalkEnd (d : Dev) (p n : Nat) : Dev :=
  let e := (d.cl p).eng n
  let sig := if e.feed then decide (e.slots + e.sofs ≤ e.signalled)
    else decide (e.chlog2 = 0) || decide (e.slots ≤ e.signalled)
  if (e.st = .run ∨ e.st = .full) ∧ !e.stopping ∧ !e.rewinding ∧ e.desc ≠ [] ∧ e.inLen ≤ e.done ∧ e.obuf = [] ∧
      d.dftLive p n = 0 ∧ d.dftWouts p n = 0 ∧ sig then
    let d := d.updEng p n (fun e => { e with st := .done, cskDone := e.cskDone || e.fd 0 51 51 = 1 })
    if e.fd 0 51 51 = 1 ∧ !e.cskDone then d.sigAdd p (e.fd 8 63 32) 1 none else d
  else d

/-- DRAFT_WALK_END (R107). -/
def execDraftWalkEnd (p n : Nat) (s : State) : Host.Outcome State Fault Refusal :=
  s.run (decide (p < Config.clusters ∧ n < 4)) (fun _ d => d.dftWalkEnd p n)

/-- DRAFT_RELEASE (R113): RSK has grown and a FULL engine fills again. -/
def execDraftRelease (p n : Nat) (s : State) : Host.Outcome State Fault Refusal :=
  s.run (decide (p < Config.clusters ∧ n < 4)) (fun _ d =>
    let e := (d.cl p).eng n
    if e.st = .full ∧ d.dftRoom p e then
      (d.updEng p n (fun e => { e with st := .run })).dftPump p n
    else d)

/-- Chunk c of a COPY walk is written and acknowledged whole. -/
def Dev.chunkDone (d : Dev) (p n c : Nat) : Bool :=
  let e := (d.cl p).eng n
  decide (min ((c + 1) * e.slotBytes) e.total ≤ e.outDone) &&
    !(d.net.xfers.any (fun x => x.owner = .dftWrite p n c))

/-- DRAFT_CHUNK_ACKED (R106): the next chunk in order is acknowledged and FSK receives ADD +1. -/
def execDraftChunkAcked (p n : Nat) (s : State) : Host.Outcome State Fault Refusal :=
  s.run (decide (p < Config.clusters ∧ n < 4)) (fun _ d =>
    let e := (d.cl p).eng n
    if !e.feed ∧ e.desc ≠ [] ∧ e.chlog2 ≠ 0 ∧ e.signalled < e.slots ∧ d.chunkDone p n e.signalled ∧
        (e.st = .run ∨ e.st = .full ∨ e.st = .suspended ∨ e.st = .stopped) then
      (d.updEng p n (fun e => { e with signalled := e.signalled + 1 })).sigAdd p e.fsk 1 (some n)
    else d)

end Sys2Proof.Machine
end

