-- ==== Sys2Proof/Machine/Pass.lean ====
section
/-!
DEFINITION. The arithmetic of one tensor pass over its operands (R70 to R76), residues and tile digest of the set it
leaves (R290, R294), and the choice, partners, records and verdicts of ply checking (R283 to R296).
-/

namespace Sys2Proof.Machine

/-! Operands (R50, R103). -/

/-- k-steps of an operand that have been read. -/
def Oper.avail (o : Oper) : Nat := o.el.length * 8 / (fmtBits o.fmt * o.lanes)

/-- Element (lane, k) of an operand with its block scale (R68, R103). -/
def Oper.elem (o : Oper) (lane k : Nat) : Num :=
  let x := decodeEl o.fmt (codeAt (fmtBits o.fmt) (k * o.lanes + lane) o.el)
  if isMX o.fmt then scaleNum (o.sc.getD (k / 32 * o.lanes + lane) 0).toNat x else x

/-- Whether a poisoned byte of the element area holds part of an element of a valid lane (R46, R50). -/
def usesEl (fmt lanes valid i : Nat) : Bool :=
  let b := fmtBits fmt
  (List.range ((8 * i + 7) / b + 1 - 8 * i / b)).any (fun x => decide ((8 * i / b + x) % lanes < valid))

/-- Whether poisoned bytes of an element area and a scale area are used with `valid` lanes. -/
def usesPois (fmt lanes valid : Nat) (ex sx : List Nat) : Bool :=
  ex.any (usesEl fmt lanes valid) || sx.any (fun i => decide (i % lanes < valid))

/-- The greatest delivered scale exponent of the valid lanes (R74). -/
def maxOf (ms : List Int) (valid : Nat) : Int := (ms.take valid).foldl max (-127)

/-- The window base of the present attempt (R72, R74). -/
def Pass.base (p : Pass) : Int :=
  (if p.wauto then maxOf p.a.maxes p.m + maxOf p.b.maxes p.n + fmtT p.a.fmt + fmtT p.b.fmt - 80 else p.l0)
    + p.tries * p.shift

/-- The products of element (r, c) over the first `n` k-steps (R70). -/
def Pass.products (p : Pass) (n r c : Nat) : List Num :=
  (List.range n).map (fun k => mulNum (p.a.elem r k) (p.b.elem c k))

/-- Both operands have been read whole. -/
def Pass.full (p : Pass) : Bool := decide (p.a.slotsLeft = 0) && decide (p.b.slotsLeft = 0)

/-- A valid element (r, c) for which `f` holds. -/
def anyElem (m n : Nat) (f : Nat → Nat → Bool) : Bool :=
  (List.range m).any (fun r => (List.range n).any (fun c => f r c))

/-- An overflow of the present attempt in what has been read: a term, or at the end the sum (R72). -/
def Pass.overflow (p : Pass) : Bool :=
  let n := min p.k (min p.a.avail p.b.avail)
  anyElem p.m p.n (fun r c =>
    let ps := p.products n r c
    ps.any (fun x => decide (2 ^ 79 ≤ (termAt p.base x).natAbs)) ||
      (p.full && decide (2 ^ 79 ≤ (sumTerms p.base ps).sum.natAbs)))

/-- A retry is due when the attempt overflows (R72). -/
def Pass.mayRetry (p : Pass) : Bool := decide (p.tries < p.rlim) && decide (p.base + p.shift ≤ 2047)

/-- The sum of element (r, c) as the accumulator holds it: `errs` names bits a fault flipped, by element (log entry 8). -/
def Pass.sumAt (p : Pass) (errs : List (Nat × Nat)) (r c : Nat) : Elem :=
  let e := sumTerms p.base (p.products p.k r c)
  let x := (errs.filter (fun q => q.1 = r * 256 + c)).foldl (fun (a : BitVec 96) q => a ^^^ BitVec.ofNat 96 q.2)
    (BitVec.ofInt 96 e.sum)
  { e with sum := x.toInt }

/-- The set a pass leaves (R72): clean sums, or sums wrapped when `wrapped`. -/
def Pass.result (p : Pass) (errs : List (Nat × Nat)) (wrapped : Bool) : AccSet :=
  forN p.m (fun r s => forN p.n (fun c s =>
    let e := p.sumAt errs r c
    let v := if wrapped then wrap80 e.sum else e.sum
    { s with a := SMap.set 0 s.a (r * 256 + c) (BitVec.ofInt 96 v),
             spec := SMap.set 0 s.spec (r * 256 + c) e.spec }) s)
    { l := p.base, m := p.m, n := p.n, wrapped := wrapped, rtry := p.tries }

/-- C_e and Q_e of every valid element, in order of r·256 + c (R294). -/
def Pass.residues (p : Pass) (errs : List (Nat × Nat)) : List (Nat × Nat × Nat) :=
  (List.range p.m).flatMap (fun r => (List.range p.n).map (fun c =>
    (r * 256 + c, residueC p.base (p.products p.k r c), residueQ (p.sumAt errs r c).sum)))

/-- The residue record of a flagged pass (Table 10.4). -/
def chkRecord (step tile pcl gt : Nat) (rs : List (Nat × Nat × Nat)) : List Word :=
  let bad := rs.filter (fun x => x.2.1 ≠ x.2.2)
  let (e, c, q) := bad.headD (0, 0, 0)
  let cf := rs.foldl (fun a x => (a + (x.1 + 1) * x.2.1) % 65535) 0
  let af := rs.foldl (fun a x => (a + (x.1 + 1) * x.2.2) % 65535) 0
  [BitVec.ofNat 64 (2 * 2 ^ 60 + 1 * 2 ^ 56 + step % 2 ^ 48),
   BitVec.ofNat 64 (tile * 2 ^ 40 + e * 2 ^ 25 + sat 15 bad.length * 2 ^ 10 + pcl),
   BitVec.ofNat 64 (c * 2 ^ 48 + q * 2 ^ 32 + cf * 2 ^ 16 + af), BitVec.ofNat 64 gt]

/-- The residue checker of a cluster works (R296). -/
def Dev.chkOn (d : Dev) (p : Nat) : Bool :=
  d.pstate p = PS_MAPPED && d.fb (pgPART (d.partOf p)) PART_PLY_CHKEN && !d.fb (pgCLU p) CLU_CHKSLUB_CHKOFF

/-- Run the residue checker over the attempt that ended (R294, R297); the answer says whether it flagged. -/
def Dev.residueCheck (d : Dev) (p : Nat) (x : Pass) (errs : List (Nat × Nat)) : Bool × Dev :=
  if !d.chkOn p then (false, d)
  else
    let rs := x.residues errs
    if rs.all (fun y => y.2.1 = y.2.2) then (false, d)
    else
      let pg := pgCLU p
      let d := (d.addSat pg CLU_PLYERR_FLAGS).ev pg EV_CHK_FLAG
      let ws := chkRecord (d.stepOf (d.partOf p)) x.tile p d.gt rs
      (true, forN 4 (fun i d => d.setf pg CLU_CHKRECi_REC (ws.getD i 0).toNat i) d)

/-- k-steps per cycle by format pair, halved: 4, 2 or 1 for two, one or half a k-step (Table 2.2). -/
def rate2 (a b : Nat) : Nat :=
  let r (f : Nat) : Nat := if 4 ≤ f ∧ f ≤ 6 then 4 else if f = 8 ∨ f = 9 then 1 else 2
  min (r a) (r b)

/-- Cycles counted in CLU_TBUSY for some k-steps (R36, R66). -/
def busyCycles (a b k : Nat) : Nat := cdiv (2 * k) (rate2 a b)

/-! Abort requests (R292). -/

/-- The abort of a partition's step is requested, in the name of a cluster. -/
def Dev.abortReq (d : Dev) (j p : Nat) : Dev :=
  let pg := pgPART j
  let d := ((d.setf pg PART_PLYSTAT_ABORTREQ 1).setf pg PART_PLYSTAT_ASTEP (d.stepOf j)).ev pg EV_PART_PLYABORT
  if d.fb (pgTUB 0) TUB_JOBp_EN j then d.faultRecord j ST_POISONED (unitWord U_CLUSTER p) (pgCLU p) else d

/-! Choice of passes, partners and referees (R284, R285). -/

/-- FTH of a fraction code (Table 10.1). -/
def fthOf (f : Nat) : Nat := [0, 1, 4, 16, 64].getD f 0

/-- Full ply applies to a cluster: probation of it, of its die or of the panel for its job (R305, R306). -/
def Dev.fullPly (d : Dev) (p j : Nat) : Bool := d.onProb p || d.slub.msgProb.contains (slubKey U_PANEL j)

/-- The flag of an earlier attempt that this pass attributes (R295). -/
def Dev.flagOf (d : Dev) (j lc tile : Nat) : Option (Nat × Nat × BitVec 128 × Nat) :=
  (d.pt j).flags.find? (fun f => f.1 = lc && f.2.1 = tile)

/-- Whether an eligible pass with TILE of a cluster is chosen. -/
def Dev.chosen (d : Dev) (p tile : Nat) : Bool :=
  let j := d.partOf p
  let lc := d.lcOf p
  d.pstate p = PS_MAPPED && !d.fb (pgPART j) PART_PLY_ERR && decide ((d.pt j).plyF < 5) &&
    (d.fullPly p j || decide ((plymix (d.stepOf j) tile lc 0).toNat % 64 < fthOf (d.pt j).plyF) ||
      ((d.pt j).replay && (d.flagOf j lc tile).isSome))

/-- A TMMA is eligible (R283): PLYOK, both operands from rings, each ring of at least two passes. -/
def Dev.eligible (d : Dev) (p : Nat) (w : Cmd) : Bool :=
  let big (n : Nat) : Bool :=
    let e := (d.cl p).eng n
    decide (2 * e.spp ≤ e.depth)
  bit w 33 && decide (fld w 103 101 < 4) && decide (fld w 96 94 < 4) && big (fld w 103 101) && big (fld w 96 94)

/-- The partition's placed logical clusters, ascending, with their physical clusters. -/
def Dev.placed (d : Dev) (j : Nat) : List (Nat × Nat) :=
  (List.range Config.logicals).filterMap (fun lc => if d.inPart j lc then (d.lcPhys lc).map (fun p => (lc, p)) else none)

/-- fit of R285. -/
def Dev.fit (d : Dev) (p : Nat) : Bool :=
  d.pstate p = PS_MAPPED && d.present (dieOf p) && !(d.cl p).fenced && !d.onProb p

/-- pick of R285, answering the physical cluster. -/
def Dev.pick (d : Dev) (step tile lc j salt : Nat) (xd xh : List Nat) : Option Nat :=
  let l := d.placed j
  let n := l.length
  if n = 0 then none
  else
    let j0 := (plymix step tile lc salt).toNat % n
    let order := (List.range n).map (fun i => (l.getD ((j0 + i) % n) (0, 0)).2)
    let ok (p : Nat) : Bool := d.fit p && !xd.contains (dieOf p)
    match order.find? (fun p => ok p && !xh.contains (hankOf (dieOf p))) with
    | some p => some p
    | none => order.find? ok

/-! Records (R286, R288, R291, R295). -/

/-- Change a record of a primary. -/
def Dev.updPly (d : Dev) (p id : Nat) (f : PlyRec → PlyRec) : Dev :=
  d.updCl p (fun c => { c with plys := c.plys.map (fun r => if r.id = id then f r else r) })

/-- The held slots of a record are released: ADD SPP on each ring's RSK (R286). -/
def Dev.releaseSlots (d : Dev) (p : Nat) (a b : Oper) : Dev :=
  forL [a, b] (fun (o : Oper) d => match o.ring with
    | some n => if o.spp = 0 then d else d.sigAdd p o.rsk o.spp (some n)
    | none => d) d

/-- A record is removed and its slots are released, if they still are held. -/
def Dev.closePly (d : Dev) (p : Nat) (r : PlyRec) : Dev :=
  let d := d.updCl p (fun c => { c with plys := c.plys.filter (fun x => x.id ≠ r.id) })
  if r.freed then d else d.releaseSlots p r.a r.b

/-- PLY_WRONG to a cluster: counted and scored (R291). -/
def Dev.plyWrong (d : Dev) (p : Nat) : Dev := (d.addSat (pgCLU p) CLU_PLYERR_WRONG).slubEvent 0 U_CLUSTER p
/-- PLY_UNRES to a cluster. -/
def Dev.plyUnres (d : Dev) (p : Nat) : Dev := (d.addSat (pgCLU p) CLU_PLYERR_UNRES).slubEvent 1 U_CLUSTER p
/-- RES_FALSE to the checker of a cluster (R295). -/
def Dev.resFalse (d : Dev) (p : Nat) : Dev := d.slubEvent 2 U_CHECKER p

/-- Write a verdict other than AGREE (Table 10.13). -/
def Dev.plyVerdict (d : Dev) (p : Nat) (r : PlyRec) (v : Nat) : Dev :=
  let pg := pgCLU p
  let ws : List Word := [
    BitVec.ofNat 64 (v * 2 ^ 60 + r.step % 2 ^ 48),
    BitVec.ofNat 64 (r.tile * 2 ^ 40 + (r.referee.getD 0x3FF) % 1024 * 2 ^ 20 + r.partner % 1024 * 2 ^ 10 + p),
    BitVec.ofNat 64 (r.d1.toNat % 2 ^ 32 * 2 ^ 32 + (r.d2.getD 0).toNat % 2 ^ 32), BitVec.ofNat 64 d.gt]
  let d := forN 4 (fun i d => d.setf pg CLU_PLYRECi_REC (ws.getD i 0).toNat i) d
  let d := if (d.cl p).seq.st = .fault then d else d.logRec pg EV_PLY_VERDICT ws
  d.ev pg EV_PLY_VERDICT

/-- Attribute a flag of an earlier attempt by the majority digest (R295). -/
def Dev.attribute (d : Dev) (r : PlyRec) (v : BitVec 128) : Dev :=
  match r.attrib with
  | none => d
  | some (d1, q) => if d1 = v then d.resFalse q else d.plyWrong q

/-- The record closes AGREE. -/
def Dev.plyAgree (d : Dev) (p : Nat) (r : PlyRec) : Dev :=
  let d := d.closePly p r
  let d := if r.flagged then d.resFalse p else d
  d.attribute r r.d1

/-- The record closes PARTNER_WRONG. -/
def Dev.plyPartnerWrong (d : Dev) (p : Nat) (r : PlyRec) : Dev :=
  let d := ((d.closePly p r).plyVerdict p r 1).plyWrong r.partner
  let d := if r.flagged then d.resFalse p else d
  d.attribute r r.d1

/-- The record closes PRIMARY_WRONG; the step's abort is requested. -/
def Dev.plyPrimaryWrong (d : Dev) (p : Nat) (r : PlyRec) : Dev :=
  let j := d.partOf p
  let d := (d.closePly p r).plyVerdict p r 2
  let d := (d.attribute r (r.d2.getD 0)).abortReq j p
  d.plyWrong p

/-- The record closes UNRESOLVED; every unit named is scored and the step's abort is requested. -/
def Dev.plyUnresolved (d : Dev) (p : Nat) (r : PlyRec) (withRef : Bool) : Dev :=
  let j := d.partOf p
  let d := ((d.closePly p r).plyVerdict p r 3).abortReq j p
  let d := (d.plyUnres p).plyUnres r.partner
  match withRef, r.referee with
  | true, some q => d.plyUnres q
  | _, _ => d

/-- The record closes SKIP. -/
def Dev.plySkip (d : Dev) (p : Nat) (r : PlyRec) : Dev :=
  ((d.closePly p r).plyVerdict p r 4).addSat (pgCLU p) CLU_PLYERR_SKIP

/-- The ticket timeout of a partition in GT counts (R288). -/
def Dev.plyTmo (d : Dev) (j : Nat) : Nat := d.f (pgPART j) PART_PLY_PLYTMO * 400000

/-- What a ticket and a digest carry, in a form of the panel's own (R286): the record they belong to, and the digest. -/
def ticketMail (pri id : Nat) : List Byte := leBytes 64 (1 + 2 ^ 8 * pri + 2 ^ 64 * (id % 2 ^ 64))
def digestMail (by_ id : Nat) (dig : BitVec 128) : List Byte :=
  leBytes 64 (2 + 2 ^ 8 * by_ + 2 ^ 64 * (id % 2 ^ 64) + 2 ^ 128 * dig.toNat)

/-- A WR packet with PART 0xF from cluster p to the ply mailbox of cluster q, which only panel logic addresses (R286). -/
def Dev.mail (d : Dev) (p q : Nat) (own : Own) (bs : List Byte) : Dev :=
  let flow := d.net.nextFlow
  let d := d.updNet (fun n => { n with nextFlow := flow + 1 })
  let pk : Pkt := {
    loc := .dst 0 0, typ := T_WR, part := 15, flow := flow, len := 64, addr := ownSlot (d.lcOf q) + MAILBOX, data := bs,
    dpanel := d.self, spanel := d.self, dep := dieOf q, dcl := cOf q }
  let d := match d.inject (dieOf p) (cOf p) pk with
    | some d' => d'
    | none => d.place (srcReply (dieOf p) (cOf p) flow 0 ST_ABSENT T_WR)
  d.updNet (fun n => { n with xfers := n.xfers ++
    [{ flow := flow, ep := dieOf p, owner := own, typ := T_WR, part := 15, left := [(0, dieOf q)], since := d.gt }] })

/-- Send the ticket of a record to a cluster (R286). -/
def Dev.sendTicket (d : Dev) (p : Nat) (r : PlyRec) (q : Nat) (toRef : Bool) : Dev :=
  (d.mail p q (.ticket p r.id q) (ticketMail p r.id)).updPly p r.id (fun r => { r with
    partner := if toRef then r.partner else q, referee := if toRef then some q else r.referee, toRef := toRef,
    sent := true, due := (if d.suspd (d.partOf p) then 0 else d.gt) + d.plyTmo (d.partOf p) })

/-- Dies and hanks excluded for a partner and for a referee (R285, R288). -/
def plyX (p : Nat) (r : PlyRec) (toRef : Bool) : List Nat × List Nat :=
  let base := if toRef then [p, r.partner] else [p]
  (base.map dieOf ++ r.xd, base.map (fun q => hankOf (dieOf q)))

/-- Find a partner or referee and send the ticket; with none the record closes (R288). -/
def Dev.place2 (d : Dev) (p : Nat) (r : PlyRec) (toRef : Bool) : Dev :=
  let j := d.partOf p
  let (xd, xh) := plyX p r toRef
  match d.pick r.step r.tile (d.lcOf p) j (if toRef then 2 else 1) xd xh with
  | some q => d.sendTicket p r q toRef
  | none => if toRef then d.plyUnresolved p r false else d.plySkip p r

/-- The ticket sent last gave no digest: reissue it, or close after two reissues (R288). -/
def Dev.reissue (d : Dev) (p : Nat) (r : PlyRec) : Dev :=
  let old := r.target
  let d := d.mapClu (fun c => { c with tickets := c.tickets.filter (fun t => !(t.pri = p && t.id = r.id)) })
  if 2 ≤ r.reissues then
    if r.toRef then d.plyUnresolved p r false else d.plySkip p r
  else
    let r' := { r with xd := r.xd ++ [dieOf old], reissues := r.reissues + 1, sent := false }
    (d.updPly p r.id (fun _ => r')).place2 p r' r.toRef

/-- A chosen pass has ended: its record opens and the partner is sent the ticket (R286). -/
def Dev.openPly (d : Dev) (p : Nat) (w : Cmd) (x : Pass) (set : AccSet) (flagged : Bool) : Dev :=
  let j := d.partOf p
  let lc := d.lcOf p
  let id := (d.cl p).nextPly
  let fl := if (d.pt j).replay then d.flagOf j lc x.tile else none
  let r : PlyRec := {
    id := id, step := d.stepOf j, tile := x.tile, w := w, shift := x.shift, rlim := x.rlim, l := x.base, k := x.k,
    m := x.m, n := x.n, a := x.a, b := x.b, d1 := tdig set, d2 := none, partner := 0, referee := none, xd := [],
    reissues := 0, due := 0, toRef := false, flagged := flagged, attrib := fl.map (fun f => (f.2.2.1, f.2.2.2)),
    sent := false }
  let d := d.updCl p (fun c => { c with plys := c.plys ++ [r], nextPly := id + 1 })
  let d := d.updPt j (fun q => { q with flags := match fl with
    | some f => q.flags.filter (fun g => g ≠ f)
    | none => q.flags })
  (d.addWrap (pgCLU p) CLU_PLYCNT_CHOSEN).place2 p r false

end Sys2Proof.Machine
end

