-- ==== Sys2Proof/Machine/Tensor.lean ====
section
/-!
DEFINITION. The tensor unit: the start of queued tensor commands under the set interlock (R39, R110), TDRAIN and
TEXPORT (R50, R81, R86 to R91), and the meanings of a pass's events (R40, R72, R105).
-/

namespace Sys2Proof.Machine

/-! Unit commands. -/

/-- A cluster's issued command. -/
def Dev.unit (d : Dev) (p id : Nat) : Option UCmd := (d.cl p).units.find? (fun u => u.id = id)
/-- Change an issued command. -/
def Dev.updUnit (d : Dev) (p id : Nat) (f : UCmd → UCmd) : Dev :=
  d.updCl p (fun c => { c with units := c.units.map (fun u => if u.id = id then f u else u) })
/-- An issued command has reached its completion point with a status (R57). -/
def Dev.finUnit (d : Dev) (p id status : Nat) : Dev :=
  d.updUnit p id (fun u => { u with started := true, fin := true, status := status })

/-- An accumulator set. -/
def Clu.acc (c : Clu) (s : Nat) : AccSet := if s = 0 then c.acc0 else c.acc1
/-- Replace an accumulator set. -/
def Dev.setAcc (d : Dev) (p s : Nat) (a : AccSet) : Dev :=
  d.updCl p (fun c => if s = 0 then { c with acc0 := a } else { c with acc1 := a })

/-- The accumulator set a tensor command names. -/
def setOf (w : Cmd) : Nat := if opcOf w = 0x40 then fld w 89 89 else fld w 111 111

/-- Valid rows and columns of the pass a drain of a set will read: the newest TMMA into the set, or what the set holds. -/
def Clu.setShape (c : Clu) (s : Nat) : Nat × Nat :=
  match (c.units.filter (fun u => u.unit = .tensor && opcOf u.w = 0x40 && setOf u.w = s)).getLast? with
  | some u => (fld u.w 72 66 + 1, fld u.w 65 58 + 1)
  | none => ((c.acc s).m, (c.acc s).n)

/-! TDRAIN (R50, R69, R86 to R91). -/

/-- The exact value of an accumulator element. -/
def accNum (l : Int) (a : BitVec 96) (sp : Spec) : Num :=
  if sp = 0 then .fin (decide (a.toInt < 0)) a.toInt.natAbs l
  else if sp = 1 then .inf false
  else if sp = 2 then .inf true
  else .nan

/-- Bytes of an output element; of an MX format, of 32 elements. -/
def outBytes (f : Nat) : Nat := if isMX f then recordBytes f else fmtBits f / 8

/-- The bytes of row r of a set in an output format. -/
def drainRow (s : AccSet) (f : Nat) (rd : Nat → Rnd) (r : Nat) : List Byte :=
  let v (c : Nat) : Num := accNum s.l (SMap.get 0 s.a (r * 256 + c)) (SMap.get 0 s.spec (r * 256 + c))
  if isMX f then
    ((List.range (s.n / 32)).map (fun j =>
      mxBlock f (fun i => rd (32 * j + i)) ((List.range 32).map (fun i => v (32 * j + i))))).flatten
  else if f = 11 then
    ((List.range s.n).map (fun c =>
      (LWord.ofElem 0 (SMap.get 0 s.a (r * 256 + c)).toInt (SMap.get 0 s.spec (r * 256 + c)) s.l s.wrapped).bytes)).flatten
  else ((List.range s.n).map (fun c => leBytes (fmtBits f / 8) (encodeNum (fmtOf f) (rd c) (v c)))).flatten

/-- The rounding of element (r, c): nearest even, keyed stochastic, or from the entropy source (R87, R90, R91). -/
def Dev.rounding (d : Dev) (p : Nat) (w : Cmd) (ebase epitch : Word) (n r c : Nat) : Rnd :=
  if !bit w 106 then .ne
  else
    let j := d.partEff p
    if d.fb (pgPART j) PART_JKCTL_VALID then
      .sr (srmix (d.pt j).k0 (d.pt j).k1 (BitVec.ofNat 64 (d.stepOf j)) (BitVec.ofNat 16 (fld w 105 90))
        (ebase + BitVec.ofNat 64 r * epitch + BitVec.ofNat 64 c))
    else .sr ((Config.freeWord (d.free + r * n + c)).toNat % 2 ^ 32)

/-- Bytes of a row of n elements. -/
def rowBytes (f n : Nat) : Nat := if isMX f then n / 32 * recordBytes f else n * (fmtBits f / 8)

/-- Whether bytes of a row of a TDRAIN fall within the cluster's own slot beyond the store (R50): rows begin at I[DREG] + r·I[SREG]. -/
def Dev.drainRange (d : Dev) (p : Nat) (w : Cmd) (a pitch : Word) : Bool :=
  let (m, n) := (d.cl p).setShape (setOf w)
  let b := ownSlot (d.lcEff p)
  let len := rowBytes (fld w 110 107) n
  d.lcEff p ≠ 0x3FF && (List.range m).any (fun r =>
    let x := d.here (a + BitVec.ofNat 64 r * pitch).toNat
    decide (0 < len ∧ x < b + 2 ^ 25 ∧ b + STORE_END < x + len))

/-- A TDRAIN reads its set and writes its rows. -/
def Dev.drain (d : Dev) (p : Nat) (u : UCmd) : Dev :=
  let s := (d.cl p).acc (setOf u.w)
  let arg (i : Nat) : Word := BitVec.ofNat 64 (u.args.getD i 0)
  let d0 := d
  let d := if bit u.w 106 && !d.fb (pgPART (d.partEff p)) PART_JKCTL_VALID then { d with free := d.free + s.m * s.n } else d
  let d := forN s.m (fun r d =>
    let bs := drainRow s (fld u.w 110 107) (d0.rounding p u.w (arg 2) (arg 3) s.n r) r
    let a := (arg 0 + BitVec.ofNat 64 r * arg 1).toNat
    if bs = [] then d else d.storeRun p (.unit p u.id) (d.parity (d.partEff p)) 0 false true a bs []) d
  let left := (d.net.xfers.filter (fun x => x.owner = .unit p u.id)).length
  d.updUnit p u.id (fun u => { u with started := true, left := left, fin := decide (left = 0), status := ST_OK })

/-! TEXPORT (R81, R83, R158, R269). -/

/-- The long words of elements, ten to a packet, or MEANVAR records, five to a packet. -/
def exportPackets (rkind : Nat) (s : AccSet) : List (Nat × List Byte) :=
  let n := s.m * s.n
  let per := if rkind = 2 then 5 else 10
  let sz := if rkind = 2 then 48 else 24
  let one (i : Nat) : List Byte :=
    let e := i / s.n * 256 + i % s.n
    let x := LWord.ofElem rkind (SMap.get 0 s.a e).toInt (SMap.get 0 s.spec e) s.l s.wrapped
    if rkind = 2 then x.bytes ++ x.square.bytes else x.bytes
  (List.range (cdiv n per)).map (fun q =>
    (64 + q * per * sz, ((List.range (min per (n - q * per))).map (fun i => one (q * per + i))).flatten))

/-- A TEXPORT reads its set and sends its long words; a shadow's are not sent (Table 11.6). -/
def Dev.export_ (d : Dev) (p : Nat) (u : UCmd) : Dev :=
  let w := u.w
  let s := (d.cl p).acc (setOf w)
  let wep := fld w 108 101
  if !(isCD wep || isMB wep) then d.finUnit p u.id ST_UNMAPPED
  else if d.shadowing p then d.finUnit p u.id ST_OK
  else
    let step (x : Dev × Bool) (q : Nat × List Byte) : Dev × Bool :=
      let pk : Pkt := {
        loc := .dst 0 0, typ := T_LWORD, part := d.partOf p, dep := wep, dcl := fld w 100 98, mcg := fld w 97 86,
        len := q.2.length, addr := (u.args.getD 0 0 + q.1) % 2 ^ 52, data := q.2, sub := fld w 110 109,
        dpanel := d.self, spanel := d.self }
      match x.1.inject (dieOf p) (cOf p) pk with
      | some d' => (d', x.2)
      | none => (x.1, true)
    let (d, gone) := (exportPackets (fld w 110 109) s).foldl step (d, false)
    d.finUnit p u.id (if gone then ST_ABSENT else ST_OK)

/-! TMMA. -/

/-- What the start of a TMMA finds at the ring of an operand (R110): wait for a descriptor, a mismatch, or a match. -/
def Dev.ringCheck (d : Dev) (p : Nat) (w : Cmd) (src role fmt : Nat) : Option Bool :=
  if src = 4 then some true
  else
    let e := (d.cl p).eng src
    if e.desc = [] then none
    else some (e.feed && decide (e.fd 0 58 58 = role ∧ e.fmt = fmt ∧ e.passk = fld w 88 73 + 1) && (e.scanOn || !bit w 32))

/-- Read an operand from the store (R50), with whether it is poisoned. -/
def Dev.storeOper (d : Dev) (p fmt lanes valid k off : Nat) : Oper × Dev :=
  let (eb, sb) := passBytes fmt k lanes
  let (g, d) := d.readStore p off eb
  let (h, d) := d.readStore p (off + eb) sb
  ({ fmt := fmt, lanes := lanes, ring := none, off := off, spp := 0, slotsLeft := 0, took := 0, rsk := 0, el := g.bytes,
     sc := h.bytes, maxes := [], pois := usesPois fmt lanes valid g.px h.px }, d)

/-- The operand of a TMMA at its start: a store operand is read, a ring operand waits for its slots. -/
def Dev.operStart (d : Dev) (p : Nat) (w : Cmd) (src off fmt lanes valid : Nat) : Oper × Dev :=
  if src = 4 then d.storeOper p fmt lanes valid (fld w 88 73 + 1) off
  else
    let e := (d.cl p).eng src
    ({ fmt := fmt, lanes := lanes, ring := some src, off := 0, spp := e.spp, slotsLeft := e.spp, took := 0, rsk := e.rsk, el := [],
       sc := [], maxes := [], pois := false }, d)

/-- The pass of a TMMA begins; its set is cleared (R38). WRAPPED still tells of the set's last pass; until a WAUTO pass has its
scale maxima the window base reads WBASE (log entry 127). -/
def Dev.passStart (d : Dev) (p : Nat) (u : UCmd) : Dev :=
  let w := u.w
  let m := fld w 72 66 + 1
  let n := fld w 65 58 + 1
  let (a, d) := d.operStart p w (fld w 103 101) (u.args.getD 0 0) (fld w 111 108) 128 m
  let (b, d) := d.operStart p w (fld w 96 94) (u.args.getD 1 0) (fld w 107 104) 256 n
  let x : Pass := {
    id := u.id, set := setOf w, k := fld w 88 73 + 1, m := m, n := n, tile := fld w 57 34,
    wauto := bit w 32, l0 := sfld w 31 20, shift := 8 * (u.args.getD 2 0 + 1), rlim := u.args.getD 3 0, tries := 0,
    held := d.eligible p w && d.chosen p (fld w 57 34), a := a, b := b }
  let d := (d.setAcc p x.set { l := x.l0, wrapped := ((d.cl p).acc x.set).wrapped }).rampStart p
  (d.updCl p (fun c => { c with pass := some x })).updUnit p u.id (fun u => { u with started := true })

/-- Whether an issued tensor command may start now (R39, R287). -/
def Clu.mayStart (c : Clu) (i : Nat) : Bool :=
  let before := (c.units.take i).filter (fun v => v.unit = .tensor)
  match c.units[i]? with
  | none => false
  | some u =>
    u.unit = .tensor && !u.started &&
      (if opcOf u.w = 0x40 then
        c.pass.isNone && c.tickets.isEmpty && before.all (fun v => opcOf v.w ≠ 0x40 || v.fin) &&
          before.all (fun v => opcOf v.w = 0x40 || setOf v.w ≠ setOf u.w || v.started)
      else before.all (fun v => if opcOf v.w = 0x40 then setOf v.w ≠ setOf u.w || v.fin else v.started))

/-- Start one tensor command that may start; none when nothing may. A ring mismatch faults with FORMAT before any effect. -/
def Dev.tensorStart (d : Dev) (p : Nat) : Option Dev :=
  let c := d.cl p
  (List.range c.units.length).findSome? (fun i =>
    if !c.mayStart i then none
    else match c.units[i]? with
      | none => none
      | some u =>
        match opcOf u.w with
        | 0x42 => some (d.drain p u)
        | 0x43 => some (d.export_ p u)
        | _ =>
          match d.ringCheck p u.w (fld u.w 103 101) 0 (fld u.w 111 108), d.ringCheck p u.w (fld u.w 96 94) 1 (fld u.w 107 104) with
          | none, _ => none
          | _, none => none
          | some true, some true => some (d.passStart p u)
          | _, _ =>
            let d := d.updCl p (fun c => { c with units := c.units.filter (fun v => v.id ≠ u.id) })
            some (if u.orphan ∨ (d.cl p).seq.st = .fault then d else d.seqFault p F_FORMAT u.pc u.w))

/-- Start tensor commands while one may start. -/
def Dev.tensorPump (d : Dev) (p : Nat) : Dev :=
  (List.range 9).foldl (fun (x : Dev × Bool) _ =>
    if x.2 then x else match x.1.tensorStart p with
      | some d' => (d', false)
      | none => (x.1, true)) (d, false) |>.1

/-! Slots (R105, R116). -/

/-- Change the operand of the pass that reads ring n. -/
def Pass.updRing (x : Pass) (n : Nat) (f : Oper → Oper) : Pass :=
  { x with a := if x.a.ring = some n then f x.a else x.a, b := if x.b.ring = some n then f x.b else x.b }

/-- Change the pass in progress. -/
def Dev.updPass (d : Dev) (p : Nat) (f : Pass → Pass) : Dev :=
  d.updCl p (fun c => { c with pass := c.pass.map f })

/-- Free bytes (log entry 4). -/
def Dev.freeBytes (d : Dev) (n : Nat) : List Byte × Dev :=
  ((List.range n).map (fun i => (Config.freeWord (d.free + i)).setWidth 8), { d with free := d.free + n })

/-- The pass needs slots that ring n will never fill: they read poisoned with no stated value (R116). -/
def Dev.underrun (d : Dev) (p n : Nat) (x : Pass) (o : Oper) : Dev :=
  let need := x.k * o.lanes * fmtBits o.fmt / 8 - o.el.length
  let needs := (if isMX o.fmt then x.k / 32 * o.lanes else 0) - o.sc.length
  let (eb, d) := d.freeBytes need
  let (sb, d) := d.freeBytes needs
  let d := if ((d.cl p).eng n).desc = [] then d else d.dftErr p n 3 ST_POISONED
  d.updPass p (fun x => x.updRing n (fun o => { o with
    slotsLeft := 0, el := o.el ++ eb, sc := o.sc ++ sb, pois := true }))

/-- A WAUTO pass has the maxima of both operands: its set's window base is L0 = h − 80 (R74, Table 3.12). -/
def Dev.autoBase (d : Dev) (p : Nat) : Dev :=
  match (d.cl p).pass with
  | some x =>
    if x.wauto ∧ 0 < x.a.took ∧ 0 < x.b.took then d.setAcc p x.set { (d.cl p).acc x.set with l := x.base } else d
  | none => d

/-- Read the next slot of ring n for the pass; `x`, `o`: the pass and its operand. -/
def Dev.takeSlot (d : Dev) (p n : Nat) (x : Pass) (o : Oper) : Dev :=
  let e := (d.cl p).eng n
  let at_ := e.rbase + e.consumed % e.depth * e.slotb
  let eb := e.kt * e.lanes * fmtBits e.fmt / 8
  let sb := if isMX e.fmt then e.kt / 32 * e.lanes else 0
  let (g, d) := d.readStore p at_ eb
  let (h, d) := d.readStore p (at_ + e.elArea) sb
  let valid := if o.lanes = 128 then x.m else x.n
  let first := o.took = 0
  let slot := e.consumed - e.sofs
  let mx := ((e.marks.find? (fun k => k.slot = slot)).map (·.maxes)).getD []
  let d := d.updEng p n (fun e => { e with consumed := e.consumed + 1 })
  let d := d.updPass p (fun x => x.updRing n (fun o => { o with
    slotsLeft := o.slotsLeft - 1, took := o.took + 1, el := o.el ++ g.bytes, sc := o.sc ++ h.bytes,
    slots := o.slots ++ [(at_, eb), (at_ + e.elArea, sb)],
    off := if first then slot else o.off, maxes := if first then mx else o.maxes,
    pois := o.pois || usesPois e.fmt e.lanes valid g.px h.px }))
  let d := d.autoBase p
  if x.held then d else d.sigAdd p e.rsk 1 (some n)

/-- TENSOR_SLOT_CONSUMED (R105, R116). -/
def execTensorSlotConsumed (p n : Nat) (s : State) : Host.Outcome State Fault Refusal :=
  s.run (decide (p < Config.clusters ∧ n < 4)) (fun _ d =>
    match (d.cl p).pass with
    | none => d
    | some x =>
      match (if x.a.ring = some n then some x.a else if x.b.ring = some n then some x.b else none) with
      | none => d
      | some o =>
        let e := (d.cl p).eng n
        if o.slotsLeft = 0 then d
        else if e.consumed < d.fskGrowth p e ∧ e.consumed < e.signalled then d.takeSlot p n x o
        else if (e.st = .done ∨ e.st = .stopped ∨ e.st = .idle) ∧ e.signalled ≤ e.consumed then d.underrun p n x o
        else d)

/-! Retry (R40, R112). -/

/-- Rewind one operand of the pass to its first k-step. -/
def Dev.operRewind (d : Dev) (p : Nat) (x : Pass) (o : Oper) : Dev :=
  match o.ring with
  | none => d
  | some n =>
    let e := (d.cl p).eng n
    let d := if x.held ∧ 0 < o.took then d.sigAdd p e.rsk o.took (some n) else d
    let d := if 0 < o.took then d.dftRewind p n o.off else d
    let d := d.updPass p (fun x => x.updRing n (fun o => { o with
      slotsLeft := o.spp, took := 0, el := [], sc := [], slots := [], pois := false }))
    if (e.st = .stopped ∨ e.st = .idle) ∧ 0 < o.took then d.underrun p n x { o with el := [], sc := [] } else d

/-- TENSOR_OVERFLOW_RETRY (R40, R72): the set is cleared, the operands rewound, the window base raised. -/
def execTensorOverflowRetry (p : Nat) (s : State) : Host.Outcome State Fault Refusal :=
  s.run (decide (p < Config.clusters)) (fun _ d =>
    match (d.cl p).pass with
    | none => d
    | some x =>
      if x.overflow ∧ x.mayRetry then
        let d := d.addWrap (pgCLU p) CLU_TBUSY_COUNT (busyCycles x.a.fmt x.b.fmt (min x.k (min x.a.avail x.b.avail)))
        let (a, d) := match x.a.ring with
          | none => d.storeOper p x.a.fmt 128 x.m x.k x.a.off
          | some _ => (x.a, d)
        let (b, d) := match x.b.ring with
          | none => d.storeOper p x.b.fmt 256 x.n x.k x.b.off
          | some _ => (x.b, d)
        let y := { x with tries := x.tries + 1, a := a, b := b }
        let d := (d.updPass p (fun _ => y)).setAcc p x.set { l := y.base, rtry := y.tries, wrapped := ((d.cl p).acc x.set).wrapped }
        (d.operRewind p y y.a).operRewind p y y.b
      else d)

/-! The end of a pass (R72, R76, R77). -/

/-- The pass no longer needs its marks (R112). -/
def Dev.dropMark (d : Dev) (p : Nat) (o : Oper) : Dev :=
  match o.ring with
  | none => d
  | some n => d.updEng p n (fun e => { e with marks := e.marks.filter (fun m => m.slot ≠ o.off) })

/-- The pass ends with its set, counts, checks and completion status. -/
def Dev.passEnd (d : Dev) (p : Nat) (x : Pass) (errs : List (Nat × Nat)) : Dev :=
  let pg := pgCLU p
  let wrapped := x.overflow
  let bad := x.a.pois || x.b.pois
  let set := x.result errs wrapped
  let d := (d.setAcc p x.set set).addWrap pg CLU_TBUSY_COUNT (busyCycles x.a.fmt x.b.fmt x.k)
  let d := if wrapped then d.addSat pg CLU_WRAP_COUNT else d
  let d := if 0 < x.tries then d.addWrap pg CLU_RETRY_COUNT else d
  let w := ((d.unit p x.id).map (·.w)).getD 0
  let d := (d.updCl p (fun c => { c with pass := none, tensAt := d.gt })).finUnit p x.id
    (if bad then ST_POISONED else if 0 < x.tries then ST_RETRIED else ST_OK)
  let d := (d.dropMark p x.a).dropMark p x.b
  let d := if bad then (if x.held then d.releaseSlots p x.a x.b else d)
    else
      let (flag, d) := d.residueCheck p x errs
      if x.held then d.openPly p w x set flag
      else if flag then
        let j := d.partOf p
        (d.updPt j (fun q => { q with flags := q.flags ++ [(d.lcOf p, x.tile, tdig set, p)] })).abortReq j p
      else d
  d.tensorPump p

/-- TENSOR_PASS_END (R72): refused by the machine while a retry is due. -/
def execTensorPassEnd (p : Nat) (errs : List (Nat × Nat)) (s : State) : Host.Outcome State Fault Refusal :=
  s.run (decide (p < Config.clusters)) (fun _ d =>
    match (d.cl p).pass with
    | none => d
    | some x =>
      if !x.full then d
      else if x.overflow ∧ x.mayRetry then d
      else d.passEnd p x errs)

end Sys2Proof.Machine
end

