-- ==== Sys2Proof/Machine/Ply.lean ====
section
/-!
DEFINITION. Parking and gating of a cluster (R268, R289) and the meanings of the ply events (R286 to R291). Tickets and
digests travel as packets to the ply mailbox, and a partner reads the held slots with packets of its own (R286).
-/

namespace Sys2Proof.Machine

/-! Parking (R268). -/

/-- The wait that parked a cluster ends. -/
def Dev.unpark (d : Dev) (p : Nat) : Dev := (d.ungate p).updCl p (fun c => { c with park := none })

/-- The tensor and vector queues of a cluster are empty. -/
def Clu.unitsIdle (c : Clu) : Bool :=
  c.units.all (fun u => (u.unit ≠ .tensor && u.unit ≠ .vector) || u.fin) && c.pass.isNone && c.tickets.isEmpty

/-! Ply events. -/

/-- The record a ticket belongs to. -/
def Dev.plyOf (d : Dev) (pri id : Nat) : Option PlyRec := (d.cl pri).plys.find? (fun r => r.id = id)

/-- The first packet at cluster p's mailbox that `sel` names is taken out and answered, unless the cluster refuses it. -/
def Dev.takeMail (d : Dev) (p : Nat) (sel : List Byte → Bool) : Option (List Byte × Bool × Dev) :=
  match d.net.pkts.find? (fun q => q.loc = .dst (dieOf p) (cOf p) && mailbox q && sel q.data) with
  | none => none
  | some q =>
    let d := d.updNet (fun n => { n with pkts := n.pkts.erase q })
    match d.cluShut (dieOf p) (cOf p) q with
    | some d' => some (q.data, false, d')
    | none => some (q.data, true, d.respond (dieOf p) (cOf p) q ST_OK [])

/-- PLY_TICKET_ARRIVE (R286, R289): the ticket that stands in the mailbox of cluster p joins its queue; a gated cluster is
ungated. One whose record has gone, or has been reissued elsewhere, has no effect. -/
def execPlyTicketArrive (p pri id : Nat) (s : State) : Host.Outcome State Fault Refusal :=
  s.run (decide (p < Config.clusters ∧ pri < Config.clusters)) (fun _ d =>
    match d.takeMail p (fun bs => bs = ticketMail pri id) with
    | none => d
    | some (_, false, d) => d
    | some (_, true, d) =>
      match d.plyOf pri id with
      | none => d
      | some r =>
        if r.sent ∧ r.target = p then
          let d := d.updPly pri id (fun r => { r with sent := false })
          let d := d.updCl p (fun c => { c with tickets := c.tickets ++ [{ pri := pri, id := id }] })
          (d.ungate p).updCl p (fun c => { c with park := c.park.map (fun _ => d.gt) })
        else d)

/-- The tensor engine may turn to a ply pass now (R287): idle, or waiting for the first slot of its next pass. -/
def Clu.plyFree (c : Clu) : Bool :=
  !(c.tickets.any (·.ran)) &&
    match c.pass with
    | none => true
    | some x => x.a.took = 0 && x.b.took = 0 && !x.full

/-- A queued TDRAIN or TEXPORT of an accumulator set has still to read the set's last TMMA result. -/
def Clu.unread (c : Clu) (set : Nat) : Bool :=
  let mine := c.units.filter (fun u => u.unit = .tensor && setOf u.w = set && !u.fin)
  (mine.takeWhile (fun u => opcOf u.w ≠ 0x40)).any (fun u => !u.started)

/-- The accumulator set a ply pass uses: one that the cluster's own pass does not hold, and that every queued command which
reads its last result has read (R287). -/
def Clu.plySet (c : Clu) : Option Nat :=
  [0, 1].find? (fun s => (match c.pass with
    | some x => x.set ≠ s
    | none => true) && !c.unread s)

/-- The reads of an operand's held slots, through the cluster-store window of the primary's logical cluster (R286). -/
def Dev.plyReads (d : Dev) (p : Nat) (r : PlyRec) (pri side : Nat) (o : Oper) : Dev :=
  d.request (dieOf p) (cOf p) (.plyRead p pri r.id side) T_RD 15 0 true false none
    (o.slots.flatMap (fun x => (pieces (ownSlot (d.lcOf pri) + x.1) x.2).map (fun y => { addr := y.1, len := y.2 })))

/-- PLY_PASS_RUN (R287): the oldest queued ticket begins; its operands are read from the primary. -/
def execPlyPassRun (p : Nat) (s : State) : Host.Outcome State Fault Refusal :=
  s.run (decide (p < Config.clusters)) (fun _ d =>
    let c := d.cl p
    match c.tickets.head?, c.plySet with
    | some t, some set =>
      match (if c.plyFree then d.plyOf t.pri t.id else none) with
      | none => d
      | some r =>
        let d := d.updCl p (fun c => { c with tickets := { t with ran := true, set := set } :: c.tickets.drop 1 })
        (d.plyReads p r t.pri 0 r.a).plyReads p r t.pri 1 r.b
    | _, _ => d)

/-- A ticket ends at the cluster that ran it: it leaves the queue, and a cluster that is still parked waits LENDUS µs again
(R289). -/
def Dev.ticketEnds (d : Dev) (p : Nat) (t : Ticket) : Dev :=
  d.updCl p (fun c => { c with
    tickets := c.tickets.filter (fun u => !(u.pri = t.pri && u.id = t.id)), park := c.park.map (fun _ => d.gt) })

/-- A ticket could not be delivered: it is reissued (R288, R293). -/
def Dev.ticketLost (d : Dev) (pri id q : Nat) : Dev :=
  match d.plyOf pri id with
  | some r => if r.sent ∧ r.target = q then d.reissue pri r else d
  | none => d

/-- The reads of an operand have ended (R286, R288): the bytes are kept, and a referee that has read both operands frees the slots.
A status other than OK, a poisoned slot among them, ends the execution: the ticket is reissued. -/
def Dev.plyReadEnds (d : Dev) (p pri id side status : Nat) (bs : List Byte) : Dev :=
  match (d.cl p).tickets.find? (fun t => t.pri = pri && t.id = id && t.ran), d.plyOf pri id with
  | some t, some r =>
    if status ≠ ST_OK then (((d.ticketEnds p t).absorb (fun o => o = .plyRead p pri id (1 - side))).reissue pri r).tensorPump p
    else
      let d := d.updCl p (fun c => { c with tickets := c.tickets.map (fun u =>
        if u.pri = pri ∧ u.id = id then { u with got := u.got ++ [(side, bs)] } else u) })
      if t.got ≠ [] ∧ r.toRef ∧ !r.freed then (d.updPly pri id (fun r => { r with freed := true })).releaseSlots pri r.a r.b
      else d
  | _, _ => d

/-- An operand as the reads of its slots brought it: elements and scales of each slot in turn. -/
def Oper.fromSlots (o : Oper) (bs : List Byte) : Oper :=
  let step (x : Oper × List Byte × Bool) (r : Nat × Nat) : Oper × List Byte × Bool :=
    let (o, l, sc) := x
    (if sc then { o with sc := o.sc ++ l.take r.2 } else { o with el := o.el ++ l.take r.2 }, l.drop r.2, !sc)
  (o.slots.foldl step ({ o with el := [], sc := [], pois := false }, bs, false)).1

/-- The pass a ply execution makes of the operands it read: one attempt at the ticket's window base (R73, R76, R286). -/
def PlyRec.pass (r : PlyRec) (t : Ticket) : Pass :=
  let bytes (side : Nat) : List Byte := ((t.got.find? (fun g => g.1 = side)).map (·.2)).getD []
  { id := 0, set := t.set, k := r.k, m := r.m, n := r.n, tile := r.tile, wauto := false, l0 := r.l,
    shift := r.shift, rlim := r.rlim, tries := 0, held := false, a := r.a.fromSlots (bytes 0), b := r.b.fromSlots (bytes 1) }

/-- PLY_PASS_END (R287, R288, R293): both operands have been read and the pass is over; its digest is sent to the primary. `pois`: the
operands were found poisoned as the pass used them (log entry 8), so that it gives no digest and the ticket is reissued. -/
def execPlyPassEnd (p : Nat) (errs : List (Nat × Nat)) (pois : Bool) (s : State) : Host.Outcome State Fault Refusal :=
  s.run (decide (p < Config.clusters)) (fun _ d =>
    match (d.cl p).tickets.find? (·.ran) with
    | none => d
    | some t =>
      match d.plyOf t.pri t.id with
      | none => (d.ticketEnds p t).tensorPump p
      | some r =>
        if t.got.length < 2 then d
        else
          let pg := pgCLU p
          let x := r.pass t
          let set := x.result errs x.overflow
          let d := ((d.setAcc p x.set set).addWrap pg CLU_TBUSY_COUNT (busyCycles x.a.fmt x.b.fmt x.k)).addWrap pg CLU_PLYCNT_DUP
          if pois then ((d.ticketEnds p t).reissue t.pri r).tensorPump p
          else
            let (_, d) := d.residueCheck p x errs
            ((d.ticketEnds p t).mail p t.pri (.digest p) (digestMail p t.id (tdig set))).tensorPump p)

/-- What the digest of cluster `by_` makes of record r of primary p (R291). -/
def Dev.digestCame (d : Dev) (p by_ : Nat) (r : PlyRec) (x : BitVec 128) : Dev :=
  if r.target ≠ by_ ∨ r.sent then d
  else if r.toRef then
    if x = r.d1 then d.plyPartnerWrong p r
    else if some x = r.d2 then d.plyPrimaryWrong p r
    else d.plyUnresolved p r true
  else if x = r.d1 then d.plyAgree p { r with d2 := some x }
  else
    let r' := { r with d2 := some x, toRef := true, xd := [], reissues := 0 }
    (d.updPly p r.id (fun _ => r')).place2 p r' true

/-- PLY_DIGEST_ARRIVE (R291): the digest that stands in the primary's mailbox is compared, and closes the record or brings in a
referee. -/
def execPlyDigestArrive (p id by_ : Nat) (s : State) : Host.Outcome State Fault Refusal :=
  s.run (decide (p < Config.clusters ∧ by_ < Config.clusters)) (fun _ d =>
    match d.takeMail p (fun bs => leNat bs % 2 ^ 128 = 2 + 2 ^ 8 * by_ + 2 ^ 64 * (id % 2 ^ 64)) with
    | none => d
    | some (_, false, d) => d
    | some (bs, true, d) =>
      match d.plyOf p id with
      | some r => d.digestCame p by_ r (BitVec.ofNat 128 (leNat bs / 2 ^ 128))
      | none => d)

/-- PLY_TICKET_TIMEOUT (R288): no digest in time, or the cluster that was to give it is lost. -/
def execPlyTicketTimeout (p id : Nat) (s : State) : Host.Outcome State Fault Refusal :=
  s.run (decide (p < Config.clusters)) (fun _ d =>
    match d.plyOf p id with
    | none => d
    | some r =>
      let q := r.target
      let gone := !d.present (dieOf q) || (d.cl q).fenced || decide (d.pstate q ≠ PS_MAPPED)
      if gone ∨ (r.due ≤ d.gt ∧ !d.fb (pgPART (d.partOf p)) PART_STEP_SUSPD) then d.reissue p r else d)

end Sys2Proof.Machine
end

