-- ==== Sys2Proof/Machine/Vector.lean ====
section
/-!
DEFINITION. The vector unit (R41 to R43, Table 2.10): lanes, elementwise functions, reduction, VLD and VST.
A vector command has its effect when it is issued; vector commands complete in order (R55).
-/

namespace Sys2Proof.Machine

/-- Lane j of vector register v. -/
def Clu.lane (c : Clu) (v j : Nat) : BitVec 32 := SMap.get 0 c.vregs (512 * v + j)

/-- Write the lanes of vector register v. -/
def Dev.setLanes (d : Dev) (p v : Nat) (f : Nat → BitVec 32) : Dev :=
  d.updCl p (fun c => { c with vregs := forN 512 (fun j m => SMap.set 0 m (512 * v + j) (f j)) c.vregs })

/-- VLD: 512 elements of a format from the store, converted to FP32; the flag says that a word was poisoned. -/
def Dev.vload (d : Dev) (p v o fmt : Nat) : Bool × Dev :=
  let b := vbytes fmt
  let (g, d) := d.readStore p o (512 * b)
  let el (j : Nat) : BitVec 32 :=
    let raw := leNat (slice g.bytes (j * b) b)
    if fmt = 10 then BitVec.ofNat 32 raw else word32 (decodeNum (fmtOf fmt) raw)
  (decide (g.px ≠ []), d.setLanes p v el)

/-- VST: 512 lanes converted with nearest even and stored (R41, R87); the store is digested (R333). -/
def Dev.vstore (d : Dev) (p v o fmt : Nat) : Dev :=
  let c := d.cl p
  let b := vbytes fmt
  let el (j : Nat) : List Byte :=
    let x := c.lane v j
    leBytes b (if fmt = 10 then x.toNat else encodeNum (fmtOf fmt) .ne (num32 x))
  d.ownStore p o ((List.range 512).map el).flatten []

/-- The FP32 word of CMPLT: 0 for false, and for true a non-zero word that the spec does not give. -/
def cmplt (free : Nat) (a b : BitVec 32) : BitVec 32 :=
  if ltNum (num32 a) (num32 b) then
    let x := (Config.freeWord free).setWidth 32
    if isNonzero x then x else 0x3F800000#32
  else 0

/-- One lane of a VOP; `k` is the scale factor of SCALE. -/
def vopLane (code : Nat) (k : BitVec 32) (free : Nat) (a b c : BitVec 32) : BitVec 32 :=
  match code with
  | 0 => fadd a b
  | 1 => fsub a b
  | 2 => fmul a b
  | 3 => ffma a b c
  | 4 => fmax a b
  | 5 => fmin a b
  | 6 => canonNan (a &&& 0x7FFFFFFF#32)
  | 7 => canonNan (a ^^^ 0x80000000#32)
  | 8 => cmplt free a b
  | 9 => canonNan (if isNonzero c then a else b)
  | _ => fmul a k

/-- VOP. -/
def Dev.vop (d : Dev) (p : Nat) (w : Cmd) : Dev :=
  let c := d.cl p
  let k : BitVec 32 := (c.seq.ireg (fld w 94 91)).setWidth 32
  let code := fld w 111 106
  let d := d.setLanes p (fld w 105 101) (fun j =>
    vopLane code k (d.free + j) (c.lane (fld w 100 96) j) (c.lane (fld w 95 91) j) (c.lane (fld w 90 86) j))
  if code = 8 then { d with free := d.free + 512 } else d

/-- FP32 constants of Table 2.4. -/
abbrev F_INF : BitVec 32 := 0x7F800000#32
abbrev F_NINF : BitVec 32 := 0xFF800000#32
abbrev F_ONE : BitVec 32 := 0x3F800000#32
abbrev F_NONE : BitVec 32 := 0xBF800000#32

/-- x < v and v < x of FP32 words. -/
def flt (a b : BitVec 32) : Bool := ltNum (num32 a) (num32 b)

/-- The special results of Table 2.4; none: the firmware's function table gives the result. -/
def vfnSpecial (fn : Nat) (x : BitVec 32) : Option (BitVec 32) :=
  let zero : Bool := match num32 x with
    | .fin _ m _ => m = 0
    | _ => false
  let neg := flt x 0#32
  if num32 x = .nan then some qnan
  else match fn with
  | 0 => if flt 0x43000000#32 x then some F_INF else if flt x 0xC3160000#32 then some 0 else none
  | 1 => if zero then some F_NINF else if neg then some qnan else none
  | 2 => if zero then some (F_INF ||| (x &&& 0x80000000#32)) else none
  | 3 => if neg then some qnan else none
  | 4 => if x = 0 then some F_INF else if neg then some qnan else none
  | 5 => if flt x 0x4111999A#32 && flt 0xC111999A#32 x then none else some (if neg then F_NONE else F_ONE)
  | 6 => if flt x 0xC2D00000#32 then some 0 else none
  | 7 => if flt x 0x407AE148#32 && flt 0xC07AE148#32 x then none else some (if neg then F_NONE else F_ONE)
  | _ => none

/-- floor(√n) of a number below 2^(2·f). -/
def isqrt (n f : Nat) : Nat :=
  (List.range f).foldl (fun r i => let r' := r + 2 ^ (f - 1 - i); if r' * r' ≤ n then r' else r) 0

/-- √(n / d · 2^e) rounded once to FP32: the root of 2^160·n/d, with a lowest bit that stands for all that is below it. -/
def sqrt32 (n d : Nat) (e : Int) : BitVec 32 :=
  let (n, e) := if e % 2 = 0 then (n, e) else (2 * n, e - 1)
  let x := n * 2 ^ 160 / d
  let r := isqrt x 100
  let s := 2 * r + (if r * r = x ∧ n * 2 ^ 160 % d = 0 then 0 else 1)
  round32 false s 1 (e / 2 - 81)

/-- What release firmware's tables come to where Table 2.4 bounds an algebraic function: RCP and SQRT at 0.5 ulp are the exact
result rounded to binary32, RSQRT is it or a neighbour; `t`: the table's value (log entry 6). -/
def vfnRelease (fn : Nat) (x t : BitVec 32) : BitVec 32 :=
  match fn, num32 x with
  | 2, .inf neg => if neg then 0x80000000#32 else 0
  | 2, .fin neg m e => round32 neg 1 m (-e)
  | 3, .inf _ => x
  | 3, .fin false m e => sqrt32 m 1 e
  | 4, .fin _ m e => if m = 0 then t else sqrt32 1 m (-e) + BitVec.ofNat 32 (t.toNat % 3) - 1
  | _, _ => t

/-- VFN with the vector function tables of the loaded image, type 1 (R42); the release key's images keep Table 2.4's bounds. -/
def Dev.vfn (d : Dev) (p fn vd va : Nat) : Dev :=
  let c := d.cl p
  let img := SMap.get ({ typ := 1, svn := 0, keysel := 0, digest := 0 } : Image) d.boot.loaded 1
  d.setLanes p vd (fun j =>
    let x := c.lane va j
    let t := Config.vfnTable img.digest fn x
    (vfnSpecial fn x).getD (canonNan (if img.keysel = 0 then vfnRelease fn x t else t)))

/-- VRED: the fixed pairwise tree; lane 0 of VD is written (R43). -/
def Dev.vred (d : Dev) (p kind vd va : Nat) : Dev :=
  let c := d.cl p
  let f := if kind = 0 then fadd else if kind = 1 then fmax else fmin
  let r := reduceTree f 9 (c.lane va)
  d.updCl p (fun c => { c with vregs := SMap.set 0 c.vregs (512 * vd) r })

end Sys2Proof.Machine
end

