-- ==== Sys2Proof/Machine/Sequencer.lean ====
section
/-!
DEFINITION. The command sequencer (R47 to R61): fetch, waits, issue, loops, calls and branches, skein commands,
transfers, unit commands and their completion, power notices (R382, R383).
-/

namespace Sys2Proof.Machine

/-! Fetch and the program counter. -/

/-- The word the store holds at the sequencer's PC (R47). -/
def Dev.fetched (d : Dev) (p : Nat) : Cmd := BitVec.ofNat 128 (leNat (d.bytes (csKey p (16 * (d.cl p).seq.pc)) 16))

/-- After the command at `pc`: innermost levels of the current call depth that end there iterate or close (R58). -/
def Seq.afterAt (s : Seq) (pc : Nat) : List LoopLv → Seq
  | [] => { s with pc := (pc + 1) % 2 ^ 21, loops := [] }
  | l :: t =>
    if l.depth = s.calls.length ∧ l.last = pc then
      let s := s.setIreg l.ireg (s.ireg l.ireg + BitVec.ofInt 64 l.inc)
      if 1 < l.left then { s with pc := l.first, loops := { l with left := l.left - 1 } :: t }
      else s.afterAt pc t
    else { s with pc := (pc + 1) % 2 ^ 21, loops := l :: t }

/-- Execution goes on after the command at PC. -/
def Seq.next (s : Seq) : Seq := s.afterAt s.pc s.loops

/-- A taken branch ends the levels of the current call depth whose body does not hold the target (R58). -/
def Seq.branch (s : Seq) (off : Int) : Seq :=
  let t := wrap 21 (s.pc + off)
  { s with pc := t, loops := s.loops.dropWhile (fun l => l.depth = s.calls.length && !(decide (l.first ≤ t ∧ t ≤ l.last))) }

/-- The sequencer moves on. -/
def Dev.adv (d : Dev) (p : Nat) : Dev := d.updSeq p Seq.next

/-! Completion of a command (R47). -/

/-- The skein of a slot. -/
def Seq.slot (s : Seq) (n : Nat) : Nat := (SMap.get 0 s.slots n).toNat

/-- SIG of a command that completes. -/
def Dev.sig (d : Dev) (p : Nat) (w : Cmd) : Dev :=
  if sigOf w then d.sigAdd p ((d.cl p).seq.slot (slotOf w)) 1 none else d

/-- A command executed by the sequencer at issue: its SIG, then the next command. -/
def Dev.doneNow (d : Dev) (p : Nat) (w : Cmd) : Dev := (d.sig p w).adv p

/-- A command completes at issue with poisoned data: its effects and SIG stand, then POISON (R46, R60). -/
def Dev.donePois (d : Dev) (p : Nat) (w : Cmd) (bad : Bool) : Dev :=
  let pc := (d.cl p).seq.pc
  if bad then (d.sig p w).seqFault p F_POISON pc w else d.doneNow p w

/-! Issue (R55, R56). -/

/-- Whether an earlier command of the stream is incomplete. -/
def Clu.busy (c : Clu) : Bool := c.units.any (fun u => !u.orphan)

/-- What holds a command back: SYNC, a HALT's earlier commands, a register an incomplete command will write, a full queue. -/
def Clu.holds (c : Clu) (w : Cmd) : Bool :=
  (syncOf w && c.busy) || (opcOf w = 0x01 && c.busy) ||
  (readsOf w).any (fun r => r ≠ 0 && c.units.any (fun u => u.wreg = some r)) ||
  match unitOf w with
  | some k => decide (depthOf k ≤ (c.units.filter (fun u => u.unit = k)).length)
  | none => false

/-- Queue a unit command; the answer is its number. -/
def Dev.push (d : Dev) (p : Nat) (k : UnitK) (w : Cmd) (args : List Nat) (wreg : Option Nat) : Nat × Dev :=
  let c := d.cl p
  (c.nextId, d.updCl p (fun c => { c with
    nextId := c.nextId + 1,
    units := c.units ++ [{ id := c.nextId, unit := k, w := w, pc := c.seq.pc, args := args, started := false, fin := false,
                           status := ST_OK, val := 0, wreg := wreg, left := 0, due := none }] }))

/-- A register's value as a number. -/
def Dev.reg64 (d : Dev) (p n : Nat) : Nat := ((d.cl p).seq.ireg n).toNat

/-- Faults of a command's own data that codes 1 to 10 cover beside its fields: TDRAIN rows past the own store (R50),
the content of a notice record (R382). -/
def Dev.dataFault (d : Dev) (p : Nat) (w : Cmd) : Option Nat :=
  match opcOf w with
  | 0x42 =>
    if d.drainRange p w (BitVec.ofNat 64 (d.reg64 p (fld w 89 86))) (BitVec.ofNat 64 (d.reg64 p (fld w 85 82))) then some F_STORE_RANGE
    else none
  | 0x70 =>
    let a := d.reg64 p (fld w 111 108)
    if STORE_END < a + 32 ∨ d.poisoned (csKey p a) 32 then none
    else
      let word (i : Nat) : Word := d.word64 (csKey p (a + 8 * i))
      let n := fld (word 0) 59 58 + 1
      let seg (i : Nat) : Nat := fld (word (2 + i / 2)) (32 * (i % 2) + 31) (32 * (i % 2))
      let bad (i : Nat) : Bool :=
        if i < n then decide (16 < seg i / 2 ^ 27) || decide (seg i / 2 ^ 24 % 2 = 1) || decide (seg i % 2 ^ 24 = 0)
        else decide (seg i ≠ 0)
      if fld (word 0) 63 60 ≠ 1 ∨ fld (word 0) 57 0 ≠ 0 ∨ (List.range 4).any bad then some F_RESERVED_SET else none
  | _ => none

/-- Every fault of codes 1 to 10, the lowest first (R48). -/
def Dev.issueFault (d : Dev) (p : Nat) (w : Cmd) : Option Nat :=
  let c := d.cl p
  let n := (c.setShape (setOf w)).2
  match commandFault w c.seq n with
  | some f => if f ≤ 2 then some f else firstFault [some f, d.dataFault p w]
  | none => d.dataFault p w

/-- Issue a command that nothing holds back: its fault, or its effect. -/
def Dev.issueNow (d : Dev) (p : Nat) (w : Cmd) (op : Dev → Dev) : Dev :=
  match d.issueFault p w with
  | some f => d.seqFault p f (d.cl p).seq.pc w
  | none => op d

/-- A command waits for issue: HALT in RUN, any other in WAIT (Table 2.11). -/
def Dev.hold (d : Dev) (p : Nat) (w : Cmd) : Dev :=
  d.updSeq p (fun s => { s with held := some w, st := if opcOf w = 0x01 then .run else .wait })

/-- The sequencer may issue: in RUN, at a command boundary, its cluster powered and in service. -/
def Dev.mayIssue (d : Dev) (p : Nat) : Bool :=
  let c := d.cl p
  c.seq.st = .run && c.seq.held = none && c.seq.waitId = none && !c.fenced &&
    (d.pstate p = PS_MAPPED || d.shadowing p) && d.present (dieOf p)

/-- The command `w` that the store holds at PC is issued; `op` is its effect. -/
def Dev.issue (d : Dev) (p : Nat) (w : Cmd) (op : Dev → Dev) : Dev :=
  if !d.mayIssue p then d
  else
    let pc := (d.cl p).seq.pc
    if STORE_END ≤ 16 * pc then d.seqFault p F_STORE_RANGE pc w
    else if d.fetched p ≠ w then d
    else
      let (g, d) := d.readStore p (16 * pc) 16
      if g.px ≠ [] then d.seqFault p F_POISON pc w
      else if (d.cl p).holds w ∧ assignedOpc (opcOf w) then d.hold p w
      else d.issueNow p w op

/-! Control commands (R51, R58). -/

/-- The condition of BR. -/
def brCond (c : Nat) (a b : Word) : Bool :=
  match c with
  | 0 => a = b
  | 1 => a ≠ b
  | 2 => a.slt b
  | 3 => !a.slt b
  | 4 => a.ult b
  | 5 => !a.ult b
  | _ => true

/-- HALT: its SIG is performed when it ends the stream, every earlier command complete (log entry 125). -/
def Dev.opHalt (d : Dev) (p : Nat) (w : Cmd) : Dev :=
  (d.sig p w).updSeq p (fun s => { s with st := .idle, held := none })

/-- BR. -/
def Dev.opBr (d : Dev) (p : Nat) (w : Cmd) : Dev :=
  let s := (d.cl p).seq
  if brCond (fld w 111 109) (s.ireg (fld w 108 105)) (s.ireg (fld w 104 101)) then
    (d.sig p w).updSeq p (fun s => s.branch (sfld w 100 85))
  else d.doneNow p w

/-- CALL. -/
def Dev.opCall (d : Dev) (p : Nat) (w : Cmd) : Dev :=
  (d.sig p w).updSeq p (fun s => { s with calls := (s.pc + 1) % 2 ^ 21 :: s.calls, pc := wrap 21 (s.pc + sfld w 100 85) })

/-- RET: the caller's levels are tested again at the CALL (log entry 26). -/
def Dev.opRet (d : Dev) (p : Nat) (w : Cmd) : Dev :=
  (d.sig p w).updSeq p (fun s => match s.calls with
    | r :: t => { s with calls := t }.afterAt ((r + 2 ^ 21 - 1) % 2 ^ 21) s.loops
    | [] => s)

/-- LOOP. -/
def Dev.opLoop (d : Dev) (p : Nat) (w : Cmd) : Dev :=
  let s := (d.cl p).seq
  let body := fld w 90 79
  let c := if bit w 111 then (s.ireg (fld w 110 107)).toNat % 2 ^ 32 else fld w 106 91
  if c = 0 then (d.sig p w).updSeq p (fun s => s.afterAt (s.pc + body) s.loops)
  else (d.sig p w).updSeq p (fun s => { s with
    pc := (s.pc + 1) % 2 ^ 21,
    loops := { first := s.pc + 1, last := s.pc + body, left := c, ireg := fld w 78 75, inc := sfld w 74 59,
               depth := s.calls.length } :: s.loops })

/-! Integer commands (R52). -/

/-- Write a register and go on. -/
def Dev.setI (d : Dev) (p : Nat) (w : Cmd) (n : Nat) (v : Word) : Dev :=
  (d.updSeq p (fun s => s.setIreg n v)).doneNow p w

/-- ALU functions. -/
def aluOp (f : Nat) (a b : Word) : Word :=
  let n := b.toNat % 64
  match f with
  | 0 => a + b
  | 1 => a - b
  | 2 => a * b
  | 3 => a &&& b
  | 4 => a ||| b
  | 5 => a ^^^ b
  | 6 => a <<< n
  | 7 => a >>> n
  | 8 => a.sshiftRight n
  | 9 => if a.slt b then a else b
  | _ => if a.slt b then b else a

/-- GETS. -/
def Dev.getsVal (d : Dev) (p sel : Nat) : Word :=
  let j := d.partEff p
  BitVec.ofNat 64 (match sel with
    | 0 => d.lcEff p
    | 1 => d.stepOf j
    | 2 => j
    | 3 => d.parity j
    | 4 => d.gtAt (dieOf p)
    | _ => d.f (pgCLU p) CLU_WRAP_COUNT)

/-- LDS: a poisoned word is written, then faults. -/
def Dev.opLds (d : Dev) (p : Nat) (w : Cmd) : Dev :=
  let a := wrap 64 (d.reg64 p (fld w 107 104) + sfld w 103 80)
  let (g, d) := d.readStore p a 8
  (d.updSeq p (fun s => s.setIreg (fld w 111 108) (BitVec.ofNat 64 (leNat g.bytes)))).donePois p w (decide (g.px ≠ []))

/-- STS. -/
def Dev.opSts (d : Dev) (p : Nat) (w : Cmd) : Dev :=
  let a := wrap 64 (d.reg64 p (fld w 107 104) + sfld w 103 80)
  (d.ownStore p a (leBytes 8 (d.reg64 p (fld w 111 108))) []).doneNow p w

/-! Skein commands (R51, R59, R251, R260). -/

/-- The operand of a SKOP. -/
def Dev.skOperand (d : Dev) (p : Nat) (w : Cmd) : Nat :=
  if bit w 97 then (if fld w 111 108 = 1 then wrap 64 (sfld w 96 65) else fld w 96 65) else d.reg64 p (fld w 101 98)

/-- Whether the skein operations of a cluster are answered by a result log (Table 11.6). -/
def Dev.issueSk (d : Dev) (p id sop sk opd tmo : Nat) : Dev :=
  if d.shadowing p then d
  else
    let wait := sop = 2 || sop = 3
    d.request (dieOf p) (cOf p) (.unit p id) T_SKOP (d.partOf p) 0 (!wait) false none
      [{ addr := sk, len := 8, data := leBytes 8 opd, sub := sop, tmo := if wait then tmo else 0 }]

/-- SKOP; with ASYNC the command completes at issue. -/
def Dev.opSkop (d : Dev) (p : Nat) (w : Cmd) : Dev :=
  let sk := (d.cl p).seq.slot (fld w 107 102)
  let sop := fld w 111 108
  let opd := d.skOperand p w
  if bit w 32 then
    let d := if d.shadowing p then d else d.request (dieOf p) (cOf p) (.hwAdd p none) T_SKOP (d.partOf p) 0 true false none
      [{ addr := sk, len := 8, data := leBytes 8 opd, sub := sop }]
    d.doneNow p w
  else
    let tmo := fld w 48 33
    let (id, d) := d.push p .net w [] (if sop = 0 then some (fld w 101 98) else none)
    let d := d.updUnit p id (fun u => { u with started := true, due := if tmo = 0 then none else some (d.gt + 4000 * tmo) })
    let d := d.updSeq p (fun s => { s with waitId := some id, st := .wait })
    let d := if sop = 2 ∨ sop = 3 then d.updCl p (fun c => { c with park := some d.gt }) else d
    d.issueSk p id sop sk opd tmo

/-- BSK: a READ that holds issue. -/
def Dev.opBsk (d : Dev) (p : Nat) (w : Cmd) : Dev :=
  let sk := (d.cl p).seq.slot (fld w 108 103)
  let (id, d) := d.push p .seq w [d.reg64 p (fld w 102 99) % 2 ^ 48] none
  let d := d.updUnit p id (fun u => { u with started := true })
  let d := d.updSeq p (fun s => { s with waitId := some id, st := .wait })
  d.issueSk p id 0 sk 0 0

/-! Transfers (R52, R135, R199, R261, R278). -/

/-- An access of exactly eight aligned bytes may act on a skein operation port (R261). -/
def port8 (a n : Nat) : Bool := n = 8 && a % 8 = 0

/-- A local or global address of the skein operation ports. -/
def isSkPort (a : Nat) : Bool := decide (3 * 2 ^ 48 ≤ a % 2 ^ 52 ∧ a % 2 ^ 52 < 3 * 2 ^ 48 + 2 ^ 47)

/-- The transfer of a PUT: the store bytes are read and sent. -/
def Dev.startPut (d : Dev) (p id : Nat) : Dev :=
  match d.unit p id with
  | none => d
  | some u =>
    let o := u.args.getD 0 0
    let a := u.args.getD 1 0
    let n := u.args.getD 2 0
    let csk := u.args.getD 3 0
    let (g, d) := d.readStore p o n
    let j := d.partEff p
    let d := d.updUnit p id (fun u => { u with
      started := true, val := match g.px with
        | [] => 0
        | x :: _ => x / 256 + 1 })
    if port8 a n && isSkPort a then
      if d.shadowing p ∨ (d.panelShadow j ∧ d.offPanel a) then d
      else d.request (dieOf p) (cOf p) (.unit p id) T_WR j csk true true none (wrReqs a g.bytes g.px)
    else d.storeRun p (.unit p id) (d.parity j) csk false false a g.bytes g.px

/-- The GT at which a staggered PUT's slot begins (R278). -/
def Dev.staggerAt (d : Dev) (p : Nat) : Nat :=
  let w := d.f pgWHL WHL_SKNCTL_STAGUS * 4000
  let g := d.f pgWHL WHL_SKNCTL_SGRPM1 + 1
  let s := d.gt / w
  (s + (d.lcEff p % g + g - s % g) % g) * w

/-- Whether a PUT is staggered: 4 KiB or more into the cluster-store window or a winder store. -/
def Dev.staggers (d : Dev) (a n : Nat) : Bool :=
  let x := a % 2 ^ 52
  d.f pgWHL WHL_SKNCTL_STAGUS != 0 && decide (4096 ≤ n) &&
    (decide (2 ^ 49 ≤ x ∧ x < 2 ^ 49 + 800 * 2 ^ 25) || decide (3 * 2 ^ 48 + 2 ^ 47 ≤ x ∧ x < 4 * 2 ^ 48))

/-- PUT. -/
def Dev.opPut (d : Dev) (p : Nat) (w : Cmd) : Dev :=
  let a := d.reg64 p (fld w 107 104)
  let n := fld w 103 84 + 1
  let (id, d) := d.push p .net w [d.reg64 p (fld w 111 108), a, n, (d.cl p).seq.slot (fld w 83 78)] none
  let d := d.adv p
  if d.staggers a n ∧ d.gt < d.staggerAt p then
    d.updCl p (fun c => { c with stag := c.stag ++ [(id, d.staggerAt p)] })
  else d.startPut p id

/-- GET. -/
def Dev.opGet (d : Dev) (p : Nat) (w : Cmd) : Dev :=
  let o := d.reg64 p (fld w 111 108)
  let a := d.reg64 p (fld w 107 104)
  let n := fld w 103 84 + 1
  let j := d.partEff p
  let csk := (d.cl p).seq.slot (fld w 83 78)
  let (id, d) := d.push p .net w [o, a, n, csk] none
  let d := (d.updUnit p id (fun u => { u with started := true })).adv p
  if port8 a n && isSkPort a then
    d.request (dieOf p) (cOf p) (.unit p id) T_RD j csk true true (some (csKey p o)) [{ addr := a, len := 8 }]
  else
    let (b, d) := d.xlatAddr p j (d.parity j) false a
    d.request (dieOf p) (cOf p) (.unit p id) T_RD j csk true false (some (csKey p o))
      ((pieces b n).map (fun x => { addr := x.1 % 2 ^ 64, len := x.2 }))

/-- ATOM: the old value goes to I[VREG] at completion. -/
def Dev.opAtom (d : Dev) (p : Nat) (w : Cmd) : Dev :=
  let aop := fld w 103 100
  let vr := fld w 107 104
  let v := d.reg64 p vr
  let v2 := if aop = 1 then d.reg64 p (vr + 1) else 0
  let j := d.partEff p
  let csk := (d.cl p).seq.slot (fld w 99 94)
  let a := d.reg64 p (fld w 111 108)
  let (id, d) := d.push p .net w [a, v, v2, csk] (some vr)
  let d := (d.updUnit p id (fun u => { u with started := true })).adv p
  let (b, d) := d.xlatAddr p j (d.parity j) false a
  let d := d.addDig p (digAtom b aop (BitVec.ofNat 64 v) (BitVec.ofNat 64 v2))
  if d.shadowing p ∨ (d.panelShadow j ∧ d.offPanel b) then d
  else
    let bs := leBytes 8 v ++ (if aop = 1 then leBytes 8 v2 else [])
    let d := d.request (dieOf p) (cOf p) (.unit p id) T_ATOM j csk true false none
      [{ addr := b, len := if aop = 0xA then 16 else 8, data := bs, sub := aop }]
    d.mirrorCopy (dieOf p) (cOf p) j (d.parity j) T_ATOM aop a bs []

/-! Unit commands. -/

/-- A vector command: its effect, and its place in the queue with its status (Table 2.12). -/
def Dev.opVec (d : Dev) (p : Nat) (w : Cmd) : Dev :=
  let (bad, d) : Bool × Dev := match opcOf w with
    | 0x50 => d.vload p (fld w 111 107) (d.reg64 p (fld w 106 103)) (fld w 102 99)
    | 0x51 => (false, d.vstore p (fld w 111 107) (d.reg64 p (fld w 106 103)) (fld w 102 99))
    | 0x52 => (false, d.vop p w)
    | 0x53 => (false, d.vfn p (fld w 111 107) (fld w 106 102) (fld w 101 97))
    | _ => (false, d.vred p (fld w 111 110) (fld w 109 105) (fld w 104 100))
  let (id, d) := d.push p .vector w [] none
  (d.finUnit p id (if bad then ST_POISONED else ST_OK)).adv p

/-- TMMA, TDRAIN, TEXPORT: queued with their registers and the TWIN state. -/
def Dev.opTensor (d : Dev) (p : Nat) (w : Cmd) : Dev :=
  let s := (d.cl p).seq
  let args := match opcOf w with
    | 0x40 => [d.reg64 p (fld w 100 97), d.reg64 p (fld w 93 90), s.shift, s.rlim]
    | 0x42 => [d.reg64 p (fld w 89 86), d.reg64 p (fld w 85 82), d.reg64 p (fld w 81 78), d.reg64 p (fld w 77 74)]
    | _ => [d.reg64 p (fld w 85 82)]
  let (_, d) := d.push p .tensor w args none
  (d.adv p).tensorPump p

/-- TWIN. -/
def Dev.opTwin (d : Dev) (p : Nat) (w : Cmd) : Dev :=
  (d.updSeq p (fun s => { s with shift := fld w 111 110, rlim := fld w 109 107 })).doneNow p w

/-- The descriptor words at a store offset, and whether they are poisoned. -/
def Dev.descAt (d : Dev) (p a : Nat) : List Word × Bool :=
  ((List.range 16).map (fun i => d.word64 (csKey p (a + 8 * i))), d.poisoned (csKey p a) 128)

/-- DSTOPs at the head of the draft control queue take effect. -/
def Dev.draftPump (d : Dev) (p : Nat) : Dev :=
  forN 4 (fun _ d =>
    match (d.cl p).units.find? (fun u => u.unit = .draft && !u.started) with
    | some u => if opcOf u.w = 0x31 then
        (d.updUnit p u.id (fun u => { u with started := true })).dftStop p (fld u.w 111 110) (bit u.w 109)
      else d
    | none => d) d

/-- An engine accepts a DSTART (R114). -/
def Dev.dftFree (d : Dev) (p n : Nat) : Bool :=
  let s := ((d.cl p).eng n).st
  s = .idle || s = .done || s = .stopped

/-- DSTART: a free engine behind an empty queue takes the descriptor at once, faulting before any effect (R98). -/
def Dev.opDstart (d : Dev) (p : Nat) (w : Cmd) : Dev :=
  let n := fld w 111 110
  let a := d.reg64 p (fld w 109 106)
  let waits := (d.cl p).units.any (fun u => u.unit = .draft && !u.started)
  if waits ∨ !d.dftFree p n then
    let (_, d) := d.push p .draft w [a] none
    d.adv p
  else
    let d := d.cstCheck p a 128
    let (ws, px) := d.descAt p a
    match d.descFault p a ws px with
    | some f => d.seqFault p f (d.cl p).seq.pc w
    | none =>
      let (id, d) := d.push p .draft w [a] none
      ((d.finUnit p id ST_OK).adv p).dftStart p n a ws

/-- DSTOP. -/
def Dev.opDstop (d : Dev) (p : Nat) (w : Cmd) : Dev :=
  let (_, d) := d.push p .draft w [] none
  (d.adv p).draftPump p

/-! Power notices (R382, R383). -/

/-- The GT at which an accepted notice ends. -/
def Notice.end_ (n : Notice) : Nat :=
  let segs := fld (n.ws.getD 0 0) 59 58 + 1
  (n.ws.getD 1 0).toNat + 1000 * ((List.range segs).foldl (fun a i =>
    a + fld (n.ws.getD (2 + i / 2) 0) (32 * (i % 2) + 23) (32 * (i % 2))) 0)

/-- Post a notice record: accepted, replacing the oldest not started, dropped or late. -/
def Dev.postNotice (d : Dev) (p : Nat) (ws : List Word) : Dev :=
  let pg := pgHNK (hankOf (dieOf p))
  let gt := d.gtAt (dieOf p)
  let t0 := (ws.getD 1 0).toNat
  if t0 < gt + 80000 ∨ gt + 4000000000 < t0 then d.addSat pg HNK_NOTICE_LATE
  else
    let live := (d.cl p).notices.filter (fun n => decide (gt < n.end_))
    let d := d.updCl p (fun c => { c with notices := live })
    let new : Notice := { ws := ws }
    if live.length < 4 then
      (d.updCl p (fun c => { c with notices := live ++ [new] })).addSat pg HNK_NOTICE_ACC
    else
      let d := d.addSat pg HNK_NOTICE_DROP
      match live.findIdx? (fun n => decide (gt < (n.ws.getD 1 0).toNat)) with
      | some i => (d.updCl p (fun c => { c with notices := live.eraseIdx i ++ [new] })).addSat pg HNK_NOTICE_ACC
      | none => d

/-- NOTICE. -/
def Dev.opNotice (d : Dev) (p : Nat) (w : Cmd) : Dev :=
  let a := d.reg64 p (fld w 111 108)
  let (g, d) := d.readStore p a 32
  let ws := (List.range 4).map (fun i => d.word64 (csKey p (a + 8 * i)))
  let d := if g.px ≠ [] ∨ d.shadowing p then d else d.postNotice p ws
  d.donePois p w (decide (g.px ≠ []))

/-! Dispatch by opcode. -/

/-- The effect of a command that has no fault, by its opcode (Table 2.7). -/
def Dev.effect (d : Dev) (p : Nat) (w : Cmd) : Dev :=
  match opcOf w with
  | 0x01 => d.opHalt p w
  | 0x02 => d.opBr p w
  | 0x03 => d.opCall p w
  | 0x04 => d.opRet p w
  | 0x05 => d.opLoop p w
  | 0x08 => d.opBsk p w
  | 0x10 => d.setI p w (fld w 111 108) (BitVec.ofNat 64 (fld w 107 44))
  | 0x11 => d.setI p w (fld w 111 108) ((d.cl p).seq.ireg (fld w 107 104) + BitVec.ofInt 64 (sfld w 103 72))
  | 0x12 => d.setI p w (fld w 111 108)
      (aluOp (fld w 99 96) ((d.cl p).seq.ireg (fld w 107 104)) ((d.cl p).seq.ireg (fld w 103 100)))
  | 0x16 => d.opLds p w
  | 0x17 => d.opSts p w
  | 0x18 => d.setI p w (fld w 111 108) (d.getsVal p (fld w 107 104))
  | 0x20 => (d.updSeq p (fun s => { s with
      slots := SMap.set 0 s.slots (fld w 111 106) (BitVec.ofNat 32 (fld w 105 74)) })).doneNow p w
  | 0x21 => d.opSkop p w
  | 0x30 => d.opDstart p w
  | 0x31 => d.opDstop p w
  | 0x40 | 0x42 | 0x43 => d.opTensor p w
  | 0x44 => d.opTwin p w
  | 0x50 | 0x51 | 0x52 | 0x53 | 0x54 => d.opVec p w
  | 0x60 => d.opPut p w
  | 0x61 => d.opGet p w
  | 0x62 => d.opAtom p w
  | 0x70 => d.opNotice p w
  | _ => d.doneNow p w

/-- A sequencer command's row: the word is of the row's opcode, or of none at all. -/
def seqRow (opc p : Nat) (w : Cmd) (s : State) : Host.Outcome State Fault Refusal :=
  s.run (decide (p < Config.clusters) && (opcOf w = opc || !assignedOpc (opcOf w))) (fun _ d =>
    d.issue p w (fun d => d.effect p w))

/-- NOP. -/
def execNop (p : Nat) (w : Cmd) (s : State) : Host.Outcome State Fault Refusal := seqRow 0x00 p w s
/-- HALT. -/
def execHalt (p : Nat) (w : Cmd) (s : State) : Host.Outcome State Fault Refusal := seqRow 0x01 p w s
/-- BR. -/
def execBr (p : Nat) (w : Cmd) (s : State) : Host.Outcome State Fault Refusal := seqRow 0x02 p w s
/-- CALL. -/
def execCall (p : Nat) (w : Cmd) (s : State) : Host.Outcome State Fault Refusal := seqRow 0x03 p w s
/-- RET. -/
def execRet (p : Nat) (w : Cmd) (s : State) : Host.Outcome State Fault Refusal := seqRow 0x04 p w s
/-- LOOP. -/
def execLoop (p : Nat) (w : Cmd) (s : State) : Host.Outcome State Fault Refusal := seqRow 0x05 p w s
/-- BSK. -/
def execBsk (p : Nat) (w : Cmd) (s : State) : Host.Outcome State Fault Refusal := seqRow 0x08 p w s
/-- LDI. -/
def execLdi (p : Nat) (w : Cmd) (s : State) : Host.Outcome State Fault Refusal := seqRow 0x10 p w s
/-- ADDI. -/
def execAddi (p : Nat) (w : Cmd) (s : State) : Host.Outcome State Fault Refusal := seqRow 0x11 p w s
/-- ALU. -/
def execAlu (p : Nat) (w : Cmd) (s : State) : Host.Outcome State Fault Refusal := seqRow 0x12 p w s
/-- LDS. -/
def execLds (p : Nat) (w : Cmd) (s : State) : Host.Outcome State Fault Refusal := seqRow 0x16 p w s
/-- STS. -/
def execSts (p : Nat) (w : Cmd) (s : State) : Host.Outcome State Fault Refusal := seqRow 0x17 p w s
/-- GETS. -/
def execGets (p : Nat) (w : Cmd) (s : State) : Host.Outcome State Fault Refusal := seqRow 0x18 p w s
/-- SKSLOT. -/
def execSkslot (p : Nat) (w : Cmd) (s : State) : Host.Outcome State Fault Refusal := seqRow 0x20 p w s
/-- SKOP. -/
def execSkop (p : Nat) (w : Cmd) (s : State) : Host.Outcome State Fault Refusal := seqRow 0x21 p w s
/-- DSTART. -/
def execDstart (p : Nat) (w : Cmd) (s : State) : Host.Outcome State Fault Refusal := seqRow 0x30 p w s
/-- DSTOP. -/
def execDstop (p : Nat) (w : Cmd) (s : State) : Host.Outcome State Fault Refusal := seqRow 0x31 p w s
/-- TMMA. -/
def execTmma (p : Nat) (w : Cmd) (s : State) : Host.Outcome State Fault Refusal := seqRow 0x40 p w s
/-- TDRAIN. -/
def execTdrain (p : Nat) (w : Cmd) (s : State) : Host.Outcome State Fault Refusal := seqRow 0x42 p w s
/-- TEXPORT. -/
def execTexport (p : Nat) (w : Cmd) (s : State) : Host.Outcome State Fault Refusal := seqRow 0x43 p w s
/-- TWIN. -/
def execTwin (p : Nat) (w : Cmd) (s : State) : Host.Outcome State Fault Refusal := seqRow 0x44 p w s
/-- VLD. -/
def execVld (p : Nat) (w : Cmd) (s : State) : Host.Outcome State Fault Refusal := seqRow 0x50 p w s
/-- VST. -/
def execVst (p : Nat) (w : Cmd) (s : State) : Host.Outcome State Fault Refusal := seqRow 0x51 p w s
/-- VOP. -/
def execVop (p : Nat) (w : Cmd) (s : State) : Host.Outcome State Fault Refusal := seqRow 0x52 p w s
/-- VFN. -/
def execVfn (p : Nat) (w : Cmd) (s : State) : Host.Outcome State Fault Refusal := seqRow 0x53 p w s
/-- VRED. -/
def execVred (p : Nat) (w : Cmd) (s : State) : Host.Outcome State Fault Refusal := seqRow 0x54 p w s
/-- PUT. -/
def execPut (p : Nat) (w : Cmd) (s : State) : Host.Outcome State Fault Refusal := seqRow 0x60 p w s
/-- GET. -/
def execGet (p : Nat) (w : Cmd) (s : State) : Host.Outcome State Fault Refusal := seqRow 0x61 p w s
/-- ATOM. -/
def execAtom (p : Nat) (w : Cmd) (s : State) : Host.Outcome State Fault Refusal := seqRow 0x62 p w s
/-- NOTICE. -/
def execNotice (p : Nat) (w : Cmd) (s : State) : Host.Outcome State Fault Refusal := seqRow 0x70 p w s

/-! The engine's events. -/

/-- SEQ_WAIT_END: the wait is over, and issue resumes with the command held, if any (Table 2.11). -/
def Dev.waitEnd (d : Dev) (p : Nat) : Dev :=
  let s := (d.cl p).seq
  match s.held with
  | some w =>
    if (s.st = .wait ∨ s.st = .run) ∧ !(d.cl p).holds w then
      (d.updSeq p (fun s => { s with st := .run, held := none })).issueNow p w (fun d => d.effect p w)
    else d
  | none =>
    if s.st = .wait ∧ s.waitId = none then (d.unpark p).updSeq p (fun s => { s with st := .run }) else d

/-- SEQ_WAIT_END (R53). -/
def execSeqWaitEnd (p : Nat) (s : State) : Host.Outcome State Fault Refusal :=
  s.run (decide (p < Config.clusters)) (fun _ d => d.waitEnd p)

/-- DRAFT_DESC_ACCEPT (R114): the DSTART at the head of the queue is taken by its engine, or faults with its PC. -/
def execDraftDescAccept (p n : Nat) (s : State) : Host.Outcome State Fault Refusal :=
  s.run (decide (p < Config.clusters ∧ n < 4)) (fun _ d =>
    match (d.cl p).units.find? (fun u => u.unit = .draft && !u.started) with
    | some u =>
      if opcOf u.w = 0x30 ∧ fld u.w 111 110 = n ∧ d.dftFree p n then
        let a := u.args.getD 0 0
        let d := d.cstCheck p a 128
        let (ws, px) := d.descAt p a
        let d : Dev := match d.descFault p a ws px with
          | some f =>
            let d := d.updCl p (fun c => { c with units := c.units.filter (fun v => v.id ≠ u.id) })
            if (d.cl p).seq.st = .fault then d else d.seqFault p f u.pc u.w
          | none => (d.finUnit p u.id ST_OK).dftStart p n a ws
        d.draftPump p
      else d
    | none => d)

/-- STAGGER_RELEASE (R278): the slot of a staggered PUT has come. -/
def execStaggerRelease (p id : Nat) (s : State) : Host.Outcome State Fault Refusal :=
  s.run (decide (p < Config.clusters)) (fun _ d =>
    match (d.cl p).stag.find? (fun x => x.1 = id) with
    | some x =>
      if x.2 ≤ d.gt then (d.updCl p (fun c => { c with stag := c.stag.filter (fun y => y.1 ≠ id) })).startPut p id else d
    | none => d)

/-! Completion of unit commands (R57). -/

/-- A command whose result a shadow takes from the log (Table 11.6). -/
def logged (w : Cmd) : Bool := opcOf w = 0x08 || opcOf w = 0x21 || opcOf w = 0x62

/-- The spliced cluster that follows a working cluster. -/
def Dev.shadowOf (d : Dev) (p : Nat) : Option Nat :=
  if d.pstate p ≠ PS_MAPPED then none
  else (List.range Config.clusters).find? (fun q => d.shadowing q && d.effF (pgCLU q) CLU_SPL_TLC = d.lcOf p)

/-- A result goes to the shadow's log; a 257th entry returns the shadow to COPY (R335). -/
def Dev.logResult (d : Dev) (p : Nat) (u : UCmd) (status val : Nat) : Dev :=
  match (if logged u.w then d.shadowOf p else none) with
  | none => d
  | some q =>
    if 256 ≤ (d.cl q).rlog.length then (d.setf (pgCLU q) CLU_SPL_STATE 1).updCl q (fun c => { c with rlog := [] })
    else d.updCl q (fun c => { c with rlog := c.rlog ++ [(u.id, status, val)] })

/-- Whether an issued command has reached its completion point; a shadow's result is in its log. -/
def Dev.atEnd (d : Dev) (p : Nat) (u : UCmd) : Bool :=
  let c := d.cl p
  let quiet := !(d.net.xfers.any (fun x => x.owner = .unit p u.id && !x.absorbed))
  match u.unit with
  | .tensor => u.started && (u.fin || (opcOf u.w = 0x42 && quiet)) &&
      (c.units.find? (fun v => v.unit = .tensor)).map (·.id) = some u.id
  | .vector => u.fin && (c.units.find? (fun v => v.unit = .vector)).map (·.id) = some u.id
  | .draft => u.fin || (u.started && opcOf u.w = 0x31 && !(c.eng (fld u.w 111 110)).stopping)
  | .net | .seq => u.started && quiet && !(d.skn.polled.any (fun x => x.p = p && x.id = u.id)) &&
      (if d.shadowing p && logged u.w then c.rlog.any (fun r => r.1 = u.id) else true)

/-- The status and value a command completes with. -/
def Dev.outcomeOf (d : Dev) (p : Nat) (u : UCmd) : Nat × Nat :=
  if d.shadowing p && logged u.w then
    (((d.cl p).rlog.find? (fun r => r.1 = u.id)).map (·.2)).getD (ST_OK, 0)
  else if opcOf u.w = 0x60 && u.status = ST_OK && u.val ≠ 0 then (ST_POISONED, 0)
  else (u.status, u.val)

/-- The completion of a skein command of the sequencer: register, LAST, branch or fault (R59, R251). -/
def Dev.skDone (d : Dev) (p : Nat) (u : UCmd) (status val : Nat) : Dev :=
  let w := u.w
  let isBsk := opcOf w = 0x08
  let d := if !isBsk && fld w 111 108 = 0 then
      d.updSeq p (fun s => s.setIreg (fld w 101 98)
        (BitVec.ofNat 64 (if status = ST_ABSENT ∨ status = ST_UNMAPPED then 0 else val)))
    else d
  let d := d.sig p w
  let s := (d.cl p).seq
  if s.waitId ≠ some u.id then d
  else
    -- the end of the wait ungates the cluster (R268); one that is suspended stays parked
    let d := if s.st = .suspended then d else d.unpark p
    let d := d.updSeq p (fun s => { s with waitId := none, last := if status = ST_OK then s.last else status })
    let foff := if isBsk then sfld w 82 67 else sfld w 64 49
    if status = ST_OK then
      if isBsk then
        let a := val % 2 ^ 48
        let b := u.args.getD 0 0
        let hit : Bool := match fld w 111 109 with
          | 0 => decide (a = b)
          | 1 => decide (a ≠ b)
          | 4 => decide (a < b)
          | _ => decide (b ≤ a)
        if hit then d.updSeq p (fun s => s.branch (sfld w 98 83)) else d.adv p
      else d.adv p
    else if foff = 0 then d.seqFault p F_SKEIN_STATUS u.pc w
    else d.updSeq p (fun s => s.branch foff)

/-- An issued command completes: SIG, completion skein, result register, and the fault its status brings. -/
def Dev.complete (d : Dev) (p : Nat) (u : UCmd) : Dev :=
  let (status, val) := d.outcomeOf p u
  let w := u.w
  let d := d.updCl p (fun c => { c with
    units := c.units.filter (fun v => v.id ≠ u.id), rlog := c.rlog.filter (fun r => r.1 ≠ u.id) })
  if u.orphan then d
  else
    let d := d.logResult p u status val
    if opcOf w = 0x08 ∨ opcOf w = 0x21 then d.skDone p u status val
    else
      let d := if opcOf w = 0x60 ∨ opcOf w = 0x61 ∨ opcOf w = 0x62 then d.sigAdd p (u.args.getD 3 0) 1 none else d
      let d := if opcOf w = 0x62 ∧ status = ST_OK then
          d.updSeq p (fun s => s.setIreg (fld w 107 104) (BitVec.ofNat 64 val)) else d
      let d := d.sig p w
      if (opcOf w = 0x40 ∨ opcOf w = 0x50) ∧ status = ST_POISONED ∧ (d.cl p).seq.st ≠ .fault then
        d.seqFault p F_POISON u.pc w
      else d

/-- UNIT_COMMAND_COMPLETE (R57). -/
def execUnitCommandComplete (p id : Nat) (s : State) : Host.Outcome State Fault Refusal :=
  s.run (decide (p < Config.clusters)) (fun _ d =>
    match d.unit p id with
    | some u =>
      if d.atEnd p u then
        -- a cluster is parked only while its tensor and vector queues are empty (R268)
        let d := if (u.unit = .tensor ∨ u.unit = .vector) ∧ (d.cl p).seq.st = .wait then
            d.updCl p (fun c => { c with park := c.park.map (fun _ => d.gt) }) else d
        (d.complete p u).tensorPump p
      else d
    | none => d)

/-! Patrol scrub (R46). -/

/-- CST_PATROL_SCRUB: words `first` to `first + count − 1` are read; `upsets` are the words an upset has struck since,
those with `true` beyond correction (log entry 8). -/
def execCstPatrolScrub (p first count : Nat) (upsets : List (Nat × Bool)) (s : State) : Host.Outcome State Fault Refusal :=
  s.run (decide (p < Config.clusters)) (fun _ d =>
    let d := forL upsets (fun u d =>
      if u.1 < 3 * 2 ^ 20 then { d with upsets := SMap.ins d.upsets (csKey p (8 * u.1)) (if u.2 then 2 else 1) } else d) d
    let n := min count (3 * 2 ^ 20 - first)
    d.cstCheck p (8 * first) (8 * n))

end Sys2Proof.Machine
end

