-- ==== Sys2Proof/Machine/Skein.lean ====
section
/-!
DEFINITION. Skeins (R249 to R268): operations by state, waiters and their release, barriers, host notifiers, and the
meanings of the skein rows.
-/

namespace Sys2Proof.Machine

abbrev SOP_READ : Nat := 0
abbrev SOP_ADD : Nat := 1
abbrev SOP_WAIT : Nat := 2
abbrev SOP_ACQ : Nat := 3
abbrev SOP_SET : Nat := 4
abbrev SOP_ARRIVE : Nat := 5

/-! The last-signaller record (R254). -/

/-- Who applies an operation. -/
structure SkSrc where
  panel : Nat
  ep : Nat
  c : Nat
  part : Nat
  host : Bool

/-- SKN_LASTSRC (Table 9.11). -/
def lastWord (sop status : Nat) (x : SkSrc) : Word :=
  BitVec.ofNat 64 (sop * 2 ^ 60 + status * 2 ^ 56 + x.panel % 4096 * 2 ^ 40 + x.ep % 256 * 2 ^ 32 + x.c % 8 * 2 ^ 28 +
    x.part % 16 * 2 ^ 24)

/-- The record of an operation at a skein. -/
def Dev.signal (d : Dev) (id sop status : Nat) (x : SkSrc) : Dev :=
  let gt := d.gtAt (skHome id).1
  d.updSk id (fun s => { s with lastSrc := lastWord sop status x, lastGt := gt })

/-- The whorl die as source: resets, BREAK, hank return; the host. -/
def Dev.whorlSrc (d : Dev) : SkSrc := { panel := d.self, ep := d.wdEp, c := 0, part := 15, host := true }

/-! Waiters (R256, R257). -/

/-- The waiters that hold a place in the skein's order. -/
def Skein.attached (s : Skein) : List Waiter := s.waiters.filter (fun w => !w.det)

/-- A waiter's request, as the response names it. -/
def Dev.waiterPkt (d : Dev) (w : Waiter) : Pkt :=
  { loc := .dst 0 0, typ := T_SKOP, part := w.part, sep := w.ep, scl := w.c, flow := w.flow, sq := w.sq, spanel := d.self,
    dpanel := d.self, sub := if w.kind = 0 then SOP_WAIT else SOP_ACQ }

/-- A notifier of page `flow / 64` fires (R267). -/
def Dev.fireNotifier (d : Dev) (w : Waiter) : Dev :=
  let page := w.flow / 64
  let n := w.flow % 64
  let pg := pgSKN page
  let d := (d.setf pg SKN_NFYn_CTL_ARM 0 n).setf pg SKN_NFYn_CTL_FIRED 1 n
  let d := d.setf pg SKN_NFYPEND_PEND (d.f pg SKN_NFYPEND_PEND ||| 2 ^ n)
  d.msix page (d.f pg SKN_NFYn_CTL_VEC n)

/-- Answer a released waiter; a notifier fires. -/
def Dev.releaseWaiter (d : Dev) (id : Nat) (w : Waiter) (status val : Nat) : Dev :=
  if w.kind = 2 then d.fireNotifier w
  else d.respond (skHome id).1 (skHome id).2 (d.waiterPkt w) status (leBytes 8 val)

/-- The state of a scan: the value, whether an ACQUIRE still waits, the waiters kept, and those released with the value each
returns. -/
structure Scan where
  value : Nat
  blocked : Bool
  kept : List Waiter
  out : List (Waiter × Nat)

/-- One waiter of the scan (R256). -/
def Scan.take (x : Scan) (w : Waiter) : Scan :=
  if w.det then { x with kept := x.kept ++ [w] }
  else if w.kind = 1 then
    if w.n ≤ x.value ∧ !x.blocked then { x with value := x.value - w.n, out := x.out ++ [(w, x.value - w.n)] }
    else { x with blocked := true, kept := x.kept ++ [w] }
  else if w.n ≤ x.value then { x with out := x.out ++ [(w, x.value)] }
  else { x with kept := x.kept ++ [w] }

/-- Scan the waiters of a skein that is LIVE or in BARRIER, in order of arrival (R256). -/
def Dev.skScan (d : Dev) (id : Nat) : Dev :=
  let s := d.skein id
  let r := s.waiters.foldl Scan.take { value := s.value, blocked := false, kept := [], out := [] }
  let d := d.updSk id (fun s => { s with value := r.value, waiters := r.kept })
  forL r.out (fun o d =>
    let d := if o.1.kind = 1 then
        d.signal id SOP_ACQ ST_OK { panel := d.self, ep := o.1.ep, c := o.1.c, part := o.1.part, host := false }
      else d
    d.releaseWaiter id o.1 ST_OK o.2) d

/-- Release some waiters with a status and the value kept. -/
def Dev.skReleaseAll (d : Dev) (id status : Nat) (sel : Waiter → Bool) (record : Bool) : Dev :=
  let s := d.skein id
  let out := s.waiters.filter (fun w => !w.det && sel w)
  let d := d.updSk id (fun s => { s with waiters := s.waiters.filter (fun w => w.det || !sel w) })
  forL out (fun w d =>
    let d := if record then
        d.signal id SOP_ACQ status { panel := d.self, ep := w.ep, c := w.c, part := w.part, host := false }
      else d
    d.releaseWaiter id w status s.value) d

/-- The skein becomes BROKEN; every waiter is released (Table 9.3). A BROKEN skein is not changed. -/
def Dev.skBreak (d : Dev) (id : Nat) : Dev :=
  if (d.skein id).st = .broken then d
  else
    let d := (d.updSk id (fun s => { s with st := .broken })).signal id 15 ST_BROKEN d.whorlSrc
    d.skReleaseAll id ST_BROKEN (fun _ => true) false

/-- Waiter-table entries in use on a die (R257). -/
def Dev.waitersOn (d : Dev) (e : Nat) : Nat :=
  (d.skn.sk.filter (fun x => x.1 / 2 ^ 24 = e)).foldl (fun a x => a + x.2.waiters.length) 0

/-- A wait finds a place (R257). -/
def Dev.skRoom (d : Dev) (id : Nat) : Bool :=
  decide ((d.skein id).attached.length < 64 ∧ d.waitersOn (id / 2 ^ 24) < 4096)

/-! Operations (Table 9.3). -/

/-- The owner of a skein's block: 0..15 a partition, 16 the host alone (R255). -/
def Dev.skOwner (d : Dev) (id : Nat) : Nat := SMap.get 16 d.gens.cur.own (skBlock id)

/-- What an applied SET does (Table 9.3). -/
def Dev.skPut (d : Dev) (id : Nat) (bar : Bool) (value pm1 : Nat) (x : SkSrc) : Dev :=
  let d := d.updSk id (fun s => { s with
    st := if bar then .barrier else .live, value := value, pm1 := pm1,
    mask := if bar then 0 else s.mask, early := if bar then 0 else s.early, sat := false })
  let d := d.signal id SOP_SET ST_OK x
  let d := if bar then d.skReleaseAll id ST_DENIED (fun w => w.kind = 1) true else d
  d.skScan id

/-- SET (R253): the operand, applied when the source may. -/
def Dev.skSet (d : Dev) (id : Nat) (opd : Word) (x : SkSrc) : Nat × Dev :=
  let bar := bit opd 63
  if !(x.host || (decide (d.skOwner id < 16) && x.panel = d.self && x.part = d.skOwner id)) ∨ fld opd 62 54 ≠ 0 ∨
      (!bar ∧ fld opd 53 48 ≠ 0) then
    (ST_DENIED, d.signal id SOP_SET ST_DENIED x)
  else (ST_OK, d.skPut id bar (fld opd 47 0) (fld opd 53 48) x)

/-- ADD of a signed 32-bit delta. -/
def Dev.skAdd (d : Dev) (id : Nat) (delta : Int) (x : SkSrc) : Nat × Dev :=
  let s := d.skein id
  match s.st with
  | .barrier => (ST_DENIED, d.signal id SOP_ADD ST_DENIED x)
  | .broken => (ST_BROKEN, d.signal id SOP_ADD ST_BROKEN x)
  | .live =>
    let v : Int := s.value + delta
    if v < 0 then (ST_UNDERFLOW, d.signal id SOP_ADD ST_UNDERFLOW x)
    else
      let d := d.updSk id (fun s => { s with value := sat 48 v.toNat, sat := s.sat || decide (2 ^ 48 ≤ v) })
      (ST_OK, (d.signal id SOP_ADD ST_OK x).skScan id)

/-- Rounds that are complete: the counter moves on, waiters are scanned, early arrivals count (R266). -/
def Dev.skRound (d : Dev) (id : Nat) : Dev :=
  let s := d.skein id
  if s.mask.toNat % 2 ^ (s.pm1 + 1) = 2 ^ (s.pm1 + 1) - 1 then
    let d := (d.updSk id (fun s => { s with value := (s.value + 1) % 2 ^ 48 })).skScan id
    d.updSk id (fun s => { s with mask := s.early, early := 0 })
  else d

/-- ARRIVE (R266): after a completed round the early arrivals may complete the next one. -/
def Dev.skArrive (d : Dev) (id j : Nat) (x : SkSrc) : Nat × Dev :=
  let s := d.skein id
  match s.st with
  | .live => (ST_DENIED, d.signal id SOP_ARRIVE ST_DENIED x)
  | .broken => (ST_BROKEN, d.signal id SOP_ARRIVE ST_BROKEN x)
  | .barrier =>
    if s.pm1 < j then (ST_DENIED, d.signal id SOP_ARRIVE ST_DENIED x)
    else if !bit s.mask j then
      let d := d.updSk id (fun s => { s with mask := s.mask ||| BitVec.ofNat 64 (2 ^ j) })
      (ST_OK, ((d.signal id SOP_ARRIVE ST_OK x).skRound id).skRound id)
    else if !bit s.early j then
      let d := d.updSk id (fun s => { s with early := s.early ||| BitVec.ofNat 64 (2 ^ j) })
      (ST_OK, d.signal id SOP_ARRIVE ST_OK x)
    else (ST_EARLY, d.signal id SOP_ARRIVE ST_EARLY x)

/-- WAIT_GE and ACQUIRE: a status at once, or none: it waits (R252). -/
def Dev.skWait (d : Dev) (id : Nat) (acq : Bool) (n : Nat) (x : SkSrc) : Option Nat × Dev :=
  let s := d.skein id
  match s.st with
  | .broken => (some ST_BROKEN, d)
  | .barrier =>
    if acq then (some ST_DENIED, d.signal id SOP_ACQ ST_DENIED x)
    else if n ≤ s.value then (some ST_OK, d) else (none, d)
  | .live =>
    if s.value < n then (none, d)
    else if acq then
      if s.attached.any (fun w => w.kind = 1) then (none, d)
      else (some ST_OK, (d.updSk id (fun s => { s with value := s.value - n })).signal id SOP_ACQ ST_OK x)
    else (some ST_OK, d)

/-- A wait joins the skein's order; none: no place, the requester polls (R256 to R258). -/
def Dev.skQueue (d : Dev) (id : Nat) (w : Waiter) : Option Dev :=
  if d.skRoom id then some (d.updSk id (fun s => { s with waiters := s.waiters ++ [w] })) else none

/-! SKOP packets at their slice. -/

/-- The source a SKOP packet names. -/
def Pkt.skSrc (q : Pkt) : SkSrc := { panel := q.spanel, ep := q.sep, c := q.scl, part := q.part, host := false }

/-- The transfer a packet belongs to is still waited on. -/
def Dev.flowLive (d : Dev) (q : Pkt) : Bool :=
  decide (q.spanel ≠ d.self) || d.net.xfers.any (fun x => x.flow = q.flow && !x.absorbed)

/-- A polled repeat is noted (Table 9.10 POLLS). -/
def Dev.notePoll (d : Dev) (id : Nat) (q : Pkt) : Dev :=
  let rep := d.net.xfers.any (fun x => x.flow = q.flow && (match x.owner with
    | .unit p u => d.skn.polled.any (fun y => y.p = p && y.id = u)
    | _ => false))
  if rep then d.updSk id (fun s => { s with polls := d.gt :: s.polls.filter (fun g => decide (d.gt < g + 4000000)) }) else d

/-- A partition being reset: its operations on its own skeins are answered BROKEN (Table 9.7). -/
def Dev.skCut (d : Dev) (id : Nat) (q : Pkt) : Bool :=
  decide (q.spanel = d.self ∧ q.part < 15 ∧ q.part = d.skOwner id) && d.pst q.part = P_RESETTING

/-- Apply the operation of SKOP packet `q` and answer it, or let it wait. -/
def Dev.skServe (d : Dev) (e c : Nat) (q : Pkt) : Dev :=
  let id := q.addr % 2 ^ 32
  let opd : Word := BitVec.ofNat 64 (leNat q.data)
  let x := q.skSrc
  let answer (d : Dev) (st : Nat) : Dev := d.respond e c q st (leBytes 8 (d.skein id).value)
  if d.skCut id q then answer d ST_BROKEN
  else match q.sub with
    | 0 => answer d (if (d.skein id).st = .broken then ST_BROKEN else ST_OK)
    | 1 =>
      -- the value after the operation itself, before the ACQUIREs it releases
      let v := (d.skein id).value
      let (st, d) := d.skAdd id (sgn 32 (fld opd 31 0)) x
      d.respond e c q st (leBytes 8 (if st = ST_OK then sat 48 ((v : Int) + sgn 32 (fld opd 31 0)).toNat else v))
    | 4 =>
      -- the value it sets, before the ACQUIREs it releases
      let v := (d.skein id).value
      let (st, d) := d.skSet id opd x
      d.respond e c q st (leBytes 8 (if st = ST_OK then fld opd 47 0 else v))
    | 5 =>
      let (st, d) := d.skArrive id (fld opd 5 0) x
      answer d st
    | s =>
      let acq := s = SOP_ACQ
      let n := fld opd 47 0
      let d := d.notePoll id q
      match d.skWait id acq n x with
      | (some st, d) => answer d st
      | (none, d) =>
        if !d.flowLive q then d
        else
          let w : Waiter := { kind := b2n acq, n := n, part := q.part, ep := q.sep, c := q.scl, flow := q.flow, sq := q.sq,
                              due := if q.tmo = 0 then none else some (d.gt + 4000 * q.tmo), det := false }
          match d.skQueue id w with
          | some d' => d'
          | none => answer d ST_BUSY

/-- The skein row of code `sop`: SKOP packet `i`, ejected at its slice, is applied. -/
def skRow (sop i : Nat) (s : State) : Host.Outcome State Fault Refusal :=
  s.run true (fun _ d =>
    match d.net.pkts[i]? with
    | some q =>
      match q.loc with
      | .dst e c =>
        if q.typ = T_SKOP ∧ q.sub = sop ∧ skValid (q.addr % 2 ^ 32) ∧ (e, c) = skHome (q.addr % 2 ^ 32) then
          (d.updNet (fun n => { n with pkts := dropAt n.pkts i })).skServe e c q
        else d
      | _ => d
    | none => d)

/-- SKEIN_READ (R252). -/
def execSkeinRead (i : Nat) (s : State) : Host.Outcome State Fault Refusal := skRow SOP_READ i s
/-- SKEIN_ADD (R252). -/
def execSkeinAdd (i : Nat) (s : State) : Host.Outcome State Fault Refusal := skRow SOP_ADD i s
/-- SKEIN_WAIT_GE (R252, R256). -/
def execSkeinWaitGe (i : Nat) (s : State) : Host.Outcome State Fault Refusal := skRow SOP_WAIT i s
/-- SKEIN_ACQUIRE (R252, R256). -/
def execSkeinAcquire (i : Nat) (s : State) : Host.Outcome State Fault Refusal := skRow SOP_ACQ i s
/-- SKEIN_SET (R253, R255). -/
def execSkeinSet (i : Nat) (s : State) : Host.Outcome State Fault Refusal := skRow SOP_SET i s
/-- SKEIN_ARRIVE (R266). -/
def execSkeinArrive (i : Nat) (s : State) : Host.Outcome State Fault Refusal := skRow SOP_ARRIVE i s

/-- WAITER_TIMEOUT (R258): waiter `i` of skein `sk` is past its deadline. -/
def execWaiterTimeout (sk i : Nat) (s : State) : Host.Outcome State Fault Refusal :=
  s.run true (fun _ d =>
    let x := d.skein sk
    match x.waiters[i]? with
    | some w =>
      match w.due with
      | some t =>
        if !w.det ∧ w.kind < 2 ∧ t ≤ d.gt then
          (d.updSk sk (fun s => { s with waiters := dropAt s.waiters i })).releaseWaiter sk w ST_TIMEOUT x.value
        else d
      | none => d
    | none => d)

/-- A unit command's skein operation ends at the requester with a status. -/
def Dev.unitEnds (d : Dev) (p id status val : Nat) : Dev :=
  d.updUnit p id (fun u => { u with status := status, val := val })

/-- POLL_RETRY (R257, R258): a polled waiter repeats its operation when its interval is over; past its deadline it completes
with TIMEOUT. -/
def execPollRetry (i : Nat) (s : State) : Host.Outcome State Fault Refusal :=
  s.run true (fun _ d =>
    match d.skn.polled[i]? with
    | none => d
    | some y =>
      let away := d.net.xfers.any (fun x => x.owner = .unit y.p y.id)
      if y.frozen ∨ away then d
      else if (match y.due with
          | some t => decide (t ≤ d.gt)
          | none => false) then
        ({ d with skn := { d.skn with polled := dropAt d.skn.polled i } }).unitEnds y.p y.id ST_TIMEOUT 0
      else if d.gt < y.nextAt then d
      else match d.unit y.p y.id with
        | none => d
        | some u =>
          let d := { d with skn := { d.skn with polled := d.skn.polled.map (fun (z : Polled) =>
            if z.p = y.p ∧ z.id = y.id then { z with interval := min 64 (2 * z.interval) } else z) } }
          d.issueSk y.p y.id (fld u.w 111 108) ((d.cl y.p).seq.slot (fld u.w 107 102)) (d.skOperand y.p u.w) (fld u.w 48 33))

/-! Host access (R255, R267, R280). -/

/-- Status of a host's access to a skein: 0 when it exists. -/
def Dev.skReach (d : Dev) (id : Nat) : Nat :=
  if !skValid id then ST_UNMAPPED else if !d.present (id / 2 ^ 24) then ST_ABSENT else ST_OK

/-- The record of a skein as it stands (R317). -/
def Skein.rec_ (s : Skein) : SkRec := { st := s.st, value := s.value, pm1 := s.pm1 }

/-- A host SET or BREAK while the owner is IDLE, ABORTED or STUCK also updates the record (R317). -/
def Dev.hostRecord (d : Dev) (id : Nat) : Dev :=
  let j := d.skOwner id
  if j < 16 ∧ (d.pst j = P_IDLE ∨ d.pst j = P_ABORTED ∨ d.pst j = P_STUCK) then
    d.updSk id (fun s => { s with record := some s.rec_ })
  else d

/-- The SET and BREAK bits of SKN_CMD on a page. -/
def Dev.sknCmd (d : Dev) (page : Nat) (acts : Word) : Dev :=
  let pg := pgSKN page
  let id := d.f pg SKN_SEL_SKID
  let finish (d : Dev) (st : Nat) : Dev :=
    let d := d.setf pg SKN_CMD_RESULT st
    if st = ST_OK then d else d.ev pg 0
  let d := if bit acts 0 then
      (match d.skReach id with
      | 0 =>
        let (st, d) := d.skSet id (d.reg (pg + 0xC8)) d.whorlSrc
        finish (if st = ST_OK then d.hostRecord id else d) st
      | st => finish d st)
    else d
  if bit acts 1 then
    (match d.skReach id with
    | 0 => finish ((d.skBreak id).hostRecord id) ST_OK
    | st => finish d st)
  else d

/-- SKN_HOST_SET (R255): the host selects a skein, writes the operand and sets SKN_CMD.SET. -/
def execSknHostSet (port page : Nat) (sk v : Word) (s : State) : Host.Outcome State Fault Refusal :=
  s.run (decide (port < 2 ∧ page < 2)) (fun _ d =>
    let pg := pgSKN page
    let d := (d.hostWrite port (pg + 0x80) sk).d
    let d := (d.hostWrite port (pg + 0xC8) v).d
    d.onWrite port (pg + 0xD0) 1 (fun d a => d.sknCmd page a))

/-- SKN_BREAK (R252): the host selects a skein and sets SKN_CMD.BREAK. -/
def execSknBreak (port page : Nat) (sk : Word) (s : State) : Host.Outcome State Fault Refusal :=
  s.run (decide (port < 2 ∧ page < 2)) (fun _ d =>
    let pg := pgSKN page
    let d := (d.hostWrite port (pg + 0x80) sk).d
    d.onWrite port (pg + 0xD0) 2 (fun d a => d.sknCmd page a))

/-- The waiter of a notifier, where it is armed. -/
def Dev.disarmNotifier (d : Dev) (page n : Nat) : Dev :=
  d.mapSk (fun _ s => { s with waiters := s.waiters.filter (fun w => !(w.kind = 2 && w.flow = page * 64 + n)) })

/-- Arm a notifier (R267): it takes a place, or is refused; it fires at once when its condition holds. A notifier armed
again gives up its earlier place. -/
def Dev.armNotifier (d : Dev) (page n : Nat) : Dev :=
  let pg := pgSKN page
  let d := d.disarmNotifier page n
  let id := d.f pg SKN_NFYn_SKID_SKID n
  let d := (((d.setf pg SKN_NFYn_CTL_ERR 0 n).setf pg SKN_NFYn_CTL_FIRED 0 n).setf pg SKN_NFYn_CTL_ARM 0 n)
  let w : Waiter := { kind := 2, n := d.f pg SKN_NFYn_CTL_THRESH n, part := 15, ep := 168 + 8 * page, c := 0,
                      flow := page * 64 + n, sq := 0, due := none, det := false }
  match (if d.skReach id = ST_OK then d.skQueue id w else none) with
  | none => (d.setf pg SKN_NFYn_CTL_ERR 1 n).ev pg 1
  | some d =>
    let d := d.setf pg SKN_NFYn_CTL_ARM 1 n
    let s := d.skein id
    if s.st = .broken ∨ w.n ≤ s.value then (d.disarmNotifier page n).fireNotifier w else d

/-- NOTIFIER_ARM (R267): the host writes a notifier's skein, then its control with ARM = 1. -/
def execNotifierArm (port page n : Nat) (sk v : Word) (s : State) : Host.Outcome State Fault Refusal :=
  s.run (decide (port < 2 ∧ page < 2 ∧ n < 64)) (fun _ d =>
    let pg := pgSKN page
    let d := (d.hostWrite port (pg + 0x100 + 16 * n) sk).d
    d.onWrite port (pg + 0x108 + 16 * n) (v ||| wbit 63) (fun d _ => d.armNotifier page n))

/-! Loss and suspension (R264, R265). -/

/-- The skeins of a die are lost with it: notifiers fire, waiters are gone (R265, R267). -/
def Dev.skDieLost (d : Dev) (e : Nat) : Dev :=
  let mine := d.skn.sk.filter (fun x => x.1 / 2 ^ 24 = e)
  let nf := (mine.flatMap (fun x => x.2.waiters)).filter (fun w => w.kind = 2)
  let d := d.mapSk (fun id s => if id / 2 ^ 24 = e then { s with waiters := [] } else s)
  let d : Dev := { d with skn := { d.skn with gone := setIns d.skn.gone e } }
  forL nf (fun w d => d.fireNotifier w) d

/-- A die's skeins when its hank returns: BROKEN, value 0, no waiters (R265). -/
def Dev.skDieBack (d : Dev) (e : Nat) : Dev :=
  let br : Skein := { st := .broken, lastSrc := lastWord 15 ST_BROKEN d.whorlSrc, lastGt := d.gtAt e }
  { d with skn := { d.skn with
    gone := setDel d.skn.gone e,
    sk := d.skn.sk.filter (fun x => x.1 / 2 ^ 24 ≠ e),
    base := forN (if isCD e then 32 else if isMB e then 16 else 0) (fun b m => SMap.set {} m (e * 32 + b) br) d.skn.base } }

/-- DIE_ABSENT_WAITER_WITHDRAW (R265): waiters whose requester's die is absent are withdrawn. -/
def execDieAbsentWaiterWithdraw (e : Nat) (s : State) : Host.Outcome State Fault Refusal :=
  s.run (decide (e < Config.endpoints)) (fun _ d =>
    if d.present e then d
    else d.mapSk (fun _ s => { s with waiters := s.waiters.filter (fun w => w.kind = 2 || w.ep ≠ e) }))

/-- The owner's reset breaks every skein of its blocks, listed or not (Table 9.7). -/
def Dev.skPartReset (d : Dev) (j : Nat) : Dev :=
  let blocks := (d.gens.cur.own.filter (fun x => x.2 = j)).map (·.1)
  let d := forL ((d.skn.sk.filter (fun x => blocks.contains (skBlock x.1))).map (·.1)) (fun id d => d.skBreak id) d
  let all (b : Nat) (m : SMap Skein) : SMap Skein :=
    let s := SMap.get {} m b
    if s.st = .broken then m
    else SMap.set {} m b { s with st := .broken, lastSrc := lastWord 15 ST_BROKEN d.whorlSrc, lastGt := d.gtAt (b / 32) }
  let d := { d with skn := { d.skn with base := forL blocks all d.skn.base } }
  d.withdraw (fun w => w.kind < 2 && w.part = j)

/-- Suspension detaches the hardware waiters of a partition and freezes what is left of their time; polled waiters stop
(R264). -/
def Dev.skSuspend (d : Dev) (j : Nat) : Dev :=
  let gt := d.gt
  let d := d.mapSk (fun _ s => { s with waiters := s.waiters.map (fun w =>
    if w.kind < 2 ∧ w.part = j ∧ !w.det then { w with det := true, due := w.due.map (· - gt) } else w) })
  let mine (p : Nat) : Bool := d.partOf p = j
  { d with skn := { d.skn with polled := d.skn.polled.map (fun y =>
    if mine y.p ∧ !y.frozen then { y with frozen := true, due := y.due.map (· - gt), nextAt := y.nextAt - gt } else y) } }

/-- A detached waiter of a resumed partition re-attaches at the end of its skein's order, or is answered (R264). -/
def Dev.skReattach (d : Dev) (id : Nat) (w : Waiter) : Dev :=
  let s := d.skein id
  let d := d.updSk id (fun s => { s with waiters := s.waiters.filter (fun v => v ≠ w) })
  let w' : Waiter := { w with det := false, due := w.due.map (· + d.gt) }
  let x : SkSrc := { panel := d.self, ep := w.ep, c := w.c, part := w.part, host := false }
  match d.skWait id (w.kind = 1) w.n x with
  | (some st, d) => d.releaseWaiter id w' st (d.skein id).value
  | (none, d) =>
    if s.attached.length < 64 then d.updSk id (fun s => { s with waiters := s.waiters ++ [w'] })
    else
      -- no place: it becomes a polled waiter of its requester, with what is left of its time
      let d := match d.net.xfers.find? (fun x => x.flow = w.flow) with
        | some { owner := .unit p u, .. } => d.updUnit p u (fun v => { v with due := w'.due })
        | _ => d
      d.respond (skHome id).1 (skHome id).2 (d.waiterPkt w) ST_BUSY (leBytes 8 0)

/-- Resume re-attaches and starts polling again. -/
def Dev.skResume (d : Dev) (j : Nat) : Dev :=
  let ws := d.skn.sk.flatMap (fun x => (x.2.waiters.filter (fun w => w.det && w.part = j)).map (fun w => (x.1, w)))
  let gt := d.gt
  let mine (p : Nat) : Bool := d.partOf p = j
  let d := { d with skn := { d.skn with polled := d.skn.polled.map (fun y =>
    if mine y.p ∧ y.frozen then { y with frozen := false, due := y.due.map (· + gt), nextAt := y.nextAt + gt } else y) } }
  forL ws (fun x d => d.skReattach x.1 x.2) d

/-! Power lending (R268). -/

/-- PARK_GATE: a cluster parked for LENDUS µs without a break gates its clocks; a suspended one not before the unit commands it lets
complete have completed (R61; log entry 139). -/
def execParkGate (p : Nat) (s : State) : Host.Outcome State Fault Refusal :=
  s.run (decide (p < Config.clusters)) (fun _ d =>
    let c := d.cl p
    let us := d.f pgWHL WHL_SKNCTL_LENDUS
    match c.park with
    | some t =>
      if us ≠ 0 ∧ c.gatedAt = none ∧ c.unitsIdle ∧ (c.seq.st = .wait ∨ c.seq.st = .suspended) ∧ t + 4000 * us ≤ d.gt then
        (d.setf (pgCLU p) CLU_PARK_GATED 1).updCl p (fun c => { c with gatedAt := some d.gt })
      else d
    | none => d)

end Sys2Proof.Machine
end

