-- ==== Sys2Proof/Machine/Winder.lean ====
section
/-!
DEFINITION. Winders (R269 to R277): areas in winder stores and cluster stores, their headers, arming, the adding of
long words, finalising and forwarding, and the meanings of the area events.
-/

namespace Sys2Proof.Machine

/-! Outputs (R273 to R275). -/

/-- The physical cluster whose CLU_SPR_UNPAIRED counts a winder's raw-alias outputs. -/
def Dev.unpairedAt (d : Dev) (e c j : Nat) : Option Nat :=
  if e < 112 then some (e * 8 + c) else (d.placed j).head?.map (·.2)

/-- The element value of an area. -/
def Dev.aElem (d : Dev) (key i : Nat) : LWord := LWord.ofBytes (d.bytes (key + 64 + i * d.aSize key) 24)
/-- The S2 word of a MEANVAR record. -/
def Dev.aElem2 (d : Dev) (key i : Nat) : LWord := LWord.ofBytes (d.bytes (key + 64 + i * 48 + 24) 24)

/-- The finalised bytes of one element (R84, R85, R273). -/
def Dev.finalElem (d : Dev) (key i : Nat) : List Byte :=
  let j := d.hdr key 47 44
  if d.aKind key = 2 then
    let (m, v) := finalMeanVar (d.hw key 4 58 58 = 1) (d.aElem key i) (d.aElem2 key i)
    leBytes 4 m.toNat ++ leBytes 4 v.toNat
  else
    let f := d.hw key 4 63 60
    let x := d.aElem key i
    if f = 11 then d.bytes (key + 64 + i * 24) 24
    else
      let rd : Rnd := if d.hw key 4 59 59 = 0 then .ne
        else if d.fb (pgPART j) PART_JKCTL_VALID then
          .sr (srmix (d.pt j).k0 (d.pt j).k1 (BitVec.ofNat 64 (d.hw key 4 47 0)) (BitVec.ofNat 16 (d.hw key 5 15 0)) (BitVec.ofNat 64 i))
        else .sr ((Config.freeWord (d.free + i)).toNat % 2 ^ 32)
      leBytes (fmtBits f / 8) (encodeNum (fmtOf f) rd x.num)

/-- MODE FINAL: the output is sent as WR packets of the winder's die, translated packet by packet (R273, R322). -/
def Dev.areaFinal (d : Dev) (a : Area) : Dev :=
  let key := a.key
  let j := d.hdr key 47 44
  let dest := d.hw key 3 63 0
  let par := d.hw key 4 47 0 % 2
  let n := d.aNelem key
  let bs := ((List.range n).map (fun i => d.finalElem key i)).flatten
  let d := { d with free := d.free + n }
  forL (pieces 0 bs.length) (fun (o : Nat × Nat) d =>
    let at_ := (dest + o.1) % 2 ^ 64
    let (t, un) := d.translate j par false at_
    let d : Dev := match (if un then d.unpairedAt a.e a.c j else none) with
      | some p => d.unpaired p
      | none => d
    let seg := slice bs o.1 o.2
    let d := d.updPt j (fun q => { q with areaDig := q.areaDig + digStore t seg [] })
    if (a.e < 112 ∧ d.shadowing (a.e * 8 + a.c)) ∨ (d.panelShadow j ∧ d.offPanel t) then d
    else
      let d := d.request a.e a.c (.area key) T_WR j 0 true false none (wrReqs t seg [])
      d.mirrorCopy a.e a.c j par T_WR 0 at_ seg []) d

/-- The address of an area's elements, as the digest names it (R332). -/
def Dev.areaAddr (d : Dev) (a : Area) : Nat :=
  (if a.e < 112 then ownSlot (d.lcEff (a.e * 8 + a.c)) else 3 * 2 ^ 48 + 2 ^ 47 + (a.e - 112) * 2 ^ 32) + a.off + 64

/-- MODE FWD: send one complete element on to the next winder (R274). -/
def Dev.forward (d : Dev) (a : Area) (i : Nat) : Dev :=
  let key := a.key
  let j := d.hdr key 47 44
  let sz := d.aSize key
  let panel := d.hw key 3 63 52
  let wep := d.hw key 3 51 44
  let pk : Pkt := {
    loc := .dst 0 0, typ := T_LWORD, part := j, dep := wep, dcl := d.hw key 3 43 41, mcg := d.hw key 3 40 29, len := sz,
    addr := d.hw key 3 23 0 + 64 + i * sz, data := d.bytes (key + 64 + i * sz) sz, sub := d.aKind key, dpanel := d.self,
    spanel := d.self }
  let fail (d : Dev) (st : Nat) : Dev := d.updArea key (fun a => { a with outStatus := worst a.outStatus st })
  if a.e < 112 ∧ d.shadowing (a.e * 8 + a.c) then d
  else if panel = 0 ∨ d.pmap panel = some d.self then
    if !(isCD wep || isMB wep) then fail d ST_UNMAPPED
    else match d.inject a.e a.c pk with
      | some d' => d'
      | none => fail d ST_ABSENT
  else match d.pmap panel with
    | none => fail d ST_ABSENT
    | some q =>
      let tg := d.f (pgTUB 0) TUB_JOBp_TAG j
      if d.panelShadow j then d
      else if tg = 0 then fail d ST_DENIED
      else match d.toFabric a.e a.c q { pk with tag := tg } with
        | some d' => d'
        | none => fail d ST_ABSENT

/-- The area becomes DONE: STATUS by R275, then ADD +1 on CSK. -/
def Dev.areaDone (d : Dev) (key : Nat) (timeout : Bool) : Dev :=
  match d.area key with
  | none => d
  | some a =>
    let st := if timeout then ST_TIMEOUT
      else if d.hdr key 55 55 = 1 then ST_BROKEN
      else if d.hdr key 54 54 = 1 then ST_MISMATCH
      else a.outStatus
    let d := (d.setHdr key 59 56 st).setHdr key 61 60 3
    if d.hw key 2 31 31 = 1 ∧ !(a.e < 112 ∧ d.shadowing (a.e * 8 + a.c)) then
      d.hwAdd a.e a.c .areaCsk (d.hdr key 47 44) (d.hw key 2 63 32) 1
    else d

/-- Every element is complete: FINAL, and the winder performs its MODE (R272, R273). -/
def Dev.areaPerform (d : Dev) (key : Nat) : Dev :=
  match d.area key with
  | none => d
  | some a =>
    let d := (d.setHdr key 61 60 2).updArea key (fun a => { a with sent := true })
    match d.hdr key 49 48 with
    | 0 => d.areaDone key false
    | 1 => d.areaFinal a
    | _ =>
      let j := d.hdr key 47 44
      d.updPt j (fun q => { q with
        areaDig := q.areaDig + digStore (d.areaAddr a) (d.bytes (key + 64) (d.aNelem key * d.aSize key)) [] })

/-! Long words (R272). -/

/-- A long word goes into element slot `k` (store key); `kind` is the kind the header expects there. -/
def Dev.addWord (d : Dev) (key k kind : Nat) (x : LWord) : Dev :=
  let old := LWord.ofBytes (d.bytes k 24)
  let y := if old.count = 0 then (if x.malformed then { x with mism := true } else x) else old.combine x
  let y := if x.kind.toNat = kind then y else { y with mism := true }
  let d := { d with mem := memWrite d.mem k y.bytes }
  let d := if y.mism then d.setHdr key 54 54 1 else d
  if y.wrapped then d.setHdr key 53 53 1 else d

/-- One long word of a packet, at store key `k`, for the area at `key`. -/
def Dev.takeWord (d : Dev) (key part : Nat) (fabric : Bool) (k : Nat) (x : LWord) : Dev :=
  let st := d.hdr key 61 60
  let sz := d.aSize key
  let o := k - (key + 64)
  let bad := decide (st ≠ 1) || decide (d.aNelem key ≤ o / sz) || decide (o % 24 ≠ 0) ||
    (decide (part ≠ d.hdr key 47 44) && !fabric)
  if bad then
    let d := if st = 3 then d.setHdr key 52 52 1 else d
    { d with mem := memWrite d.mem (key + 8) (leBytes 4 (sat 32 (d.hw key 1 31 0 + 1))) }
  else d.addWord key k (if sz = 48 then 2 + o % 48 / 24 else d.aKind key) x

/-- Whether an element's count has reached EXPECT for the first time: it completes, and is forwarded in MODE FWD. -/
def Dev.elemCheck (d : Dev) (key i : Nat) : Dev :=
  match d.area key with
  | none => d
  | some a =>
    if d.hdr key 61 60 ≠ 1 then d
    else
      let n := (d.aElem key i).count.toNat
      let ex := d.hw key 1 63 32
      let d := if ex < n then d.setHdr key 55 55 1 else d
      if n < ex ∨ a.complete.contains i then d
      else
        let d := d.updArea key (fun a => { a with complete := setIns a.complete i })
        let d := d.setHdr key 23 0 (a.complete.length + 1)
        let d := if d.hdr key 49 48 = 2 then d.forward a i else d
        if a.complete.length + 1 = d.aNelem key then d.areaPerform key else d

/-- The area that a long word at store key `k` of the winder whose store begins at `base` is for: of those armed, or IDLE again,
the one whose header lies nearest below it (log entry 77). -/
def Dev.areaFor (d : Dev) (base k : Nat) : Option Nat :=
  ((d.areas.map (·.key) ++ d.idleAreas).filter (fun h => decide (base ≤ h ∧ h + 64 ≤ k))).max?

/-- The long words of an LWORD packet reach an area (R272); words of an area that is still being zeroed wait. -/
def Dev.lwords (d : Dev) (base : Nat) (q : Pkt) : Dev :=
  let k := base + q.addr % (if base < wsKey 0 0 then 2 ^ 25 else 2 ^ 24)
  match d.areaFor base k with
  | none => d
  | some key =>
    if (d.area key).any (·.zeroing) then d.updArea key (fun a => { a with heldPkts := a.heldPkts ++ [q] })
    else
      let n := q.data.length / 24
      let d := forN n (fun i d =>
        d.takeWord key q.part (decide (q.spanel ≠ d.self)) (k + 24 * i) (LWord.ofBytes (slice q.data (24 * i) 24))) d
      let sz := d.aSize key
      let i0 := (k - (key + 64)) / sz
      forN (n * 24 / sz + 1) (fun i d => if i0 + i < d.aNelem key then d.elemCheck key (i0 + i) else d) d

/-- An LWORD that has been ejected at its winder is accepted; a collector's shadow takes a copy (R335). -/
def Dev.acceptLword (d : Dev) (e c : Nat) (q : Pkt) : Dev :=
  let d := d.lwords (winderStore e c).1 q
  if e < 112 then
    match d.shadowOf (e * 8 + c) with
    | some s => d.lwords (csKey s 0) q
    | none => d
  else d

/-! Meanings. -/

/-- WINDER_LWORD (R272, R276): LWORD packet i, ejected at a winder, is accepted. -/
def execWinderLword (i : Nat) (s : State) : Host.Outcome State Fault Refusal :=
  s.run true (fun _ d =>
    match d.net.pkts[i]? with
    | some q =>
      match q.loc with
      | .dst e c => if q.typ = T_LWORD then (d.updNet (fun n => { n with pkts := dropAt n.pkts i })).acceptLword e c q else d
      | _ => d
    | none => d)

/-- AREA_ZERO_DONE (R271): every element of an area armed with ZERO reads zero, and the words that waited go in. -/
def execAreaZeroDone (key : Nat) (s : State) : Host.Outcome State Fault Refusal :=
  s.run true (fun _ d =>
    match d.area key with
    | some a =>
      if a.zeroing then
        let d := d.zero (key + 64) (d.aNelem key * d.aSize key)
        let d := d.updArea key (fun a => { a with zeroing := false, heldPkts := [] })
        forL a.heldPkts (fun q d => d.lwords (winderStore a.e a.c).1 q) d
      else d
    | none => d)

/-- AREA_OUTPUT_DONE (R273 to R275): every output of a FINAL area has been acknowledged or accepted. -/
def execAreaOutputDone (key : Nat) (s : State) : Host.Outcome State Fault Refusal :=
  s.run true (fun _ d =>
    match d.area key with
    | some a =>
      if a.sent ∧ d.hdr key 61 60 = 2 ∧ !(d.net.xfers.any (fun x => x.owner = .area key && !x.absorbed)) then
        d.areaDone key false
      else d
    | none => d)

/-- AREA_TIMEOUT (R275): TMO has elapsed before DONE. -/
def execAreaTimeout (key : Nat) (s : State) : Host.Outcome State Fault Refusal :=
  s.run true (fun _ d =>
    match d.area key with
    | some a =>
      let tmo := d.hw key 2 15 0
      if d.areaShut a ∧ tmo ≠ 0 ∧ a.armedAt + 4000 * tmo ≤ d.gt then
        (d.absorb (fun o => o = .area key)).areaDone key true
      else d
    | none => d)

end Sys2Proof.Machine
end

