-- ==== Sys2Proof/Machine/Serve.lean ====
section
/-!
DEFINITION. The two ends of a request: a cluster store or a winder store that serves it (R46, R271, R335, R419), and the
requester that gathers its responses (R135, R136, R146, R260, R118, R243).
-/

namespace Sys2Proof.Machine

/-- A discarded response or long word is counted in RTR_EVCNT.STALE (R135, R269). -/
def Dev.stale (d : Dev) (e : Nat) : Dev := (d.addSat (pgRTR e) RTR_EVCNT_STALE).ev (pgRTR e) EV_RTR_STALE

/-! Stores that serve (R46, R418, R419). -/

/-- The store a request at a cluster or a winder names: key of its first byte. -/
def storeKey (e c : Nat) (q : Pkt) : Nat := (winderStore e c).1 + q.addr % (if e < 112 then 2 ^ 25 else 2 ^ 24)

/-- A WR or MWR at a winder's store; a shadow of the cluster takes a copy (R335). -/
def Dev.serveStoreWr (d : Dev) (e c : Nat) (q : Pkt) : Dev :=
  let k := storeKey e c q
  let (st, d) := d.winderWrite e c k q.data q.pois
  let d : Dev := match (if e < 112 then d.shadowOf (e * 8 + c) else none) with
    | some s => (d.winderWrite (dieOf s) (cOf s) (csKey s (q.addr % 2 ^ 25)) q.data q.pois).2
    | none => d
  d.respond e c q st []

/-- A RD at a cluster's store. -/
def Dev.serveCluRd (d : Dev) (e c : Nat) (q : Pkt) : Dev :=
  let (g, d) := d.readStore (e * 8 + c) (q.addr % 2 ^ 25) q.len
  d.respond e c q (if g.px = [] then ST_OK else ST_POISONED) g.bytes g.px

/-- A cluster is a valid collector: MAPPED, and not fenced (R269). -/
def Dev.collector (d : Dev) (e c : Nat) : Bool := d.pstate (e * 8 + c) = PS_MAPPED && !(d.cl (e * 8 + c)).fenced

/-- Packet `q` is ejected at (e, c): a cluster serves reads and writes of its store at once; what other commands serve waits
at its destination. -/
def Dev.deliver (d : Dev) (e c : Nat) (q : Pkt) : Dev :=
  let wait (d : Dev) : Dev := d.enter q.loc q (.dst e c)
  if e < 112 then
    if q.typ = T_RD ∨ q.typ = T_WR ∨ q.typ = T_MWR then
      match d.cluShut e c q with
      | some d' => d'
      | none => if mailbox q then wait d else if q.typ = T_RD then d.serveCluRd e c q else d.serveStoreWr e c q
    else if q.typ = T_LWORD ∧ !d.collector e c then d.stale e
    else wait d
  else wait d

/-! Requesters (R135). -/

/-- The status of a skein ADD that hardware made for a cluster (R260, R118): kept in LAST; BROKEN stops the engine whose ring
it was for. -/
def Dev.addEnds (d : Dev) (p : Nat) (eng : Option Nat) (status : Nat) : Dev :=
  if status = ST_OK then d
  else
    let d := (d.updSeq p (fun s => { s with last := status })).ev (pgCLU p) EV_SEQ_ASYNC
    match eng with
    | some n =>
      if status = ST_BROKEN ∧ ((d.cl p).eng n).st ≠ .idle then
        let d := d.dftErr p n 5 ST_BROKEN
        let d := d.absorb (Own.ofEngine p n)
        d.updEng p n (fun e => { e with st := .stopped, stopping := false, rewinding := false, got := [], obuf := [] })
      else d
    | none => d

/-- A transfer of a unit command ends: its status, or the polling of a wait that found no place (R257). -/
def Dev.unitXferEnds (d : Dev) (p id : Nat) (x : Xfer) (status val : Nat) : Dev :=
  match d.unit p id with
  | none => d
  | some u =>
    if x.typ = T_SKOP ∧ status = ST_BUSY ∧ opcOf u.w = 0x21 ∧ (x.sub = SOP_WAIT ∨ x.sub = SOP_ACQ) then
      -- while the sequencer is suspended its polling stands still (R264)
      let still := decide ((d.cl p).seq.st = .suspended)
      let next (n : Nat) : Nat := (if still then 0 else d.gt) + 4000 * n
      match d.skn.polled.find? (fun y => y.p = p && y.id = id) with
      | some _ => { d with skn := { d.skn with polled := d.skn.polled.map (fun y =>
          if y.p = p ∧ y.id = id then { y with nextAt := next y.interval } else y) } }
      | none => { d with skn := { d.skn with polled := d.skn.polled ++
          [{ p := p, id := id, interval := 1, nextAt := next 1, due := u.due, frozen := still }] } }
    else
      let d := { d with skn := { d.skn with polled := d.skn.polled.filter (fun y => !(y.p = p && y.id = id)) } }
      d.updUnit p id (fun u => { u with status := if u.status = ST_OK then status else u.status, val := if x.typ = T_WR then u.val else val })

/-- Events of the host ports on their IOD page (R495). -/
abbrev EV_HP_LINK : Nat := 12
abbrev EV_HP_DERR : Nat := 13

/-- EV_HP_DERR is raised once in 1 ms (R495). -/
def Dev.hpDerr (d : Dev) (port : Nat) : Dev :=
  let due := match (d.hp port).derrAt with
    | some g => decide (g + 4000000 ≤ d.gt)
    | none => true
  if due then (d.updHp port (fun h => { h with derrAt := some d.gt })).ev (pgIOD (8 * port)) EV_HP_DERR else d

/-- A data-window access of `len` bytes ends: HP_ERR counts a status that is not OK (R491, R495). With the link down, what it
returns is discarded (R487). -/
def Dev.dwEnds (d : Dev) (port : Nat) (rd : Bool) (status : Nat) (bs : List Byte) (len : Nat) : Dev :=
  let pg := pgIOD (8 * port)
  let d := if status = ST_OK then d
    else ((d.addSat pg HP_ERR_DENY).setf pg HP_ERR_LAST status).hpDerr port
  if rd && (d.hp port).up then d.updHp port (fun h => { h with
    rdata := if status = ST_OK ∨ status = ST_POISONED then bs else List.replicate len 0xFF, rstat := status })
  else d

/-- The record of a fault goes into the slot the ticket names; then FAULT is sent (R243). -/
def Dev.ringGotTicket (d : Dev) (j : Nat) (rec : List Byte) (status t : Nat) : Dev :=
  let (a, n) := d.ringOf j
  match (if status = ST_OK ∧ 2 ≤ n then d.logicalOf (d.f (pgTUB 0) TUB_JOBp_MGR j) else none) with
  | some l =>
    let s := 1 + t % (n - 1)
    d.request d.wdEp 0 (.ringWrite j s) T_WR 15 0 true false none
      [{ addr := l * 2 ^ 52 + a + 64 * s, len := 64, data := rec, tag := some (d.f (pgTUB 0) TUB_JOBp_TAG j) }]
  | none => d.report j 5 0

/-- A transfer is over: what its completion does. -/
def Dev.finishXfer (d : Dev) (x : Xfer) : Dev :=
  let status := (x.bad.map (·.2)).getD ST_OK
  let g := SMap.get (⟨[], []⟩ : Got) x.got 0
  let val := leNat (g.bytes.take 8)
  if x.absorbed then
    match x.owner with
    | .dftRead p n _ | .dftScan p n _ | .dftIdx p n _ => d.dftAbandoned p n
    | _ => d
  else match x.owner with
    | .unit p id => d.unitXferEnds p id x status val
    | .dftRead p n _ | .dftScan p n _ | .dftIdx p n _ => d.dftArrive p n x.owner status g.bytes g.px
    | .dftWrite p n _ => (if status = ST_OK then d else d.dftErr p n 2 status).dftSettle p n
    | .hwAdd p eng => d.addEnds p eng status
    | .ticket p id q => if status = ST_OK then d else d.ticketLost p id q
    | .digest _ => d
    | .plyRead p pri id side => d.plyReadEnds p pri id side status (x.got.flatMap (fun e => e.2.bytes))
    | .mirror j =>
      if status = ST_OK then d else (d.setf (pgPART j) PART_CMT_DEGR 1).ev (pgPART j) EV_PART_DEGR
    | .area key => d.updArea key (fun a => { a with outStatus := worst a.outStatus status })
    | .areaCsk => d
    | .host port len =>
      let bs := x.got.foldl (fun l e => l ++ e.2.bytes) []
      d.dwEnds port (x.typ = T_RD || x.sub = 0 && x.typ = T_SKOP) status bs len
    | .ringTicket j rec => d.ringGotTicket j rec status val
    | .ringWrite j s => d.report j 5 s
    | .energy j => d.setf (pgPART j) PART_ENR_ERR (b2n (status ≠ ST_OK))
    | .splrec j k => d.sendMsg (d.f (pgPART j) PART_SPL_TWIN) (msgWord 2 (d.f (pgTUB 0) TUB_JOBp_JSLOT j) k)
    | .cross q st bs px =>
      let s := worst st status
      let rd := q.typ = T_RD ∧ (s = ST_OK ∨ s = ST_POISONED)
      d.respond x.ep 0 q s (if rd then bs ++ g.bytes else []) (if rd then px ++ g.px.map (· + bs.length) else [])

/-- The lower of two SEQs that completed other than OK. -/
def badOf (b : Option (Nat × Nat)) (sq status : Nat) : Option (Nat × Nat) :=
  if status = ST_OK then b
  else match b with
    | none => some (sq, status)
    | some (s, t) => if sq < s then some (sq, status) else some (s, t)

/-- Bytes of a response land where the requester put them: a cluster's store through its winder, else memory (R135, R271). -/
def Dev.land (d : Dev) (k : Nat) (bs : List Byte) (px : List Nat) : Dev :=
  if 2 ^ 44 ≤ k ∧ k < 2 ^ 45 then
    let p := (k - 2 ^ 44) / 2 ^ 25
    (d.winderWrite (dieOf p) (cOf p) k bs px).2
  else d.store k bs px

/-- One SEQ of a transfer completes with a status and the data its response carries (R135): a read's bytes, or the value of a
skein, also of a BROKEN one (R261). -/
def Dev.seqDone (d : Dev) (x : Xfer) (sq status : Nat) (bs : List Byte) (px : List Nat) : Dev :=
  let d : Dev := match x.land with
    | some k => if bs ≠ [] ∧ x.typ = T_RD ∧ !x.absorbed then d.land (k + 256 * sq) bs px else d
    | none => d
  let x' : Xfer := { x with
    left := if x.typ = T_MWR then x.left.eraseP (fun l => l.1 = sq) else x.left.filter (fun l => l.1 ≠ sq), bad := badOf x.bad sq status,
    got := if x.land.isNone ∧ !x.absorbed then SMap.ins x.got sq ⟨bs, px⟩ else x.got }
  if x'.left = [] then
    (d.updNet (fun n => { n with xfers := n.xfers.filter (fun y => y.flow ≠ x.flow) })).finishXfer x'
  else d.updNet (fun n => { n with xfers := n.xfers.map (fun y => if y.flow = x.flow then x' else y) })

/-- The transfer a response at (e, c) belongs to: its FLOW is outstanding there and its SEQ has not completed. -/
def Dev.xferOf (d : Dev) (q : Pkt) : Option Xfer :=
  d.net.xfers.find? (fun x => x.flow = q.flow && x.left.any (fun l => l.1 = q.sq))

/-- Response packet `q`, already taken out, completes its SEQ or is discarded as stale; a fenced cluster absorbs it. -/
def Dev.response (d : Dev) (e c : Nat) (q : Pkt) : Dev :=
  let p := e * 8 + c
  let d := if e < 112 ∧ (d.cl p).fenced ∧ q.typ ≠ 0 then d.addSat (pgCLU p) CLU_RST_ABSN else d
  match d.xferOf q with
  | some x => d.seqDone x q.sq q.status q.data q.pois
  | none => if q.typ = 0 then d else d.stale e

/-- A packet that completes a request: a response, or the source's own answer. -/
def Pkt.isRsp (q : Pkt) : Bool := q.vc = 1 || q.typ = T_MGRSP

/-- Whether packet `q` answers a source read of a draft engine. -/
def Dev.forDraft (d : Dev) (q : Pkt) : Bool :=
  match d.xferOf q with
  | some x => (match x.owner with
    | .dftRead _ _ _ | .dftScan _ _ _ | .dftIdx _ _ _ => !x.absorbed
    | _ => false)
  | none => false

/-- Apply `f` to packet `i` when it stands at its destination. -/
def Dev.atDst (d : Dev) (i : Nat) (f : Dev → Nat → Nat → Pkt → Dev) : Dev :=
  match d.net.pkts[i]? with
  | some q =>
    match q.loc with
    | .dst e c => f d e c q
    | _ => d
  | none => d

/-- RESPONSE_ARRIVAL (R135): response packet `i` reaches its requester. -/
def execResponseArrival (i : Nat) (s : State) : Host.Outcome State Fault Refusal :=
  s.run true (fun _ d => d.atDst i (fun d e c q =>
    if q.typ = T_MGRSP then (d.take i).msgReply q.flow q.status
    else if q.isRsp ∧ !d.forDraft q then (d.take i).response e c q else d))

/-- DRAFT_READ_RESPONSE (R118): response packet `i` completes a source read of a draft engine. -/
def execDraftReadResponse (i : Nat) (s : State) : Host.Outcome State Fault Refusal :=
  s.run true (fun _ d => d.atDst i (fun d e c q =>
    if q.isRsp ∧ d.forDraft q then (d.take i).response e c q else d))

/-- Every SEQ of a transfer that `sel` names completes with a status. -/
def Dev.cutXfer (d : Dev) (flow : Nat) (sel : Nat × Nat → Bool) (status : Nat) : Dev :=
  match d.net.xfers.find? (fun x => x.flow = flow) with
  | none => d
  | some x => forL ((x.left.filter sel).map (·.1)) (fun sq d =>
      match d.net.xfers.find? (fun y => y.flow = flow) with
      | some y => d.seqDone y sq status [] []
      | none => d) d

/-- TRANSFER_TIMEOUT (R136): transfer `i` of the panel has not completed within 200 µs of its last packet. -/
def execTransferTimeout (i : Nat) (s : State) : Host.Outcome State Fault Refusal :=
  s.run true (fun _ d =>
    match d.net.xfers[i]? with
    | some x =>
      if x.timed ∧ !x.fabric ∧ x.since + 800000 ≤ d.gt then
        -- pairs whose OPTICAL path the transfer used are scored (Table 10.5)
        let far := ((x.left.map (·.2)).filter (fun b => d.choose x.ep b (d.inje x.ep) = .optical)).eraseDups
        let d := forL far (fun b d => d.slubEvent 11 U_PAIR (pairKey x.ep b)) d
        d.cutXfer x.flow (fun _ => true) ST_TIMEOUT
      else d
    | none => d)

/-- The status a request toward an absent endpoint completes with (R146, R265). -/
def Xfer.lostStatus (x : Xfer) : Nat :=
  if x.typ = T_RD ∨ (x.typ = T_SKOP ∧ x.sub = SOP_READ) then ST_ABSENT else ST_BROKEN

/-- ENDPOINT_ABSENT_CLEANUP (R146): requesters complete what is outstanding toward an absent endpoint. -/
def execEndpointAbsentCleanup (e : Nat) (s : State) : Host.Outcome State Fault Refusal :=
  s.run (decide (e < Config.endpoints)) (fun _ d =>
    if d.present e then d
    else
      let hit := d.net.xfers.filter (fun x => x.left.any (fun l => l.2 = e))
      forL hit (fun x d => d.cutXfer x.flow (fun l => l.2 = e) x.lostStatus) d)

end Sys2Proof.Machine
end

