-- ==== Sys2Proof/Machine/Optical.lean ====
section
/-!
DEFINITION. The optical layer (R164 to R173): sending on a plane, reception, replay, channel classes, re-locks, laser
loss and calibration.
-/

namespace Sys2Proof.Machine

/-! Sending (R167). -/

/-- Key of an ordered pair. -/
def dirKey (a b : Nat) : Nat := a * 256 + b

/-- Counts of one direction of a channel, kept at endpoint n toward its peer. -/
def Dev.updCnt (d : Dev) (n peer plane : Nat) (f : ChanCnt → ChanCnt) : Dev :=
  { d with opt := { d.opt with cnt := SMap.upd {} d.opt.cnt (dirKey n peer * 16 + plane) f } }

/-- Packet `i` at endpoint `e` goes out on the next plane of its pair, unless the pair's receive buffer holds it off; with no plane
left R171 applies. A memory base die and a whorl die count it as sent by their EP side (R160). -/
def Dev.epSend (d : Dev) (i e : Nat) (q : Pkt) : Dev :=
  let b := q.dep
  let k := dirKey e b
  match nextPlane (d.planeList e b) (SMap.get 0 d.opt.rot k) with
  | none => (d.take i).lostOptical e b q
  | some p =>
    if d.heldOff (.rx e b) q.vc then d
    else
      let s := SMap.get 0 d.opt.next k
      let d : Dev := { d with opt := { d.opt with
        next := SMap.set 0 d.opt.next k (s + 1), rot := SMap.set 0 d.opt.rot k ((p + 1) % 16),
        replay := d.opt.replay ++ [{ a := e, b := b, lseq := s, plane := p, at_ := d.gt, pkt := q }] } }
      let d := if isCD e || isIOD e then d.take i else (d.take i).countOut e 0 5 q
      d.updNet (fun n => { n with pkts := n.pkts ++ [{ q with loc := .opt e b s }] })

/-- A channel in service becomes POOR: it leaves service and its rings are retuned (Table 6.1). -/
def Dev.chanPoor (d : Dev) (a b plane : Nat) : Dev :=
  if (d.chan a b plane).cls < 2 then
    let d := d.slubEvent 9 U_PAIR (pairKey a b)
    if 2 ≤ (d.chan a b plane).cls then d
    else
      (d.updChan a b plane (fun c => { c with tuned := false, fails := 0 })).chanOut a b plane 2
  else d

/-- A channel becomes DOWN. -/
def Dev.chanDown (d : Dev) (a b plane : Nat) : Dev :=
  let d := d.slubEvent 10 U_PAIR (pairKey a b)
  let d := d.chanOut a b plane 3
  (d.ev (pgOPT a) EV_OPT_CHDOWN).ev (pgOPT b) EV_OPT_CHDOWN

/-- Send a packet of the replay buffer again on the next plane, counted against the channel of the failed attempt (R167). -/
def Dev.resend (d : Dev) (a b lseq : Nat) : Dev :=
  match d.opt.replay.find? (fun s => s.a = a && s.b = b && s.lseq = lseq) with
  | none => d
  | some s =>
    let c := SMap.get ({} : ChanCnt) d.opt.cnt (dirKey a b * 16 + s.plane)
    let d := d.updCnt a b s.plane (fun c => { c with resend := sat 32 (c.resend + 1), succ := c.succ + 1 })
    let d := if 3 ≤ c.succ + 1 then (d.updCnt a b s.plane (fun c => { c with succ := 0 })).chanPoor a b s.plane else d
    -- the pair may have lost its last plane, and the packet with it
    if !(d.opt.replay.any (fun s => s.a = a && s.b = b && s.lseq = lseq)) then d
    else match nextPlane (d.planeList a b) (SMap.get 0 d.opt.rot (dirKey a b)) with
      | none => d
      | some p =>
        let d : Dev := { d with opt := { d.opt with
          rot := SMap.set 0 d.opt.rot (dirKey a b) ((p + 1) % 16),
          replay := d.opt.replay.map (fun s => if s.a = a ∧ s.b = b ∧ s.lseq = lseq then { s with plane := p, at_ := d.gt } else s) } }
        d.updNet (fun n => { n with pkts := (n.pkts.filter (fun q => q.loc ≠ .opt a b lseq)) ++ [{ s.pkt with loc := .opt a b lseq }] })

/-! Reception. -/

/-- Where a packet that has crossed the optical layer goes at endpoint b (R10). -/
def optDest (b : Nat) (q : Pkt) : Loc :=
  if b < 112 then .router b q.dcl 5 else if isIOD b then .iod (b - 168) 5 else .dst b 0

/-- OPT_PACKET_RECEIVE (R167): packet `i` on an optical pair arrives in the pair's receive buffer (R138); `ok`: its FEC decoding and CRC
pass (log entry 8). A duplicate of the last 2,048 sequence numbers is discarded. -/
def execOptPacketReceive (i : Nat) (ok : Bool) (s : State) : Host.Outcome State Fault Refusal :=
  s.run true (fun _ d =>
    match d.net.pkts[i]? with
    | some q =>
      match q.loc with
      | .opt a b n =>
        if !d.present b then d
        else if !ok then (d.take i).resend a b n
        else
          let k := dirKey a b
          let seen := SMap.get [] d.opt.rx k
          if seen.contains n then d.take i
          else
            let top := seen.foldl max n
            let d := { d with opt := { d.opt with
              rx := SMap.ins d.opt.rx k ((setIns seen n).filter (fun x => decide (top < x + 2048))) } }
            (d.take i).enter q.loc q (.rx a b)
      | _ => d
    | none => d)

/-- OPT_ACK_RECEIVE (R167): the acknowledgement of a delivered packet releases it from the replay buffer. -/
def execOptAckReceive (a b lseq : Nat) (s : State) : Host.Outcome State Fault Refusal :=
  s.run true (fun _ d =>
    match d.opt.replay.find? (fun s => s.a = a && s.b = b && s.lseq = lseq) with
    | some x =>
      if (SMap.get [] d.opt.rx (dirKey a b)).contains lseq then
        let d := d.updCnt a b x.plane (fun c => { c with succ := 0 })
        { d with opt := { d.opt with replay := d.opt.replay.filter (fun s => !(s.a = a && s.b = b && s.lseq = lseq)) } }
      else d
    | none => d)

/-- OPT_RESEND_TIMEOUT (R167): 400 ns have passed without an acknowledgement. -/
def execOptResendTimeout (a b lseq : Nat) (s : State) : Host.Outcome State Fault Refusal :=
  s.run true (fun _ d =>
    match d.opt.replay.find? (fun s => s.a = a && s.b = b && s.lseq = lseq) with
    | some x => if x.at_ + 1600 ≤ d.gt then d.resend a b lseq else d
    | none => d)

/-! Channel classes (R168). -/

/-- A pair of distinct endpoints with a plane of the layer. -/
def chanOk (a b plane : Nat) : Bool := decide (a < Config.endpoints ∧ b < Config.endpoints ∧ a ≠ b ∧ plane < 16)

/-- A window of the direction a → b classes it: the channel has the worse class of its two directions (R168). -/
def Chan.window (c : Chan) (a b cls : Nat) : Chan := if a < b then { c with up := cls } else { c with dn := cls }

/-- OPT_MARGIN_WINDOW (R168): a 1 ms window of the direction a → b reads class `cls` (0 GOOD, 1 THIN, 2 POOR) with its
corrected symbols and uncorrectable codewords (log entry 8). -/
def execOptMarginWindow (a b plane cls corr uncorr : Nat) (s : State) : Host.Outcome State Fault Refusal :=
  s.run (chanOk a b plane && decide (cls < 3)) (fun _ d =>
    let d := d.updCnt b a plane (fun c => { c with corr := sat 40 (c.corr + corr), uncorr := sat 32 (c.uncorr + uncorr) })
    let c := d.chan a b plane
    if c.cls = 3 ∨ d.opt.outPlanes.contains plane ∨ !d.present a ∨ !d.present b then d
    else
      let c' := c.window a b (if 0 < uncorr then 2 else cls)
      let worse := max c'.up c'.dn
      let d := d.updChan a b plane (fun _ => c')
      if c.cls = 2 then
        if worse = 0 ∧ c.tuned then (d.updChan a b plane (fun c => { c with cls := 0, inSvc := true, fails := 0 })).distChange else d
      else if worse = 2 then d.chanPoor a b plane
      else
        let d := d.updChan a b plane (fun c => { c with cls := worse })
        let sec := d.gt / 4000000000 + 1
        if worse = 1 ∧ c.thinAt ≠ sec then
          let d := d.updChan a b plane (fun c => { c with thinAt := sec })
          ((d.slubEvent 8 U_PAIR (pairKey a b)).ev (pgOPT a) EV_OPT_THIN).ev (pgOPT b) EV_OPT_THIN
        else d)

/-- OPT_RETUNE_DONE (R168): retuning of a POOR channel ends; the fourth failure in succession makes it DOWN. -/
def execOptRetuneDone (a b plane : Nat) (ok : Bool) (s : State) : Host.Outcome State Fault Refusal :=
  s.run (chanOk a b plane) (fun _ d =>
    let c := d.chan a b plane
    if c.cls ≠ 2 ∨ c.tuned then d
    else if ok then d.updChan a b plane (fun c => { c with tuned := true, fails := 0 })
    else if 4 ≤ c.fails + 1 then (d.updChan a b plane (fun c => { c with fails := 4 })).chanDown a b plane
    else d.updChan a b plane (fun c => { c with fails := c.fails + 1 }))

/-! Planes and lasers (R169, R170). -/

/-- Endpoints with a die that is present. -/
def Dev.eps (d : Dev) : List Nat := (List.range Config.endpoints).filter d.present

/-- EV_OPT_PLANE on every present endpoint's page. -/
def Dev.evPlane (d : Dev) : Dev := forL d.eps (fun e d => d.ev (pgOPT e) EV_OPT_PLANE) d

/-- A plane leaves service at every endpoint; pairs whose last plane it was lose their packets (R171). -/
def Dev.planeOut (d : Dev) (plane : Nat) : Dev :=
  if d.opt.outPlanes.contains plane then d
  else
    let eps := d.eps
    let d' := ({ d with opt := { d.opt with outPlanes := setIns d.opt.outPlanes plane } }).evPlane.distChange
    forL eps (fun a d' => forL (eps.filter (fun b => decide (a < b))) (fun b d' =>
      if 0 < d.planes a b ∧ d'.planes a b = 0 then d'.pairLost a b else d') d') d'

/-- A laser die has failed for good. -/
def Dev.laserBad (d : Dev) (die : Nat) : Bool := (d.f pgWHL WHL_OPTCTL_LASERBAD).testBit die

/-- The laser dies that light the fabric ports of IOD k: the two of its corner (R170). -/
def cornerLasers (k : Nat) : List Nat :=
  if k < 3 ∨ k = 14 then [0, 1] else if k < 7 then [2, 3] else if k = 7 ∨ (11 ≤ k ∧ k < 14) then [4, 5] else [6, 7]

/-- The transmit lanes of a fabric port are lit (R484): they are dark while the IOD is off, while the port is ABSENT with cause HOLD, and
without light from both laser dies of the corner (R170). -/
def Dev.portLit (d : Dev) (q : Nat) : Bool :=
  d.present (168 + q / 2) && !(d.f (pgTUB (q + 1)) TUB_PSTATE_STATE = 6 && d.f (pgTUB (q + 1)) TUB_PSTATE_CAUSE = 8) &&
    (cornerLasers (q / 2)).any (fun l => !d.laserBad l && !d.opt.restart.contains l)

/-- PLANE_RELOCK_START (R169): the oldest request begins when no plane is in re-lock. A plane whose laser die is lost, or
restarts, cannot re-lock. -/
def execPlaneRelockStart (s : State) : Host.Outcome State Fault Refusal :=
  s.run true (fun _ d =>
    match d.opt.relock, d.opt.queue with
    | none, p :: t =>
      let d := { d with opt := { d.opt with queue := t } }
      if d.laserBad (p / 2) ∨ d.opt.restart.contains (p / 2) then d
      else
        let d := { d with opt := { d.opt with relock := some p } }
        d.planeOut p
    | _, _ => d)

/-- PLANE_RELOCK_END (R169): the plane returns; channels in `failed` did not lock and are DOWN (log entry 8). -/
def execPlaneRelockEnd (plane : Nat) (failed : List (Nat × Nat)) (s : State) : Host.Outcome State Fault Refusal :=
  s.run (decide (plane < 16)) (fun _ d =>
    if d.opt.relock ≠ some plane then d
    else
      let keep (k : Nat) : Bool := k % 16 ≠ plane || d.opt.retired.contains (k / 16)
      let d := { d with opt := { d.opt with relock := none, outPlanes := setDel d.opt.outPlanes plane,
                                            chan := d.opt.chan.filter (fun e => keep e.1) } }
      let d := forL failed (fun x d =>
        if chanOk x.1 x.2 plane then
          ((d.slubEvent 10 U_PAIR (pairKey x.1 x.2)).chanOut x.1 x.2 plane 3).ev (pgOPT x.1) EV_OPT_CHDOWN |>.ev (pgOPT x.2) EV_OPT_CHDOWN
        else d) d
      d.evPlane.distChange)

/-- RLREQ (R169): the host queues a re-lock. -/
def Dev.rlReq (d : Dev) : Dev := d.queueRelock (d.f pgWHL WHL_OPTCTL_RLPLANE)

/-- RLREQ: WHL_OPTCTL is written with RLPLANE and RLREQ = 1. -/
def execRlreq (port plane : Nat) (s : State) : Host.Outcome State Fault Refusal :=
  s.run (decide (port < 2 ∧ plane < 16)) (fun _ d =>
    d.onWrite port (pgWHL + 0x310) (BitVec.ofNat 64 (plane * 2 ^ 12 + 2 ^ 11)) (fun d _ => d.rlReq))

/-- LASER_LOCK_LOSS (R170): both planes of the die leave service and its comb is restarted once. -/
def execLaserLockLoss (die : Nat) (s : State) : Host.Outcome State Fault Refusal :=
  s.run (decide (die < 8)) (fun _ d =>
    if d.laserBad die ∨ d.opt.restart.contains die ∨ d.f pgWHL WHL_OPTCTL_CSTATE ≠ 2 then d
    else
      let d := { d with opt := { d.opt with
        restart := d.opt.restart ++ [die],
        relock := match d.opt.relock with
          | some p => if p / 2 = die then none else some p
          | none => none } }
      (d.planeOut (2 * die)).planeOut (2 * die + 1))

/-- LASER_RESTART_DONE (R170): both planes are re-locked in turn, or stay out and the die is set in LASERBAD. -/
def execLaserRestartDone (die : Nat) (ok : Bool) (s : State) : Host.Outcome State Fault Refusal :=
  s.run (decide (die < 8)) (fun _ d =>
    if !d.opt.restart.contains die then d
    else
      let d := { d with opt := { d.opt with restart := d.opt.restart.filter (· ≠ die) } }
      if ok then (d.queueRelock (2 * die)).queueRelock (2 * die + 1)
      else d.setf pgWHL WHL_OPTCTL_LASERBAD (d.f pgWHL WHL_OPTCTL_LASERBAD ||| 2 ^ die))

/-! Calibration (R172, R173). -/

/-- OPT_STATE.ESTATE of an endpoint. -/
def Dev.setEstate (d : Dev) (e v : Nat) : Dev := d.setf (pgOPT e) OPT_STATE_ESTATE v

/-- Calibration starts (R173); refused before step 10 is due (R403). -/
def Dev.calStart (d : Dev) : Dev :=
  if d.f pgWHL WHL_BOOT_BSTEP < 9 then d.setf pgWHL WHL_BOOT_ERRC 1
  else if d.f pgWHL WHL_OPTCTL_CSTATE ≠ 0 then d
  else forL d.eps (fun e d => d.setEstate e 1) ((d.setf pgWHL WHL_BOOT_ERRC 0).setf pgWHL WHL_OPTCTL_CSTATE 1)

/-- CALSTART (R173): ignored unless CSTATE is IDLE. -/
def execCalstart (port : Nat) (s : State) : Host.Outcome State Fault Refusal :=
  s.run (decide (port < 2)) (fun _ d =>
    -- RLPLANE takes the value the write gives it
    d.onWrite port (pgWHL + 0x310) (setFld 1 15 12 (d.f pgWHL WHL_OPTCTL_RLPLANE)) (fun d _ => d.calStart))

/-- Endpoints being calibrated enter service: channels not listed in `classes` are GOOD. -/
def Dev.calibrated (d : Dev) (new : List Nat) (classes : List (Nat × Nat × Nat × Nat)) (lats : List (Nat × Nat)) : Dev :=
  let d := forL new (fun e d => d.setEstate e 2) d
  let d := { d with free := d.free + 65536,
                    opt := { d.opt with cal := forL new (fun e l => setIns l e) d.opt.cal,
                                        latBase := forL new (fun e m => SMap.set 0 m e (d.free + 1)) d.opt.latBase } }
  let d := forL classes (fun x d =>
    if chanOk x.1 x.2.1 x.2.2.1 ∧ x.2.2.2 < 4 ∧ (new.contains x.1 ∨ new.contains x.2.1) then
      let d := d.updChan x.1 x.2.1 x.2.2.1 (fun c => { c with
        cls := x.2.2.2, inSvc := decide (x.2.2.2 < 2), tuned := decide (x.2.2.2 ≠ 2), fails := 0, up := x.2.2.2, dn := x.2.2.2 })
      if 2 ≤ x.2.2.2 then d.checkRelock x.1 x.2.1 x.2.2.1 else d
    else d) d
  let d := forL lats (fun x d =>
    if 88 ≤ x.2 ∧ x.2 ≤ 124 ∧ (new.contains (x.1 / 256) ∨ new.contains (x.1 % 256)) then { d with opt := { d.opt with lat := SMap.ins d.opt.lat x.1 x.2 } } else d) d
  forL d.opt.retired (fun k d => forN 16 (fun p d =>
    d.updChan (k / 256) (k % 256) p (fun c => { c with cls := 3, inSvc := false })) d) d

/-- An endpoint leaves the optical layer: its pairs carry nothing, and its channels start afresh (R22, R172). -/
def Dev.optEndpointOff (d : Dev) (e : Nat) : Dev :=
  let inPair (k : Nat) : Bool := k / 256 = e || k % 256 = e
  let d := { d with opt := { d.opt with
    cal := setDel d.opt.cal e, chan := d.opt.chan.filter (fun x => !inPair (x.1 / 16)), cnt := d.opt.cnt.filter (fun x => !inPair (x.1 / 16)),
    next := d.opt.next.filter (fun x => !inPair x.1), rot := d.opt.rot.filter (fun x => !inPair x.1),
    rx := d.opt.rx.filter (fun x => !inPair x.1), lat := d.opt.lat.filter (fun x => !inPair x.1), latBase := SMap.del d.opt.latBase e } }
  let mine := d.opt.replay.filter (fun s => s.b = e && s.a ≠ e)
  let d := { d with opt := { d.opt with replay := d.opt.replay.filter (fun s => s.a ≠ e && s.b ≠ e) } }
  let d := d.updNet (fun n => { n with pkts := n.pkts.filter (fun q => match q.loc with
    | .opt a b _ => a ≠ e && b ≠ e
    | .rx a b => a ≠ e && b ≠ e
    | _ => true) })
  let d := forL mine (fun s d => d.lostOptical s.a s.b s.pkt) d
  d.setEstate e 3

end Sys2Proof.Machine
end

