-- ==== Sys2Proof/Machine/Dabin.lean ====
section
/-!
DEFINITION. Dabin and IOD links (R174 to R182): training, widths, lane repair, capability exchange, replay budget; and
die discovery (R183, R184).
-/

namespace Sys2Proof.Machine

/-- A link's state besides its registers. -/
def Dev.link (d : Dev) (n : Nat) : Link := SMap.get {} d.lnk n
/-- Change it. -/
def Dev.updLink (d : Dev) (n : Nat) (f : Link → Link) : Dev := { d with lnk := SMap.upd {} d.lnk n f }
/-- DBL_STATE.STATE. -/
def Dev.linkState (d : Dev) (n : Nat) : Nat := d.f (pgLink n) DBL_STATE_STATE

/-! Lanes (R177). -/

/-- Good lanes, lowest first. -/
def goodLanes (bad : List Nat) : List Nat := (List.range 68).filter (fun l => !bad.contains l)

/-- The active width for the smaller count of good lanes; 0: too few. -/
def widthFor (g : Nat) : Nat := if 64 ≤ g then 64 else if 32 ≤ g then 32 else if 16 ≤ g then 16 else 0

/-- Code of a width (Table 6.7). -/
def widthCode (w : Nat) : Nat := if w = 64 then 3 else if w = 32 then 2 else if w = 16 then 1 else 0
/-- The width of a code. -/
def codeWidth (c : Nat) : Nat := if c = 3 then 64 else if c = 2 then 32 else if c = 1 then 16 else 0

/-- The lane count of a link: W × RATE / 64 (R177). -/
def Dev.laneCount (d : Dev) (n : Nat) : Nat :=
  codeWidth (d.f (pgLink n) DBL_STATE_WIDTH) * 2 ^ min 2 (d.f (pgLink n) DBL_STATE_RATE) / 4

/-- The lane registers show the lanes marked bad. -/
def Dev.showLanes (d : Dev) (n : Nat) : Dev :=
  let l := d.link n
  let pg := pgLink n
  let mask (b : List Nat) (o : Nat) : Nat := b.foldl (fun a x => if o ≤ x then a ||| 2 ^ (x - o) else a) 0
  let d := (d.setf pg DBL_STATE_GOODF (68 - l.badF.length)).setf pg DBL_STATE_GOODR (68 - l.badR.length)
  let d := (d.setf pg DBL_BADF_BAD (mask (l.badF.filter (· < 64)) 0)).setf pg DBL_BADR_BAD (mask (l.badR.filter (· < 64)) 0)
  (d.setf pg DBL_BADSP_FWD (mask l.badF 64)).setf pg DBL_BADSP_REV (mask l.badR 64)

/-- Lanes of one direction in an operand list: 0..67 forward, 128..195 reverse. -/
def lanesOf (l : List Nat) (fwd : Bool) : List Nat :=
  (List.range 68).filter (fun i => l.contains (if fwd then i else 128 + i))

/-! Training (Table 6.3). -/

/-- The two ends of a link are present. -/
def Dev.linkEnds (d : Dev) (n : Nat) : Bool := d.present (linkEps n).1 && d.present (linkEps n).2

/-- A link goes through DOWN to train again; what it carried waits for R145. HOLD, retirement and an absent partner keep it
ABSENT. -/
def Dev.linkRetrain (d : Dev) (n : Nat) : Dev :=
  let pg := pgLink n
  if (d.link n).retired then d.linkAbsent n 9
  else if d.fb pg DBL_CTL_HOLD then d.linkAbsent n 8
  else if (d.link n).discBad then d.linkAbsent n 6
  else if !d.linkEnds n then d.linkAbsent n 7
  else
    let d := if d.f pg DBL_STATE_WIDTH = 0 then d else d.distChange
    let d := (((d.setf pg DBL_STATE_STATE 1).setf pg DBL_STATE_CAUSE 0).setf pg DBL_STATE_WIDTH 0).setf pg DBL_CAPR_CAP 0
    d.updLink n (fun l => { l with deskewed := false })

/-- REPAIR: width and lanes are chosen. -/
def Dev.linkRepair (d : Dev) (n : Nat) : Dev :=
  let l := d.link n
  let f := goodLanes l.badF
  let r := goodLanes l.badR
  let w := widthFor (min f.length r.length)
  if w = 0 then d.linkAbsent n 2
  else
    let d := d.updLink n (fun l => { l with actF := f.take w, actR := r.take w })
    d.setf (pgLink n) DBL_STATE_STATE 4

/-- DABIN_TRAIN_STATE_DONE (R176): the state of a training link completes; in LANE_TRAIN `bad` lists the lanes marked bad
(log entry 8). -/
def execDabinTrainStateDone (n : Nat) (bad : List Nat) (s : State) : Host.Outcome State Fault Refusal :=
  s.run (decide (n < Config.allLinks)) (fun _ d =>
    let pg := pgLink n
    match d.linkState n with
    | 1 => d.setf pg DBL_STATE_STATE 2
    | 2 => ((d.updLink n (fun l => { l with badF := lanesOf bad true, badR := lanesOf bad false })).showLanes n).setf pg DBL_STATE_STATE 3
    | 3 => d.linkRepair n
    | 4 => d.setf pg DBL_STATE_STATE 5
    | _ => d)

/-- The local capability block of a link (Table 6.4): the page's end. A compute die sends MAJOR 3, MINOR 0, MAXRATE 2, COMBINE and
DBGVIS 1 (log entry 10); an IOD sends the same unless it is of another product revision, whose block is fused (R182). -/
def localCap (fu : Fuses) (n : Nat) : Word :=
  let own (typ edge e : Nat) : Word := BitVec.ofNat 64
    (3 * 2 ^ 56 + typ * 2 ^ 44 + edge * 2 ^ 41 + 2 * 2 ^ 39 + 2 ^ 38 + 2 ^ 37 + (fu.serialOf e).toNat)
  if n < 600 then own 0 (if n < 208 then 0 else 2) (linkEps n).1
  else SMap.get (own 1 4 (linkEps n).2) fu.iodBlock (n - 600)

/-- The cause that R182 gives a link whose exchange fails, by the blocks of its two ends, the page's first; none: accepted. -/
def capCause (n : Nat) (own cap : Word) : Option Nat :=
  if fld cap 63 56 ≠ fld own 63 56 then some 3
  else if fld cap 47 44 ≠ 0 ∨ fld own 47 44 ≠ (if n < 600 then 0 else 1) then some 4
  else if n < 600 ∧ fld cap 43 41 ≠ (if n < 208 then 1 else 3) then some 5
  else if 600 ≤ n ∧ fld own 43 41 ≠ 4 then some 5
  else none

/-- The negotiated lane rate (R182). -/
def capRate (own cap : Word) : Nat := min 2 (min (fld own 40 39) (fld cap 40 39))

/-- DABIN_TRAIN_TIMEOUT (R176): a state has taken ten times its typical time. -/
def execDabinTrainTimeout (n : Nat) (bad : List Nat) (s : State) : Host.Outcome State Fault Refusal :=
  s.run (decide (n < Config.allLinks)) (fun fu d =>
    let pg := pgLink n
    match d.linkState n with
    | 1 => d.linkAbsent n 1
    | 2 => ((d.updLink n (fun l => { l with badF := lanesOf bad true, badR := lanesOf bad false })).showLanes n).setf pg DBL_STATE_STATE 3
    | 3 => d.linkAbsent n 2
    | 4 =>
      if (d.link n).deskewed then d.linkAbsent n 2
      else (d.updLink n (fun l => { l with deskewed := true })).setf pg DBL_STATE_STATE 2
    | 5 => d.linkAbsent n ((capCause n (localCap fu n) (d.reg (pg + 0x98))).getD 3)
    | 7 => d.linkRetrain n  -- the recalibration or lane swap did not end: the width as it comes (R176, R179)
    | _ => d)

/-- The exchange is accepted: the link carries traffic. -/
def Dev.linkActive (d : Dev) (n : Nat) (own cap : Word) : Dev :=
  let pg := pgLink n
  let l := d.link n
  let w := l.actF.length
  let rate := capRate own cap
  if w * 2 ^ rate / 4 < 16 then d.linkAbsent n 2
  else
    let d := ((d.setf pg DBL_STATE_RATE rate).setf pg DBL_STATE_COMB (min (fld own 38 38) (fld cap 38 38))).setf pg DBL_STATE_DBGV
      (min (fld own 37 37) (fld cap 37 37))
    let d := ((d.setf pg DBL_STATE_STATE 6).setf pg DBL_STATE_WIDTH (widthCode w)).setf pg DBL_STATE_CAUSE 0
    let d := (d.setf pg DBL_CTL_RETRAIN 0).updLink n (fun l => { l with lastW := w })
    let d := (d.evLink n EV_DBL_UP).distChange
    if l.lastW ≠ 0 ∧ l.lastW ≠ w then d.evLink n EV_DBL_WIDTH else d

/-- DABIN_CAP_EXCHANGE (R181, R182): `cap` is the partner's block; accepted, the link is ACTIVE. -/
def execDabinCapExchange (n : Nat) (cap : Word) (s : State) : Host.Outcome State Fault Refusal :=
  s.run (decide (n < Config.allLinks)) (fun fu d =>
    let pg := pgLink n
    if d.linkState n ≠ 5 then d
    else
      let d := (d.setReg (pg + 0x90) (localCap fu n)).setReg (pg + 0x98) cap
      match capCause n (localCap fu n) cap with
      | some c => d.linkAbsent n c
      | none => d.linkActive n (localCap fu n) cap)

/-! Service (R175, R178, R179). -/

/-- DABIN_FRAME_REFUSED (R175): a frame in a direction fails its CRC and `frames` frames are sent again. The page counts its
own end; the partner's counts are those of DBL_REMOTE. -/
def execDabinFrameRefused (n : Nat) (fwd : Bool) (frames : Nat) (s : State) : Host.Outcome State Fault Refusal :=
  s.run (decide (n < Config.allLinks ∧ 0 < frames ∧ frames ≤ 64)) (fun _ d =>
    let pg := pgLink n
    if !d.linkUp n then d
    else
      -- the page's end sends in the forward direction; the other end receives
      let tx := if fwd then pg + 0xB8 else pg + 0xC0
      let rx := if fwd then pg + 0xC0 else pg + 0xB8
      let d := d.setReg tx (setFld (d.reg tx) 47 24 (sat 24 (fld (d.reg tx) 47 24 + frames)))
      let d := d.setReg rx (setFld (d.reg rx) 23 0 (sat 24 (fld (d.reg rx) 23 0 + 1)))
      d.updLink n (fun l => { l with replays := l.replays + frames }))

/-- DABIN_BUDGET_WINDOW (R175): a 10 ms window ends. -/
def execDabinBudgetWindow (n : Nat) (s : State) : Host.Outcome State Fault Refusal :=
  s.run (decide (n < Config.allLinks)) (fun _ d =>
    let pg := pgLink n
    let bud := d.f pg DBL_CTL_RPLBUD
    let r := (d.link n).replays
    let d := d.updLink n (fun l => { l with replays := 0 })
    if bud ≠ 0 ∧ bud < r then ((d.addSat pg DBL_ERRCNT_BUDX).evLink n EV_DBL_RPLBUD).slubEvent 6 U_LINK n else d)

/-- DABIN_LANE_PARITY_WINDOW (R178, R179): a lane counted `errs` parity errors in a 1 ms window. -/
def execDabinLaneParityWindow (n : Nat) (fwd : Bool) (lane errs : Nat) (s : State) : Host.Outcome State Fault Refusal :=
  s.run (decide (n < Config.allLinks ∧ lane < 68)) (fun _ d =>
    let pg := pgLink n
    let l := d.link n
    let act := if fwd then l.actF else l.actR
    if !d.linkUp n ∨ errs < 16 ∨ !act.contains lane then d
    else
      let bad := setIns (if fwd then l.badF else l.badR) lane
      let spare := (goodLanes bad).find? (fun x => !act.contains x)
      let d := (d.updLink n (fun l => if fwd then { l with badF := bad } else { l with badR := bad })).showLanes n
      match spare with
      | some x =>
        let act := act.map (fun y => if y = lane then x else y)
        let d := d.updLink n (fun l => if fwd then { l with actF := act } else { l with actR := act })
        ((d.setf pg DBL_STATE_STATE 7).evLink n EV_DBL_REPAIR).slubEvent 5 U_LINK n
      | none => (d.linkRetrain n).slubEvent 7 U_LINK n)

/-- DABIN_RECAL_DONE (R178): a lane swap or a recentring ends and traffic resumes; or the recalibration of idle lanes the
host asked for ends, and the bad lanes in `good` become spares (log entry 8). -/
def execDabinRecalDone (n : Nat) (good : List Nat) (s : State) : Host.Outcome State Fault Refusal :=
  s.run (decide (n < Config.allLinks)) (fun _ d =>
    let pg := pgLink n
    if d.linkState n = 7 then d.setf pg DBL_STATE_STATE 6
    else if d.fb pg DBL_CTL_RECAL then
      let d := d.setf pg DBL_CTL_RECAL 0
      if d.linkState n = 6 then
        (d.updLink n (fun l => { l with
          badF := l.badF.filter (fun x => !(lanesOf good true).contains x),
          badR := l.badR.filter (fun x => !(lanesOf good false).contains x) })).showLanes n
      else d
    else d)

/-- ELASTIC_RECENTRE (R350): a link's elastic buffer nears its end; the link enters RECAL. -/
def execElasticRecentre (n : Nat) (s : State) : Host.Outcome State Fault Refusal :=
  s.run (decide (n < Config.allLinks)) (fun _ d =>
    if d.linkState n = 6 ∧ d.linkUp n then d.setf (pgLink n) DBL_STATE_STATE 7 else d)

/-! Host control (R178, R180). -/

/-- The action bits and HOLD of DBL_CTL, after a write. -/
def Dev.dblCtl (d : Dev) (n : Nat) (acts : Word) : Dev :=
  let pg := pgLink n
  let d := if d.fb pg DBL_CTL_HOLD ∧ !(d.link n).retired then d.linkAbsent n 8 else d
  let d := if bit acts 1 then (d.setf pg DBL_CTL_RETRAIN 1).linkRetrain n else d
  if bit acts 0 ∧ d.linkState n = 6 then d.setf pg DBL_CTL_RECAL 1 else d

/-- The word of DBL_CTL with the fields it holds and some action bits. -/
def Dev.dblWord (d : Dev) (n : Nat) (acts : Nat) : Word :=
  (d.reg (pgLink n + 0x88) &&& 0xFF0004#64) ||| BitVec.ofNat 64 acts

/-- DBL_RETRAIN (R180): the host retrains a link from DOWN. -/
def execDblRetrain (port n : Nat) (s : State) : Host.Outcome State Fault Refusal :=
  s.run (decide (port < 2 ∧ n < Config.allLinks)) (fun _ d =>
    d.onWrite port (pgLink n + 0x88) (d.dblWord n 2) (fun d a => d.dblCtl n a))

/-- DBL_RECAL (R178): the host retrains the spare and the bad lanes. -/
def execDblRecal (port n : Nat) (s : State) : Host.Outcome State Fault Refusal :=
  s.run (decide (port < 2 ∧ n < Config.allLinks)) (fun _ d =>
    d.onWrite port (pgLink n + 0x88) (d.dblWord n 1) (fun d a => d.dblCtl n a))

/-- DBL_HOLD (R180): the host writes HOLD. -/
def execDblHold (port n : Nat) (hold : Bool) (s : State) : Host.Outcome State Fault Refusal :=
  s.run (decide (port < 2 ∧ n < Config.allLinks)) (fun _ d =>
    d.onWrite port (pgLink n + 0x88) (setFld (d.dblWord n 0) 2 2 (b2n hold)) (fun d a => d.dblCtl n a))

/-! Discovery (R183, R184). -/

/-- Every present link trains (R176). -/
def Dev.trainAll (d : Dev) : Dev :=
  forN Config.allLinks (fun n d => if d.linkEnds n then (if d.linkState n = 0 then d.linkRetrain n else d) else d.linkAbsent n 7) d

/-- DISC_START: training of every present link and discovery begin; refused before step 4 is due (R403), ignored unless DSTATE is IDLE
(Table 6.17). -/
def Dev.discStart (d : Dev) : Dev :=
  if d.f pgWHL WHL_BOOT_BSTEP < 3 then d.setf pgWHL WHL_BOOT_ERRC 1
  else if d.f pgWHL WHL_DISC_DSTATE ≠ 0 then d else ((d.setf pgWHL WHL_BOOT_ERRC 0).setf pgWHL WHL_DISC_DSTATE 1).trainAll

/-- DISC_START: WHL_DISC.DSTART is written. -/
def execDiscStart (port : Nat) (s : State) : Host.Outcome State Fault Refusal :=
  s.run (decide (port < 2)) (fun _ d => d.onWrite port (pgWHL + 0x318) 4 (fun d _ => d.discStart))

/-- The links still training. -/
def Dev.training (d : Dev) : Bool :=
  (List.range Config.allLinks).any (fun n => decide (1 ≤ d.linkState n ∧ d.linkState n ≤ 5))

/-- A die placed by discovery: its serial and its position. -/
abbrev Placing := Nat × Nat

/-- One round of step 3 (R183): across each trained link, given by its number and the serials at its two ends, a die that is placed places
its partner beyond its E, W, N or S edge. -/
def placeRound (ls : List (Nat × Nat × Nat)) (ps : List Placing) : List Placing :=
  ls.foldl (fun ps l =>
    let add (ps : List Placing) (x : Option Placing) : List Placing := match x with
      | some x => if ps.contains x then ps else ps ++ [x]
      | none => ps
    let east := decide (l.1 < 208)
    let fwd (e : Nat) : Option Nat := if east then (if dxOf e = 13 then none else some (e + 1)) else if e + 14 < 112 then some (e + 14) else none
    let back (e : Nat) : Option Nat := if east then (if dxOf e = 0 then none else some (e - 1)) else if 14 ≤ e then some (e - 14) else none
    let ps := (ps.filter (fun x => x.1 = l.2.1)).foldl (fun ps x => add ps ((fwd x.2).map (fun e => (l.2.2, e)))) ps
    (ps.filter (fun x => x.1 = l.2.2)).foldl (fun ps x => add ps ((back x.2).map (fun e => (l.2.1, e)))) ps) ps

/-- The rounds of step 3, until nothing new is placed. -/
def placeAll (ls : List (Nat × Nat × Nat)) : Nat → List Placing → List Placing
  | 0, ps => ps
  | f + 1, ps =>
    let n := placeRound ls ps
    if n.length = ps.length then ps else placeAll ls f n

/-- The serial that compute die e reports as its own (R183 step 1): one that `reports` does not list reports what the fuse map records for
its position (log entry 140). -/
def ownSerial (fu : Fuses) (reports : List (Nat × Nat)) (e : Nat) : Nat :=
  ((reports.find? (·.1 = e)).map (·.2)).getD (fu.serialOf e).toNat

/-- The placings of discovery (R183): from the dies on the present IOD links, by the serials that the dies report as their own and as their
partners'. -/
def Dev.placings (d : Dev) (own : Nat → Nat) : List Placing :=
  let serial (a : Nat) : Nat := fld (d.reg a) 31 0
  let seeds := ((List.range 32).filter (fun m => d.linkUp (600 + m))).map (fun m =>
    (serial (pgLink (600 + m) + 0x98), iodDie (m / 2) (m % 2)))
  let ls := ((List.range Config.dabinLinks).filter d.linkUp).map (fun n => (n, own (linkEps n).1, serial (pgDBL n + 0x98)))
  placeAll ls 224 seeds.eraseDups

/-- A die in conflict with the fuse map: all its Dabin links, that to an IOD among them, are ABSENT and its clusters bad by test (R184). -/
def Dev.mismatch (d : Dev) (e : Nat) : Dev :=
  let d := d.setf (pgDIE e) DIE_LOC_DISC 3
  let d := forN Config.allLinks (fun n d =>
    if (linkEps n).1 = e ∨ (linkEps n).2 = e then
      (d.updLink n (fun l => { l with discBad := true })).linkAbsent n 6
    else d) d
  { d with boot := { d.boot with tbad := forN 8 (fun c l => setIns l (U_CLUSTER * 2 ^ 32 + e * 8 + c)) (setIns d.boot.tbad (U_DIE * 2 ^ 32 + e)) } }

/-- The placings of a die of serial σ are in conflict with one another or with the fuse map's record of serials (R183 steps 4 and 5, R184). -/
def misplaced (fu : Fuses) (σ : Nat) (ps : List Placing) : Bool :=
  decide (1 < ps.length) || ps.any (fun x => (fu.serialOf x.2).toNat ≠ σ)

/-- DISCOVERY (R183, R184): each present die is placed by the trained links, and its placing compared with the fuse map's record of its
serial. -/
def execDiscovery (reports : List (Nat × Nat)) (s : State) : Host.Outcome State Fault Refusal :=
  s.run true (fun fu d =>
    if d.f pgWHL WHL_DISC_DSTATE ≠ 1 ∨ d.training then d
    else
      let own := ownSerial fu reports
      let ps := d.placings own
      let dies := (List.range 112).filter d.present
      let at_ (e : Nat) : List Placing := ps.filter (fun x => x.1 = own e)
      let un := dies.filter (fun e => (at_ e).isEmpty)
      let bad := dies.filter (fun e => misplaced fu (own e) (at_ e))
      let d := forL dies (fun e d => d.setf (pgDIE e) DIE_LOC_DISC (if un.contains e then 2 else 1)) d
      let d := forL bad (fun e d => d.mismatch e) d
      let d := (d.setf pgWHL WHL_DISC_MISMATCH bad.length).setf pgWHL WHL_DISC_UNLINKED un.length
      d.setf pgWHL WHL_DISC_DSTATE 2)

end Sys2Proof.Machine
end

