-- ==== Sys2Proof/Machine/Network.lean ====
section
/-!
DEFINITION. The mesh (R126 to R163): a packet's hops, late escalation, multicast and combining, LIVE, route tables and
their registers, epochs and drain sweeps, the distance table (R32 to R34).
-/

namespace Sys2Proof.Machine

/-- A packet of a reserved type, or on the wrong VC (R131). -/
def Pkt.bad (q : Pkt) : Bool := vcOf q.typ = 4 || q.vc != vcOf q.typ

/-! Late escalation (R144). -/

/-- An answer, escalation or discard at an absent hop is counted; the first raises EV_RTR_LATE. -/
def Dev.lateCount (d : Dev) (e : Nat) : Dev :=
  let first := d.f (pgRTR e) RTR_EVCNT_LATE = 0
  let d := d.addSat (pgRTR e) RTR_EVCNT_LATE
  if first then d.ev (pgRTR e) EV_RTR_LATE else d

/-- The packet's next hop is absent at router (e, c): it goes through the EP port once, else it ends here. -/
def Dev.late (d : Dev) (e c : Nat) (i : Nat) (q : Pkt) : Dev :=
  if d.fb pgWHL WHL_RTCTL_OPTRDY ∧ 0 < d.planes e q.dep ∧ !q.late then
    if d.heldOff (.ep e c) q.vc then d
    else (((d.lateCount e).countOut e c 5 q).take i).enter q.loc { q with late := true } (.ep e c)
  else if q.isReq then ((d.lateCount e).take i).respond e c q ST_ABSENT []
  else (d.lateCount e).take i

/-! Combining (R158, R159). -/

/-- Bytes of a key of an LWORD packet's elements. -/
def elemSize (q : Pkt) : Nat := if q.sub = 2 then 48 else 24

/-- The combining slots of a router that are in use, in long words. -/
def Dev.combUsed (d : Dev) (e c : Nat) : Nat :=
  (d.net.comb.filter (fun x => x.d = e && x.c = c)).foldl (fun a x => a + x.words.length) 0

/-- Long words of an element. -/
def elemWords (q : Pkt) (k : Nat) : List LWord :=
  (List.range (elemSize q / 24)).map (fun j => LWord.ofBytes (slice q.data (k * elemSize q + 24 * j) 24))

/-- A slot's sum goes on toward its winder as one LWORD packet of the router, with the header of the contribution that opened it. -/
def Dev.closeComb (d : Dev) (x : Comb) : Dev :=
  let bs := (x.words.map LWord.bytes).flatten
  let at_ : Loc := .router x.d x.c 8
  (d.updNet (fun n => { n with comb := n.comb.filter (fun y => y ≠ x) })).enter at_
    { x.hdr with addr := x.addr, len := bs.length, data := bs, pois := [], sep := x.d, scl := x.c } at_

/-- One element of an LWORD packet at a router: it joins or opens a slot (true), or passes through; so does one whose length is not that of
the open slot's words (log entry 130). -/
def Dev.combOne (d : Dev) (e c inp inmask : Nat) (q : Pkt) (k : Nat) : Bool × Dev :=
  let addr := q.addr + k * elemSize q
  let ws := elemWords q k
  let mine (x : Comb) : Bool := x.d = e && x.c = c && x.epoch = q.epoch && x.grp = q.mcg && x.addr = addr
  match d.net.comb.find? mine with
  | some x =>
    if x.joined.contains inp ∨ x.words.length ≠ ws.length then (false, d)
    else
      let y : Comb := { x with joined := setIns x.joined inp, words := (x.words.zip ws).map (fun p => p.1.combine p.2) }
      let d := d.updNet (fun n => { n with comb := n.comb.map (fun z => if z = x then y else z) })
      (true, if (List.range 6).all (fun b => !x.inmask.testBit b || y.joined.contains b) then d.closeComb y else d)
  | none =>
    if 512 < d.combUsed e c + ws.length then (false, d)
    else
      let y : Comb := { d := e, c := c, epoch := q.epoch, grp := q.mcg, addr := addr, hdr := q, inmask := inmask,
                        joined := [inp], words := ws, opened := d.gt }
      let d := (d.updNet (fun n => { n with comb := n.comb ++ [y] })).touchSet e q.epoch
      (true, if inmask = 2 ^ inp then d.closeComb y else d)

/-- An LWORD packet `i` that entered a router by a port in the INMASK of its group: its elements join slots; one that cannot goes on
uncombined as a packet of its own (log entry 129). -/
def Dev.combine (d : Dev) (e c inp inmask : Nat) (i : Nat) (q : Pkt) : Dev :=
  let n := q.data.length / elemSize q
  let d := d.take i
  forN n (fun k d =>
    let (ok, d) := d.combOne e c inp inmask q k
    if ok then d
    else d.place { q with loc := .router e c 8, addr := q.addr + k * elemSize q, len := elemSize q,
                          data := slice q.data (k * elemSize q) (elemSize q) }) d

/-! One hop (R142). -/

/-- A multicast copy at a router goes to the ports of its group's mask that it wins and that do not hold it off; it leaves with the
last (R155). A copy whose next hop is absent ends as R144 has it: its request is answered with ABSENT. -/
def Dev.multicast (d : Dev) (e c inp : Nat) (i : Nat) (q : Pkt) : Dev :=
  let cut := mcCut inp ((d.mcMesh q.epoch e c q.mcg).getD 0)
  let d := if cut ≠ 0 ∧ q.mdone = [] then (d.addSat (pgRTR e) RTR_EVCNT_MCERR).ev (pgRTR e) EV_RTR_MCERR else d
  let ports := d.mcPorts e c inp q
  let won := (d.outs q).filter (fun o => d.winner q.loc o.1 = some i)
  let lost := ports.filter (fun p => !(d.outs q).any (fun o => o.1 = p))
  let rest := ports.filter (fun p => !lost.contains p && !won.any (fun o => o.1 = p))
  let d' := if rest = [] then d.take i
    else d.updNet (fun n => { n with pkts := n.pkts.zipIdx.map (fun x =>
      if x.2 = i then { q with mdone := q.mdone ++ lost ++ won.map (·.1) } else x.1) })
  let d' := forL won (fun o d' =>
    let d' := (d'.countOut e c o.1 q).sentTurn q o.1
    if o.1 = 0 then d'.deliver e c { q with mdone := [] }
    else (d'.enter q.loc q o.2).touchSet o.2.die q.epoch) d'
  forL lost (fun _ d' => if q.isReq then (d'.lateCount e).respond e c q ST_ABSENT [] else d'.lateCount e) d'

/-- Packet `i` is sent on an output port to a place, when it is its turn there (R128). -/
def Dev.goOut (d : Dev) (e c : Nat) (i : Nat) (q : Pkt) (o : Nat × Loc) : Dev :=
  if d.winner q.loc o.1 ≠ some i then d
  else
    let d := (d.countOut e c o.1 q).sentTurn q o.1
    match o.2 with
    | .dst _ _ => (d.take i).deliver e c q
    | l => (d.take i).enter q.loc q l

/-- Packet `i` at router (e, c), entered by a port, takes its hop. -/
def Dev.routerHop (d : Dev) (e c inp : Nat) (i : Nat) (q : Pkt) : Dev :=
  if q.mc then d.multicast e c inp i q
  else match d.combines e c inp q with
  | some m => d.combine e c inp m i q
  | none =>
    match d.routerOut e c q with
    | some o => d.goOut e c i q o
    | none => d.late e c i q

/-- Packet `i` at IOD k goes out into the fabric, by the port it was given while that port's bundle is still its way, else by the way
out from here (R221, R225). -/
def Dev.fabOut (d : Dev) (k i : Nat) (q : Pkt) : Dev :=
  let e := 168 + k
  let p := d.fabStamp q
  let port := q.dir % 64
  if d.winner q.loc 0 ≠ some i then d
  else
    let d := ((d.fabTouch p.fepoch).countOut e 0 0 q).sentTurn q 0
    if d.f (pgTUB (port + 1)) TUB_PSTATE_STATE = 5 ∧ (d.egress e p).map (·.dir) = some (q.dir / 64) then
      (d.take i).enter q.loc p (.fab port)
    else (((d.take i).fabSend e 0 0 p).getD ((d.take i).fabEnd e p ST_ABSENT))

/-- Packet `i` at IOD k: to its link, its endpoint port, a fabric port, or its destination. -/
def Dev.iodHop (d : Dev) (k : Nat) (i : Nat) (q : Pkt) : Dev :=
  let e := 168 + k
  if q.dep = e ∧ q.dpanel ≠ d.self then d.fabOut k i q
  else match d.iodOut k q with
  | some o => d.goOut e 0 i q o
  | none => d.late e 0 i q

/-- Packet `i` takes one hop from where it stands. -/
def Dev.hop (d : Dev) (i : Nat) (q : Pkt) : Dev :=
  let e := q.loc.die
  if q.typ = 0 then d
  else if q.bad then (d.take i).addSat (pgRTR e) RTR_EVCNT_BAD |>.ev (pgRTR e) EV_RTR_BADPKT
  else match q.loc with
    | .router e c inp => d.routerHop e c inp i q
    | .link n fwd => if d.linkState n = 6 ∧ d.linkUp n then d.move i q (linkFar n fwd) else d
    | .iod k _ => d.iodHop k i q
    | .ep e _ => d.epSend i e q
    -- out of a pair's receive buffer into the die
    | .rx _ b =>
      let l := optDest b q
      if d.heldOff l (q.chan l) then d
      else if b < 112 ∨ isIOD b then (d.take i).enter q.loc q l
      else ((d.countOut b 0 0 q).take i).deliver b 0 q
    -- the next panel has accepted the packet, with its header and prefix
    | .fab p =>
      if d.f (pgTUB (p + 1)) TUB_PSTATE_STATE = 5 ∧ d.portLit p then
        { d.take i with fab := { d.fab with sent := SMap.ins d.fab.sent p (q.header, q.prefix) } }
      else d
    | _ => d

/-- PACKET_HOP (R142): packet `i` of the network is forwarded, ejected or delivered. -/
def execPacketHop (i : Nat) (s : State) : Host.Outcome State Fault Refusal :=
  s.run true (fun _ d =>
    match d.net.pkts[i]? with
    | some q => d.hop i q
    | none => d)

/-- COMB_SLOT_FLUSH (R159): slot `i` has been open for 50 µs. -/
def execCombSlotFlush (i : Nat) (s : State) : Host.Outcome State Fault Refusal :=
  s.run true (fun _ d =>
    match d.net.comb[i]? with
    | some x => if x.opened + 200000 ≤ d.gt then (d.closeComb x).ev (pgRTR x.d) EV_RTR_COMBFLUSH else d
    | none => d)

/-- DABIN_LINK_LOSS_REPLAY (R145): an absent link's sender learns that its partner accepted the first `accepted` packets of
its replay buffer: the others go by R144; with the partner off, requests complete with BROKEN. -/
def execDabinLinkLossReplay (n : Nat) (fwd : Bool) (accepted : Nat) (s : State) : Host.Outcome State Fault Refusal :=
  s.run (decide (n < Config.allLinks)) (fun _ d =>
    if d.linkUp n then d
    else
      let mine := d.net.pkts.filter (fun q => q.loc = .link n fwd)
      let near := (Loc.link n fwd).die
      let far := (linkFar n fwd).die
      let c := match linkFar n (!fwd) with
        | .router _ c _ => c
        | _ => 0
      let d := d.updNet (fun m => { m with pkts := m.pkts.filter (fun q => q.loc ≠ .link n fwd) })
      forL mine.zipIdx (fun x d =>
        let q := x.1
        if !d.present far then
          if q.isReq then d.endRequest near q ST_BROKEN else d
        else if x.2 < accepted then d.enter q.loc q (linkFar n fwd)
        else
          let d := d.place { q with loc := .router near c 8 }
          d.late near c (d.net.pkts.length - 1) { q with loc := .router near c 8 }) d)

/-! LIVE (R143). -/

/-- The mesh path from any cluster of die a to any cluster of die b crosses an absent die or link now. -/
def Dev.crosses (d : Dev) (a b : Nat) : Bool :=
  (List.range 8).any (fun c => (List.range 8).any (fun c' =>
    let x := meshX a c
    let y := meshY a c
    let x' := meshX b c'
    let y' := meshY b c'
    (xyLinks 80 x y x' y').any (fun n => !d.linkUp n) || (xyDies 80 x y x' y').any (fun e => !d.present e)))

/-- The die from which an endpoint's LIVE row describes paths: its own, or the entry die of an IOD. -/
def Dev.rowDie (d : Dev) (e : Nat) : Option Nat :=
  if e < 112 then some e
  else if isIOD e then (d.att (e - 168) 0).or (d.att (e - 168) 1)
  else none

/-- The LIVE row of an endpoint as the elements are now. -/
def Dev.liveRow (d : Dev) (e : Nat) : Nat :=
  match d.rowDie e with
  | some a => (List.range 112).foldl (fun m b => if d.crosses a b then m ||| 2 ^ b else m) 0
  | none => 0

/-- Write LIVE rows: added to what they hold, or recomputed; any change raises EV_RT_LIVEBLK. -/
def Dev.setLive (d : Dev) (clear : Bool) : Dev :=
  let d' := forL (d.eps.filter (fun e => e < 112 || isIOD e)) (fun e d' =>
    let old := d.f (pgRTR e) RTR_LIVE_LO_LIVE + 2 ^ 64 * d.f (pgRTR e) RTR_LIVE_HI_LIVE
    let new := if clear then d.liveRow e else old ||| d.liveRow e
    (d'.setf (pgRTR e) RTR_LIVE_LO_LIVE (new % 2 ^ 64)).setf (pgRTR e) RTR_LIVE_HI_LIVE (new / 2 ^ 64)) d
  if d'.regs = d.regs then d else d'.ev pgWHL EV_RT_LIVEBLK

/-- LIVE_BLOCK_UPDATE (R143): LIVE bits are set for the elements absent now. -/
def execLiveBlockUpdate (s : State) : Host.Outcome State Fault Refusal := s.run true (fun _ d => d.setLive false)

/-- LBSCAN (R143): the host has LIVE recomputed on every die. -/
def execLbscan (port : Nat) (s : State) : Host.Outcome State Fault Refusal :=
  s.run (decide (port < 2)) (fun _ d =>
    d.onWrite port (pgWHL + 0x300) (setFld (wbit 16) 4 0 (d.f pgWHL WHL_RTCTL_ESC)) (fun d _ => d.setLive true))

/-! Route tables (R147, R148, R161, R163). -/

/-- Words of a table held at an endpoint; 0: not held. -/
def tblWords (e table : Nat) : Nat :=
  match table with
  | 0 => if isCD e || isMB e || isIOD e then 200 else 0
  | 1 => if isCD e || isIOD e then 2 else 0
  | 2 => if isCD e then 512 else 0
  | 3 => 8192
  | 4 => if isCD e then 1024 else 0
  | _ => 0

/-- The COMB word with every entry of more than four INMASK bits stored invalid; and whether there was one. -/
def combFix (v : Word) : Word × Bool :=
  forN 4 (fun i (x : Word × Bool) =>
    let y := fld v (16 * i + 15) (16 * i)
    let n := (List.range 6).foldl (fun a b => a + b2n (y.testBit b)) 0
    if 4 < n then (setFld x.1 (16 * i + 15) (16 * i + 15) 0, true) else x) (v, false)

/-- The selection of a page's table registers: AUTO, bank, table, router, index. -/
def selOf (w : Word) : Bool × Nat × Nat × Nat × Nat := (bit w 39, fld w 38 38, fld w 37 35, fld w 34 32, fld w 12 0)

/-- INDEX steps after an access with AUTO. -/
def Dev.stepIndex (d : Dev) (e : Nat) : Dev :=
  let pg := pgRTR e
  if d.fb pg RTR_TBL_SEL_AUTO then d.addWrap pg RTR_TBL_SEL_INDEX else d

/-- A write of RTR_TBL_DATA at an endpoint (R148). The bits of an entry that Table 5.7 leaves unnamed are kept as written (log entry 128). -/
def Dev.tblWrite (d : Dev) (e : Nat) (v : Word) : Dev :=
  let (_, bank, table, router, idx) := selOf (d.reg (pgRTR e + 0x88))
  let router := if table = 2 ∨ table = 4 then router else 0
  let d := d.stepIndex e
  if tblWords e table ≤ idx then d
  else if bank = d.inje e ∨ d.f pgWHL WHL_RTEPOCH_STATE ≠ 0 then d.ev (pgRTR e) EV_RTR_TBLERR
  else
    let (v, bad) := if table = 4 then combFix v else (v, false)
    let d := d.updNet (fun n => { n with tbl := SMap.set 0 n.tbl (tblKey bank e table router idx) v })
    let d : Dev := if v = SMap.get 0 d.gens.cur.tbl (tblKey 0 e table router idx) then d
      else { d with gens := { d.gens with staged := true } }
    if bad then d.ev (pgRTR e) EV_RTR_TBLERR else d

/-- The word RTR_TBL_DATA reads. -/
def Dev.tblRead (d : Dev) (e : Nat) : Word :=
  let (_, bank, table, router, idx) := selOf (d.reg (pgRTR e + 0x88))
  let router := if table = 2 ∨ table = 4 then router else 0
  if tblWords e table ≤ idx then 0 else d.tblWord bank e table router idx

/-- RTR_BANKSUM.SUM of a bank: CRC-32 over its words in order of table, router, word (R148). -/
def Dev.bankSum (d : Dev) (bank e : Nat) : Nat :=
  crc32 ((List.range 5).flatMap (fun t => (List.range (if t = 2 ∨ t = 4 then 8 else 1)).flatMap (fun r =>
    (List.range (tblWords e t)).flatMap (fun i => leBytes 8 (d.tblWord bank e t r i).toNat))))

/-- RTR_TBL_DATA_WRITE (R148, R154). -/
def execRtrTblDataWrite (port e : Nat) (v : Word) (s : State) : Host.Outcome State Fault Refusal :=
  s.run (decide (port < 2 ∧ e < Config.endpoints)) (fun _ d =>
    let (ok, d) := d.hostMay port (pgRTR e + 0x90) v
    if ok then d.tblWrite e v else d)

/-- A host read has an answer: its value is what the port last read. -/
def Dev.answer (d : Dev) (port : Nat) (v : Word) : Dev :=
  d.updHp port (fun h => { h with rdata := leBytes 8 v.toNat, rstat := 0 })

/-- RTR_TBL_DATA_READ (R161). -/
def execRtrTblDataRead (port e : Nat) (s : State) : Host.Outcome State Fault Refusal :=
  s.runFrozen (decide (port < 2 ∧ e < Config.endpoints)) (fun _ d =>
    if !d.hostUp port then d
    else if !d.present e then d.answer port 0
    else (d.answer port (d.tblRead e)).stepIndex e)

/-- A write of the broadcast page applies to every present die (R163); it needs ownership as the register does. -/
def Dev.broadcast (d : Dev) (port off : Nat) (v : Word) : Dev :=
  if !d.hostUp port ∨ d.frozen then d
  else if off ≠ 0x88 ∧ off ≠ 0x90 then d
  else if !d.owns port then d.ev pgWHL EV_OWN_DENIED
  else forL d.eps (fun e d =>
    if off = 0x88 then (d.hostWrite port (pgRTR e + 0x88) v).d else d.tblWrite e v) d

/-- RTR_BROADCAST_WRITE (R163). -/
def execRtrBroadcastWrite (port off : Nat) (v : Word) (s : State) : Host.Outcome State Fault Refusal :=
  s.run (decide (port < 2 ∧ off < 0x1000)) (fun _ d => d.broadcast port off v)

/-- Occupancy now of the input numbered i by router, port and VC. -/
def Dev.telDepth (d : Dev) (e i : Nat) : Nat := d.inputNow e (i / 32) (i / 4 % 8) (i % 4)

/-- The telemetry counts of a page are copied (Table 5.16). -/
def Dev.telSnapshot (d : Dev) (e : Nat) : Dev :=
  d.updNet (fun n => { n with telSnap := forN 256 (fun i m =>
    let t := SMap.get {} n.tel (e * 256 + i)
    SMap.set (0, 0, 0, 0, 0) m (e * 256 + i) (t.pkts, t.bytes, d.telDepth e i, t.hwm, d.stallNow t)) n.telSnap })

/-- A write of RTR_TSEL. -/
def Dev.tselWrite (d : Dev) (port e : Nat) (v : Word) : Dev :=
  d.onWrite port (pgRTR e + 0xC8) v (fun d _ => if bit v 15 then d.telSnapshot e else d)

/-- RTR_TSEL_SNAP (R160). -/
def execRtrTselSnap (port e : Nat) (v : Word) (s : State) : Host.Outcome State Fault Refusal :=
  s.run (decide (port < 2 ∧ e < Config.endpoints)) (fun _ d => d.tselWrite port e (v ||| wbit 15))

/-! The distance table (R32, R33). -/

/-- Capacity of the die edge between neighbouring dies, GB/s (R33). -/
def Dev.edgeCap (d : Dev) (a b : Nat) : Nat :=
  ((List.range Config.dabinLinks).filter (fun n => d.linkUp n && (linkDies n = (a, b) || linkDies n = (b, a)))).foldl
    (fun s n => s + 480 * d.laneCount n / 64) 0

/-- The dies of the dimension-order path from a to b: X first. -/
def diePath : Nat → Nat → Nat → List Nat
  | 0, a, _ => [a]
  | f + 1, a, b =>
    if dxOf a < dxOf b then a :: diePath f (a + 1) b
    else if dxOf b < dxOf a then a :: diePath f (a - 1) b
    else if dyOf a < dyOf b then a :: diePath f (a + 14) b
    else if dyOf b < dyOf a then a :: diePath f (a - 14) b
    else [a]

/-- The edges of a path. -/
def edgesOf : List Nat → List (Nat × Nat)
  | a :: b :: t => (a, b) :: edgesOf (b :: t)
  | _ => []

/-- Narrowest lane count of the links on the path's edges, and smallest capacity. -/
def Dev.pathFigures (d : Dev) (a b : Nat) : Nat × Nat :=
  (edgesOf (diePath 24 a b)).foldl (fun x ed =>
    let w := ((List.range Config.dabinLinks).filter (fun n => d.linkUp n && (linkDies n = ed || linkDies n = (ed.2, ed.1)))).foldl
      (fun m n => min m (d.laneCount n)) 64
    (min x.1 w, min x.2 (d.edgeCap ed.1 ed.2))) (64, 1000000)

/-- GT counts of n clock cycles at an operating point (R347: point P is 0.90 GHz + 25 MHz · P), to the nearest: the spec gives no rounding
(log entry 123). -/
def Dev.cyclesLat (d : Dev) (n : Nat) : Nat :=
  let mhz := 900 + 25 * d.f pgWHL WHL_FREQ_CUR
  (n * 4000 + mhz / 2) / mhz

/-- The one-way latency of a pair in units of 0.25 ns: 22 to 31 ns, measured when the later of its endpoints was calibrated (R172, R173). -/
def Dev.pairLat (d : Dev) (a b : Nat) : Nat :=
  SMap.get (88 + (Config.freeWord (max (SMap.get 0 d.opt.latBase a) (SMap.get 0 d.opt.latBase b) + pairKey a b)).toNat % 37) d.opt.lat
    (pairKey a b)

/-- The content of entry (a, b) (Tables 1.8, 16.15). The mesh part of a path between an IOD and a compute die is walked as the packet goes:
from the link's die to the compute die, or back. -/
def Dev.distEntry (d : Dev) (a b : Nat) : Word :=
  let mk (path hops width planes bw lat : Nat) : Word :=
    BitVec.ofNat 64 (path * 2 ^ 62 + hops * 2 ^ 48 + width * 2 ^ 40 + planes * 2 ^ 32 + bw * 2 ^ 16 + lat)
  let far := if isCD a && isCD b then dieDist a b else 0
  if a = b ∨ 185 < b then 0
  else
    let iodPart (j : Nat) : Word :=
      let k := (if isIOD a then a else b) - 168
      let c := if isCD a then a else b
      let n := 600 + 2 * k + j
      let e := iodDie k j
      let cap := 480 * d.laneCount n / 64
      let (w, bw) := if c = e then (64, 1000000) else if isIOD a then d.pathFigures e c else d.pathFigures c e
      let h := adist (meshX e (iodRouter k)) (meshX c 0) + adist (meshY e (iodRouter k)) (meshY c 0)
      mk 1 (dieDist c e + 1) (min w (d.laneCount n)) 0 (min bw cap) (24 + d.cyclesLat (4 * h) + 24 * dieDist c e)
    match (if d.present a then d.choose a b (d.inje a) else .none) with
    | .none => mk 0 far 0 0 0 0
    | .local_ => mk 0 far 0 0 0 0
    | .optical => mk 2 far 0 (d.planes a b) (14 * d.planes a b) (d.pairLat a b)
    | .mesh =>
      let (w, bw) := d.pathFigures a b
      let h := 4 * adist (dxOf a) (dxOf b) + 2 * adist (dyOf a) (dyOf b)
      mk 1 far w 0 bw (d.cyclesLat (4 * h) + 24 * dieDist a b)
    | .edge j => iodPart j
    | .meshVia j => iodPart j

/-- The address of entry (a, b) (R473). -/
def distAddr (a b : Nat) : Nat := pgDIST (a + 1) + 0x100 + 8 * b

/-- Every entry holds its content. -/
def Dev.distFill (d : Dev) : Dev := forN 186 (fun a d' => forN 186 (fun b d' => d'.setReg (distAddr a b) (d.distEntry a b)) d') d

/-- DIST_UPDATE (R34): while an update runs, an entry takes new content; with no pair named, every entry holds its content and the update
ends. -/
def execDistUpdate (pair : Option (Nat × Nat)) (s : State) : Host.Outcome State Fault Refusal :=
  s.run true (fun _ d =>
    if !d.fb (pgDIST 0) DIST_STAT_BUSY then d
    else match pair with
    | some (a, b) => if a < 186 ∧ b < 186 then d.setReg (distAddr a b) (d.distEntry a b) else d
    | none => ((d.distFill.setf (pgDIST 0) DIST_STAT_BUSY 0).addWrap (pgDIST 0) DIST_STAT_UPD).ev (pgDIST 0) 0)

/-! The end of calibration (R172, R173). -/

/-- OPT_CAL_DONE: calibration ends (R173), or that of endpoints whose hank came back (R172). `bad` lists the laser dies that
did not lock, `classes` the channels that are not GOOD, `lats` measured pair latencies (log entry 8). -/
def execOptCalDone (bad : List Nat) (classes : List (Nat × Nat × Nat × Nat)) (lats : List (Nat × Nat)) (s : State) :
    Host.Outcome State Fault Refusal :=
  s.run true (fun _ d =>
    let new := d.eps.filter (fun e => d.f (pgOPT e) OPT_STATE_ESTATE = 1)
    if d.f pgWHL WHL_OPTCTL_CSTATE = 1 then
      let d := forN 8 (fun l d => if bad.contains l then
        ({ d with opt := { d.opt with outPlanes := setIns (setIns d.opt.outPlanes (2 * l)) (2 * l + 1) } }).setf pgWHL
          WHL_OPTCTL_LASERBAD (d.f pgWHL WHL_OPTCTL_LASERBAD ||| 2 ^ l) else d) d
      if (List.range 8).all bad.contains then
        forL new (fun e d => d.setEstate e 0) (d.setf pgWHL WHL_OPTCTL_CSTATE 3)
      else
        let d := d.calibrated new classes lats
        -- the table is filled with optical readiness set (step 6): DIST_UPDATE ends that update
        ((d.setf pgWHL WHL_OPTCTL_CSTATE 2).setf pgWHL WHL_RTCTL_OPTRDY 1).distFill
    else if d.f pgWHL WHL_OPTCTL_CSTATE = 2 ∧ new ≠ [] then d.calibrated new classes lats
    else d)

end Sys2Proof.Machine
end

