-- ==== Sys2Proof/Machine/Memory.lean ====
section
/-!
DEFINITION. Memory endpoints (R196 to R208): reads, writes and atomics at base dies and IODs, winder-store writes that
arm or disarm areas (R271), line errors, patrol scrub, row repair, retirement of channels and packages.
-/

namespace Sys2Proof.Machine

/-! Where a line is. -/

/-- What a line of a memory tier belongs to: the base of its ECC register, of its UEADDR register, its unit, its channel or
package in die, its page, and whether it is tier 1. -/
structure LineAt where
  ecc : Nat
  uea : Nat
  rep : Nat
  kind : Nat
  idx : Nat
  ch : Nat
  page : Nat
  t1 : Bool
  addr : Nat
  /-- The endpoint's entry in `Dev.mbd`. -/
  at_ : Nat
  deriving DecidableEq, Repr

/-- The place of a tier-1 or tier-2 key. -/
def lineAt (k : Nat) : LineAt :=
  if k < 2 ^ 43 then
    let m := k / 2 ^ 37
    let y := k % 2 ^ 37
    { ecc := pgMBD m, uea := pgMBD m, rep := pgMBD m, kind := U_CHAN, idx := 32 * m + t1Channel y, ch := t1Channel y,
      page := pgMBD m, t1 := true, addr := y, at_ := m }
  else
    let p := (k - 2 ^ 43) / 2 ^ 36
    { ecc := pgIOD (p / 4) + 0x80 + 8 * (p % 4), uea := pgIOD (p / 4) + 0x98, rep := 0, kind := U_PKG, idx := p, ch := p % 4,
      page := pgIOD (p / 4), t1 := false, addr := (k - 2 ^ 43) % 2 ^ 36, at_ := 64 + p / 4 }

/-- Change a memory endpoint. -/
def Dev.updMbd (d : Dev) (i : Nat) (f : Mbd → Mbd) : Dev := { d with mbd := SMap.upd {} d.mbd i f }
/-- A memory endpoint. -/
def Dev.mb (d : Dev) (i : Nat) : Mbd := SMap.get {} d.mbd i

/-! Line errors (Table 7.4). -/

/-- Soft repair of a row, which may spend the last resource of its bank; a row of a bank that has none left only scores (R205). -/
def Dev.rowRepair (d : Dev) (l : LineAt) (row : Nat) : Dev :=
  let used := ((d.mb l.at_).rows.filter (fun r => Config.memBank r = Config.memBank row)).length
  if used < Config.bankRepairs (Config.memBank row) then
    let d := d.updMbd l.at_ (fun b => { b with rows := setIns b.rows row })
    let d := if l.t1 then d.addSat l.page MBD_REPAIR_SOFT else d
    let d := if l.t1 ∧ used + 1 = Config.bankRepairs (Config.memBank row) then d.setf l.page MBD_REPAIR_EXH 1 else d
    (d.ev l.page (if l.t1 then EV_MEM_REPAIR else EV_LP_REPAIR)).slubEvent 14 l.kind l.idx
  else
    let d := if l.t1 then d.setf l.page MBD_REPAIR_EXH 1 else d
    d.slubEvent 15 l.kind l.idx

/-- A line was corrected and written back: counted, its event at most once in 1 ms, and its row watched for 24 h. -/
def Dev.lineCE (d : Dev) (g : Nat) : Dev :=
  let l := lineAt g
  let d := d.addSat l.ecc MBD_ECC_CE
  let last := SMap.get 0 (d.mb l.at_).ceAt l.ch
  let d := if last = 0 ∨ last + 4000000 ≤ d.gt + 1 then
      ((d.updMbd l.at_ (fun b => { b with ceAt := SMap.set 0 b.ceAt l.ch (d.gt + 1) })).ev l.page
        (if l.t1 then EV_MEM_CE else EV_LP_CE)).slubEvent 12 l.kind l.idx
    else d
  let row := Config.memRow g
  let ts := d.gt :: (SMap.get [] (d.mb l.at_).rowCe row).filter (fun t => d.gt < t + 345600000000000)
  if 4 ≤ ts.length then
    (d.updMbd l.at_ (fun b => { b with rowCe := SMap.del b.rowCe row })).rowRepair l row
  else d.updMbd l.at_ (fun b => { b with rowCe := SMap.set [] b.rowCe row ts })

/-- A line is uncorrectable, or answered the wrong access: it is poisoned and recorded. -/
def Dev.lineUE (d : Dev) (g : Nat) : Dev :=
  let l := lineAt g
  let d := d.setPois g true
  let d := d.addSat l.ecc MBD_ECC_UE
  let d := ((d.setf l.uea MBD_UEADDR_VALID 1).setf l.uea MBD_UEADDR_CH l.ch).setf l.uea MBD_UEADDR_LINE (l.addr / 64)
  (d.ev l.page (if l.t1 then EV_MEM_UE else EV_LP_UE)).slubEvent 13 l.kind l.idx

/-- Interface errors of an access to a line, retried up to four times, and corrections inside the stack. -/
def Dev.ifErrs (d : Dev) (g stack retries : Nat) : Dev :=
  let l := lineAt g
  let d := if retries = 0 then d else d.addSat l.ecc MBD_ECC_IFERR (min retries 4)
  if stack = 0 ∨ !l.t1 then d else d.addSat l.ecc MBD_ECC_STACKCE stack

/-- What an access finds in the lines it reads: positions of lines found uncorrectable and corrected, corrections inside the
stack, and interface errors, of which the fifth makes the access uncorrectable. A line that is poisoned is not found again. -/
def Dev.lineErrs (d : Dev) (gs : List Nat) (uncorr corr : List Nat) (stack retries : Nat) : Dev :=
  match gs with
  | [] => d
  | g0 :: _ =>
    let d := d.ifErrs g0 stack retries
    forL gs.zipIdx (fun x d =>
      if d.isPois x.1 then d
      else if uncorr.contains x.2 ∨ 4 < retries then d.lineUE x.1
      else if corr.contains x.2 then d.lineCE x.1
      else d) d

/-! Service (R196, R197, R199, R203). -/

/-- The key that the first `n` bytes of a packet, all in one block, have at endpoint e, and whether it is memory (true) or a
winder store; or the status the packet ends with. No byte may lie in a hole (R206, R209). -/
def Dev.servedAt (d : Dev) (e a n : Nat) : Except Nat (Nat × Bool) :=
  match d.resolve a with
  | .t1 m y => if e ≠ 112 + m ∨ d.t1Hole m y ∨ d.t1Hole m (y + n - 1) then .error ST_ABSENT else .ok (t1Key m y, true)
  | .t2 p z => if e ≠ 168 + p / 4 ∨ d.t2Hole p then .error ST_ABSENT else .ok (t2Key p z, true)
  | .winder m off => if e ≠ 112 + m then .error ST_ABSENT else .ok (wsKey m off, false)
  | _ => .error ST_UNMAPPED

/-- Bytes of a packet that lie in the 4 KiB block of its first byte. -/
def firstPart (a n : Nat) : Nat := min n (4096 - a % 4096)

/-- The status of the `n` bytes that a packet has in the block it crosses into, as the endpoint e of its first byte checks it
before anything is done: the place is no hole, and there is a path to it (R197). -/
def Dev.secondBlock (d : Dev) (e a n : Nat) : Nat :=
  let reach (t : Nat) : Bool := d.choose e t (d.inje e) != .none
  match d.resolve a with
  | .t1 m y => if !reach (112 + m) ∨ d.t1Hole m y ∨ d.t1Hole m (y + n - 1) then ST_ABSENT else ST_OK
  | .t2 p _ => if !reach (168 + p / 4) ∨ d.t2Hole p then ST_ABSENT else ST_OK
  | .winder _ _ => ST_OK
  | _ => ST_UNMAPPED

/-- Answer a served request, or send on the part that lies in the next block (R197). -/
def Dev.answerOr (d : Dev) (e : Nat) (q : Pkt) (status : Nat) (bs : List Byte) (px : List Nat) : Dev :=
  let n := firstPart q.addr q.len
  if n = q.len then d.respond e 0 q status bs px
  else d.request e 0 (.cross q status bs px) q.typ 15 0 false false none
    [{ addr := q.addr + n, len := q.len - n, data := q.data.drop n, pois := (q.pois.filter (n ≤ ·)).map (· - n) }]

/-- A RD, already taken out, is served at a memory endpoint. -/
def Dev.serveRd (d : Dev) (e : Nat) (q : Pkt) (uncorr corr : List Nat) (stack retries : Nat) : Dev :=
  let n := firstPart q.addr q.len
  match d.servedAt e q.addr n with
  | .error st => d.respond e 0 q st []
  | .ok (k, mem) =>
    let st2 := if n = q.len ∨ !mem then ST_OK else d.secondBlock e (q.addr + n) (q.len - n)
    if st2 ≠ ST_OK then d.respond e 0 q st2 []
    else if mem then
      let d := d.lineErrs (granules k n) uncorr corr stack retries
      let px := d.poisMap k n
      d.answerOr e q (if px = [] then ST_OK else ST_POISONED) (d.bytes k n) px
    else
      let px := d.poisMap k q.len
      d.respond e 0 q (if px = [] then ST_OK else ST_POISONED) (d.bytes k q.len) px

/-- A WR, already taken out, is served at a memory endpoint: a line partly written is read first. -/
def Dev.serveWr (d : Dev) (e : Nat) (q : Pkt) (uncorr corr : List Nat) (stack retries : Nat) : Dev :=
  let n := firstPart q.addr q.len
  match d.servedAt e q.addr n with
  | .error st => d.respond e 0 q st []
  | .ok (k, mem) =>
    let st2 := if n = q.len ∨ !mem then ST_OK else d.secondBlock e (q.addr + n) (q.len - n)
    if st2 ≠ ST_OK then d.respond e 0 q st2 []
    else if mem then
      let gs := granules k n
      let part := gs.filter (fun g => !(decide (k ≤ g) && decide (g + 64 ≤ k + n)))
      let d := if part = [] then d.ifErrs k 0 retries else d.lineErrs part uncorr corr stack (min retries 4)
      let merges := d.mergesPoison k n
      let d := d.store k (q.data.take n) (q.pois.filter (· < n))
      -- an access that failed five times leaves its lines uncorrectable
      let d := if 4 < retries then forL gs (fun g d => if d.isPois g then d else d.lineUE g) d else d
      d.answerOr e q (if merges ∨ 4 < retries then ST_POISONED else ST_OK) [] []
    else d.serveStoreWr e 0 q

/-- New content of a word under an atomic operation (Table 7.3). -/
def atomNew (op : Nat) (w v v2 : Word) : Word :=
  match op with
  | 0 => v
  | 1 => if w = v then v2 else w
  | 2 => w + v
  | 3 => w &&& v
  | 4 => w ||| v
  | 5 => w ^^^ v
  | 6 => if w.toInt < v.toInt then v else w
  | 7 => if v.toInt < w.toInt then v else w
  | 8 => if w.toNat < v.toNat then v else w
  | _ => if v.toNat < w.toNat then v else w

/-- The bytes an atomic operation leaves in its word of 8 or 16 bytes. -/
def atomBytes (op : Nat) (old : List Byte) (v v2 : Word) : List Byte :=
  if op = 0xA then leBytes 16 (BitVec.ofNat 128 (leNat old) + v.signExtend 128).toNat
  else leBytes 8 (atomNew op (BitVec.ofNat 64 (leNat old)) v v2).toNat

/-- An ATOM, already taken out, is served at a memory endpoint (R199, R200). -/
def Dev.serveAtom (d : Dev) (e : Nat) (q : Pkt) (uncorr corr : List Nat) (stack retries : Nat) : Dev :=
  match d.servedAt e q.addr (if q.sub = 0xA then 16 else 8) with
  | .error st => d.respond e 0 q st []
  | .ok (_, false) => d.respond e 0 q ST_UNMAPPED []
  | .ok (k, true) =>
    let n := if q.sub = 0xA then 16 else 8
    let d := d.lineErrs (granules k n) uncorr corr stack retries
    let d := if e < 168 then d.addWrap (pgMBD (e - 112)) MBD_ATOM_COUNT else d
    if d.poisoned k n then d.respond e 0 q ST_POISONED []
    else
      let old := d.bytes k n
      let v := BitVec.ofNat 64 (leNat (q.data.take 8))
      let v2 := BitVec.ofNat 64 (leNat ((q.data.drop 8).take 8))
      let d := d.store k (atomBytes q.sub old v v2)
      d.respond e 0 q ST_OK (old.take 8)

/-- Whether a WR writes into a winder store, and what it does to areas there: arms, disarms, or neither. -/
def Dev.winderAct (d : Dev) (e : Nat) (q : Pkt) : Option (Bool × Bool) :=
  match d.resolve q.addr with
  | .winder m off =>
    let k := wsKey m off
    if e = 112 + m then some (decide (armKeys (wsKey m 0) k q.data ≠ []), d.areas.any (fun a => disarms a.key k q.data)) else none
  | _ => none

/-- MEM_READ (R196): RD packet `i` is served. `uncorr` and `corr` are positions among the lines it reads, `stack` the
corrections the stack reports, `retries` the interface errors (log entry 8). -/
def execMemRead (i : Nat) (uncorr corr : List Nat) (stack retries : Nat) (s : State) : Host.Outcome State Fault Refusal :=
  s.run true (fun _ d => d.atDst i (fun d e _ q =>
    if q.typ = T_RD ∧ 112 ≤ e then (d.take i).serveRd e q uncorr corr stack retries else d))

/-- MEM_WRITE (R196): WR packet `i` is served; `uncorr` and `corr` are positions among the lines it writes in part. -/
def execMemWrite (i : Nat) (uncorr corr : List Nat) (stack retries : Nat) (s : State) : Host.Outcome State Fault Refusal :=
  s.run true (fun _ d => d.atDst i (fun d e _ q =>
    if (q.typ = T_WR ∨ q.typ = T_MWR) ∧ 112 ≤ e ∧ ((d.winderAct e q).getD (false, false)) = (false, false) then
      (d.take i).serveWr e q uncorr corr stack retries
    else d))

/-- MEM_ATOMIC (R199): ATOM packet `i` is served; the other operands as in MEM_READ. -/
def execMemAtomic (i : Nat) (found : LineCheck) (s : State) : Host.Outcome State Fault Refusal :=
  s.run true (fun _ d => d.atDst i (fun d e _ q =>
    if q.typ = T_ATOM ∧ 112 ≤ e then (d.take i).serveAtom e q found.uncorr found.corr found.stack found.retries else d))

/-- AREA_ARM (R271): WR packet `i` at a base die's winder writes word 0 of a header with ARM = 1. A cluster's winder arms as
the write is stored (PACKET_HOP, STS and the units' writes). -/
def execAreaArm (i : Nat) (s : State) : Host.Outcome State Fault Refusal :=
  s.run true (fun _ d => d.atDst i (fun d e _ q =>
    if (q.typ = T_WR ∨ q.typ = T_MWR) ∧ ((d.winderAct e q).getD (false, false)).1 then (d.take i).serveStoreWr e 0 q else d))

/-- AREA_DISARM (R271): WR packet `i` at a base die's winder writes word 0 of an area with ARM = 0. -/
def execAreaDisarm (i : Nat) (s : State) : Host.Outcome State Fault Refusal :=
  s.run true (fun _ d => d.atDst i (fun d e _ q =>
    if (q.typ = T_WR ∨ q.typ = T_MWR) ∧ d.winderAct e q = some (false, true) then (d.take i).serveStoreWr e 0 q else d))

/-- The key of line number `l` of a memory endpoint: a stack's lines, or package·2^30 + line at an IOD. -/
def lineKey (e l : Nat) : Nat := if e < 168 then t1Key (e - 112) (64 * l) else t2Key (4 * (e - 168) + l / 2 ^ 30) (64 * (l % 2 ^ 30))

/-- MEM_PATROL_SCRUB (R204): `count` lines of a memory endpoint are read from line `first` on. -/
def execMemPatrolScrub (e first count : Nat) (uncorr corr : List Nat) (stack retries : Nat) (s : State) :
    Host.Outcome State Fault Refusal :=
  s.run (isMB e || isIOD e) (fun _ d =>
    let on := if isMB e then d.fb (pgMBD (e - 112)) MBD_CTL_SCRUBH else d.fb (pgIOD (e - 168)) IOD_LPCTL_SCRUBH
    let last := if isMB e then 96 * 2 ^ 24 else 4 * 2 ^ 30
    if !on ∨ !d.present e then d
    else
      let hit (l : List Nat) : List Nat := l.filter (fun x => x < count && decide (first + x < last))
      let gs (l : List Nat) : List Nat := (hit l).map (fun x => lineKey e (first + x))
      let ls := gs (uncorr ++ corr.filter (fun x => !uncorr.contains x))
      let n := (hit uncorr).length
      if ls = [] then d.lineErrs [lineKey e first] [] [] stack (min retries 4)
      else d.lineErrs ls (List.range n) (List.range ls.length) stack (min retries 4))

/-! Retirement (R206, R207). -/

/-- RETREQ of MBD_CTL: the channel named retires. -/
def Dev.retreqMbd (d : Dev) (m : Nat) : Dev :=
  let pg := pgMBD m
  let ch := d.f pg MBD_CTL_RETCH
  let d := d.retireNow U_CHAN (32 * m + ch)
  if (d.mb m).migrating.isSome then d.setf pg MBD_CTL_RETREQ 1 else d

/-- MBD_RETREQ (R206): the host writes RETCH and sets RETREQ. -/
def execMbdRetreq (port m ch : Nat) (s : State) : Host.Outcome State Fault Refusal :=
  s.run (decide (port < 2 ∧ m < Config.baseDies ∧ ch < 32)) (fun _ d =>
    let a := pgMBD m + 0x88
    d.onWrite port a (setFld (setFld (d.reg a) 12 8 ch) 0 0 1) (fun d acts => if bit acts 0 then d.retreqMbd m else d))

/-- Migration of a channel has ended (R206): lines that could not be corrected are poisoned (`bad`, line numbers of the
stack), and a retirement that waited begins. -/
def execChannelMigrationDone (m : Nat) (bad : List Nat) (s : State) : Host.Outcome State Fault Refusal :=
  s.run (decide (m < Config.baseDies)) (fun _ d =>
    let pg := pgMBD m
    match (d.mb m).migrating with
    | none => d
    | some ch =>
      if !d.present (112 + m) then d else
      let ks := (bad.map (fun l => lineKey (112 + m) l)).filter (fun k => (lineAt k).ch = ch)
      let d := ks.foldl (fun d k => d.setPois k true) d
      let d := d.setf pg MBD_STATE_CHRET (d.f pg MBD_STATE_CHRET ||| 2 ^ ch)
      let d := ((d.setf pg MBD_STATE_MIG 2).ev pg EV_MEM_CHRET).ev pg EV_MEM_MIGDONE
      let next := (d.mb m).wait
      let d := d.updMbd m (fun b => { b with migrating := none, wait := [] })
      let d := forL next (fun c d => d.retireChannel m c) d
      if (d.mb m).migrating.isSome then d else d.setf pg MBD_CTL_RETREQ 0)

/-- RETREQ of IOD_LPCTL: the package named retires. -/
def Dev.retreqIod (d : Dev) (k : Nat) : Dev :=
  (d.retireNow U_PKG (4 * k + d.f (pgIOD k) IOD_LPCTL_RETPKG)).setf (pgIOD k) IOD_LPCTL_RETREQ 0

/-- IOD_RETREQ (R207): the host writes RETPKG and sets RETREQ. -/
def execIodRetreq (port k pkg : Nat) (s : State) : Host.Outcome State Fault Refusal :=
  s.run (decide (port < 2 ∧ k < Config.iods ∧ pkg < 4)) (fun _ d =>
    let a := pgIOD k + 0x108
    d.onWrite port a (setFld (setFld (d.reg a) 9 8 pkg) 0 0 1) (fun d acts => if bit acts 0 then d.retreqIod k else d))

end Sys2Proof.Machine
end

