-- ==== Sys2Proof/Machine/Fabric.lean ====
section
/-!
DEFINITION. The fabric of a panel (R216 to R236): ports and their training, bundles, packets that arrive from another
panel, windows, and the fabric registers whose writes do more than store a value.
-/

namespace Sys2Proof.Machine

/-! Training (Table 8.2). -/

/-- Why a port may not train; none: it trains. -/
def Dev.portBar (d : Dev) (q : Nat) : Option Nat :=
  let dir := d.portDir q
  if d.fb (pgTUB (q + 1)) TUB_PCTL_HOLD then some 8
  else if d.fab.retired.contains q then some 9
  else if d.fab.config ∨ !d.inDomain d.self then some 6
  else if !d.present (168 + q / 2) then some 10
  else if 5 < dir ∨ d.ringSize (dir / 2) = 1 then some 7
  else none

/-- A port trains from DOWN, or is held ABSENT. Training that the host asks for tries every lane (R219). -/
def Dev.portTrain (d : Dev) (q : Nat) (host : Bool) : Dev :=
  let pg := pgTUB (q + 1)
  let d := d.setf pg TUB_PSTATE_DIR (d.portDir q)
  match d.portBar q with
  | some c => d.portAbsent q c
  | none =>
    let d : Dev := if host then { d with fab := { d.fab with bad := SMap.del d.fab.bad q } } else d
    (((d.portTo q 1).setf pg TUB_PSTATE_CAUSE 0).setf pg TUB_PSTATE_WIDTH 0).setReg (pg + 0x98) 0

/-- FSTATE becomes UP when no port trains any more (Table 8.13; log entry 39). -/
def Dev.fstate (d : Dev) : Dev :=
  let busy := (List.range 32).any (fun q =>
    decide (1 ≤ d.f (pgTUB (q + 1)) TUB_PSTATE_STATE ∧ d.f (pgTUB (q + 1)) TUB_PSTATE_STATE ≤ 4))
  if d.f (pgTUB 0) TUB_CTL_FSTATE = 1 ∧ !busy then d.setf (pgTUB 0) TUB_CTL_FSTATE 2 else d

/-- Port start (R218): every port that is not held trains. -/
def Dev.pStart (d : Dev) : Dev :=
  let d : Dev := { d with fab := { d.fab with config := false } }
  let d := d.setf (pgTUB 0) TUB_CTL_FSTATE 1
  (forN Config.fabricPorts (fun q d => d.portTrain q true) d).fstate

/-- TUB_PSTART: the host writes TUB_CTL with PSTART = 1, the other fields as they stand. -/
def execTubPstart (port : Nat) (s : State) : Host.Outcome State Fault Refusal :=
  s.run (decide (port < 2)) (fun _ d =>
    d.onWrite port (pgTUB 0 + 0x88) (d.reg (pgTUB 0 + 0x88) ||| 1) (fun d a => if bit a 0 then d.pStart else d))

/-- Lanes marked bad of a port. -/
def Dev.badOfPort (d : Dev) (q : Nat) : List Nat := SMap.get [] d.fab.bad q
/-- G of R219. -/
def Dev.goodOf (d : Dev) (q : Nat) : Nat :=
  let b := d.badOfPort q
  min (16 - (b.filter (· < 16)).length) (16 - (b.filter (16 ≤ ·)).length)
/-- The width code for G good lanes; 0: too few. -/
def fabWidth (g : Nat) : Nat := if 16 ≤ g then 3 else if 8 ≤ g then 2 else if 4 ≤ g then 1 else 0

/-- LANE_TRAIN ends: lanes are marked bad. -/
def Dev.lanesTrained (d : Dev) (q : Nat) (bad : List Nat) : Dev :=
  let b := (bad.filter (· < 32)).foldl setIns (d.badOfPort q)
  let d : Dev := { d with fab := { d.fab with bad := SMap.set [] d.fab.bad q b } }
  (d.setf (pgTUB (q + 1)) TUB_PSTATE_GOOD (d.goodOf q)).portTo q 3

/-- The cause with which R220 ends an exchange with the peer's block; none: accepted. -/
def Dev.fabCapCause (d : Dev) (q : Nat) (cap : Word) : Option Nat :=
  let dir := d.portDir q
  let t := pgTUB 0
  let dim := dir / 2
  let n := d.ringSize dim
  let c := d.self / 16 ^ dim % 16
  let next := withCoord d.self dim (if dir % 2 = 0 then (c + 1) % n else (c + n - 1) % n)
  if fld cap 63 56 ≠ 1 then some 3
  else if fld cap 47 32 ≠ d.f t TUB_DOMAIN_DOMID then some 4
  else if fld cap 19 17 ≠ (if dir % 2 = 0 then dir + 1 else dir - 1) ∨ fld cap 31 20 ≠ next then some 5
  else none

/-- The local capability block (Table 8.3; MINOR 0: log entry 10). -/
def Dev.fabCap (d : Dev) (q : Nat) : Word :=
  BitVec.ofNat 64 (2 ^ 56 + d.f (pgTUB 0) TUB_DOMAIN_DOMID * 2 ^ 32 + d.self * 2 ^ 20 + d.portDir q * 2 ^ 17 + q * 2 ^ 12)

/-- NEGOTIATE begins: the local block is sent, and reported (R220). -/
def Dev.portNegotiate (d : Dev) (q : Nat) : Dev := (d.setReg (pgTUB (q + 1) + 0x90) (d.fabCap q)).portTo q 4

/-- PORT_TRAIN_STATE_DONE (R218): a training state completes; `bad` lists lanes marked bad, 0..15 receive and 16..31 transmit
(log entry 8). NEGOTIATE completes by PORT_CAP_EXCHANGE. -/
def execPortTrainStateDone (q : Nat) (bad : List Nat) (s : State) : Host.Outcome State Fault Refusal :=
  s.run (decide (q < Config.fabricPorts)) (fun _ d =>
    match d.f (pgTUB (q + 1)) TUB_PSTATE_STATE with
    | 1 => d.portTo q 2
    | 2 => d.lanesTrained q bad
    | 3 => if fabWidth (d.goodOf q) = 0 then (d.portAbsent q 2).fstate else d.portNegotiate q
    | _ => d)

/-- PORT_TRAIN_TIMEOUT (R218): a training state has not completed within ten times its typical time. -/
def execPortTrainTimeout (q : Nat) (bad : List Nat) (s : State) : Host.Outcome State Fault Refusal :=
  s.run (decide (q < Config.fabricPorts)) (fun _ d =>
    match d.f (pgTUB (q + 1)) TUB_PSTATE_STATE with
    | 1 => (d.portAbsent q 1).fstate
    | 2 => d.lanesTrained q bad
    | 3 => (d.portAbsent q 2).fstate
    | 4 => (d.portAbsent q ((d.fabCapCause q (d.reg (pgTUB (q + 1) + 0x98))).getD 3)).fstate
    | _ => d)

/-- A port enters ACTIVE. -/
def Dev.portActive (d : Dev) (q peer cable : Nat) : Dev :=
  let pg := pgTUB (q + 1)
  let d := ((d.setf pg TUB_PSTATE_PEER peer).setf pg TUB_PSTATE_CABLE (sat 12 cable)).setf pg TUB_PSTATE_CAUSE 0
  let d := (d.setf pg TUB_PSTATE_WIDTH (fabWidth (d.goodOf q))).setf pg TUB_PCTL_RETRAIN 0
  ((d.portTo q 5).ev pg EV_TUB_PUP).bundleCheck (d.portDir q)

/-- PORT_CAP_EXCHANGE (R220): the peer's block and the measured fibre delay in ns arrive (log entry 8). -/
def execPortCapExchange (q : Nat) (cap : Word) (cable : Nat) (s : State) : Host.Outcome State Fault Refusal :=
  s.run (decide (q < Config.fabricPorts)) (fun _ d =>
    let pg := pgTUB (q + 1)
    if d.f pg TUB_PSTATE_STATE ≠ 4 then d
    else
      let d := d.setReg (pg + 0x98) cap
      match d.fabCapCause q cap with
      | some c => (d.portAbsent q c).fstate
      | none => (d.portActive q (fld cap 31 20) cable).fstate)

/-! Service (R219, R221). -/

/-- PORT_LANE_CLASS_WINDOW (R219): a 1 ms window classes a receive lane (0 GOOD, 1 THIN, 2 POOR) with its corrected symbols and
uncorrectable codewords (log entry 8). -/
def execPortLaneClassWindow (q lane cls corr uncorr : Nat) (s : State) : Host.Outcome State Fault Refusal :=
  s.run (decide (q < Config.fabricPorts ∧ lane < 16 ∧ cls < 3)) (fun _ d =>
    let pg := pgTUB (q + 1)
    if d.f pg TUB_PSTATE_STATE ≠ 5 ∨ (d.badOfPort q).contains lane then d
    else
      let d := (d.addSat pg TUB_PERR_CORR corr).addSat pg TUB_PERR_UNCORR uncorr
      if cls = 2 ∨ 0 < uncorr then
        let d := d.slubEvent 17 U_PORT q
        let d : Dev := { d with fab := { d.fab with bad := SMap.set [] d.fab.bad q (setIns (d.badOfPort q) lane) } }
        if d.f pg TUB_PSTATE_STATE ≠ 5 then d else (d.portTrain q false).ev pg EV_TUB_PWIDTH
      else
        let sec := d.gt / 4000000000 + 1
        if cls = 1 ∧ SMap.get 0 d.fab.thinAt (q * 16 + lane) ≠ sec then
          { d with fab := { d.fab with thinAt := SMap.set 0 d.fab.thinAt (q * 16 + lane) sec } }.slubEvent 16 U_PORT q
        else d)

/-- PORT_FRAME_REFUSED (R221): the peer refuses a frame and `frames` frames are sent again. -/
def execPortFrameRefused (q frames : Nat) (s : State) : Host.Outcome State Fault Refusal :=
  s.run (decide (q < Config.fabricPorts ∧ 0 < frames ∧ frames ≤ 4096)) (fun _ d =>
    let pg := pgTUB (q + 1)
    if d.f pg TUB_PSTATE_STATE = 5 then d.addSat pg TUB_PERR_RESEND frames else d)

/-- HOLD and RETRAIN of TUB_PCTL, after a write (Table 8.23). -/
def Dev.pctl (d : Dev) (q : Nat) (acts : Word) : Dev :=
  let pg := pgTUB (q + 1)
  if d.fb pg TUB_PCTL_HOLD then (d.portAbsent q 8).fstate
  else if bit acts 1 then ((d.setf pg TUB_PCTL_RETRAIN 1).portTrain q true).fstate
  else d

/-- PORT_RETRAIN (R219): the host retrains a port from DOWN. -/
def execPortRetrain (port q : Nat) (s : State) : Host.Outcome State Fault Refusal :=
  s.run (decide (port < 2 ∧ q < Config.fabricPorts)) (fun _ d =>
    d.onWrite port (pgTUB (q + 1) + 0x88) (BitVec.ofNat 64 (2 + 4 * d.f (pgTUB (q + 1)) TUB_PCTL_HOLD)) (fun d a => d.pctl q a))

/-- PORT_HOLD (R247): the host writes HOLD. A port whose HOLD is cleared stays ABSENT until RETRAIN (Table 8.2). -/
def execPortHold (port q : Nat) (hold : Bool) (s : State) : Host.Outcome State Fault Refusal :=
  s.run (decide (port < 2 ∧ q < Config.fabricPorts)) (fun _ d =>
    d.onWrite port (pgTUB (q + 1) + 0x88) (if hold then 4 else 0) (fun d a => d.pctl q a))

/-! Packets that arrive from another panel (R222 to R225, R232). -/

/-- The packet a header spells (Table 5.2), with its prefix (Table 8.4) and payload. -/
def Pkt.ofHeader (h : BitVec 256) (pre : Word) (data : List Byte) (px : List Nat) : Pkt := {
  loc := .dst 0 0, vc := fld h 255 254, typ := fld h 253 248, late := bit h 245, mc := bit h 244, status := fld h 243 240,
  part := fld h 239 236, dpanel := fld h 235 224, fdep := fld h 223 216, fdcl := fld h 215 213, spanel := fld h 212 201,
  sep := fld h 200 193, scl := fld h 192 190, sq := fld h 189 174, flow := fld h 173 158, csk := fld h 157 126,
  len := fld h 125 117, mcg := fld h 116 105, tag := fld h 104 89, sub := fld h 88 85, addr := fld h 63 0,
  data := data, pois := px.filter (· < data.length),
  inFab := true, ttl := fld pre 63 56 - 1, fepoch := fld pre 55 55, dcls := fld pre 54 54, dim := fld pre 53 52, reversed := bit pre 51 }

/-- The window that holds all the bytes of a request (R232). -/
def Dev.window (d : Dev) (a n : Nat) : Option Nat :=
  (List.range 64).find? (fun w =>
    let b := d.f (pgTUB 0) TUB_WINw_BASE_BASE w * 4096
    d.fb (pgTUB 0) TUB_WINw_CTL_V w && decide (b ≤ a ∧ a + n ≤ b + 4096 * d.f (pgTUB 0) TUB_WINw_CTL_NPG w))

/-- The PERM bit an operation needs. -/
def permBit (typ : Nat) : Nat := if typ = T_RD then 0 else if typ = T_ATOM then 2 else if typ = T_SKOP then 3 else 1

/-- Steps 3 and 4 of the window check; none: served. -/
def Dev.winCheck (d : Dev) (typ tag a n : Nat) : Option Nat :=
  match d.window a n with
  | none => some ST_DENIED
  | some w =>
    if d.f (pgTUB 0) TUB_WINw_CTL_TAG w ≠ tag then some ST_TAG
    else if (d.f (pgTUB 0) TUB_WINw_CTL_PERM w).testBit (permBit typ) then none
    else some ST_DENIED

/-- A rejection is counted; its event at most once in 1 ms. -/
def Dev.reject (d : Dev) (st : Nat) : Dev :=
  let t := pgTUB 0
  let d := if st = ST_TAG then d.addSat t TUB_EVCNT_TAGREJ else d.addSat t TUB_EVCNT_DENREJ
  let quiet := match d.fab.lastRej with
    | some g => decide (d.gt < g + 4000000)
    | none => false
  if quiet then d else { d with fab := { d.fab with lastRej := some d.gt } }.ev t EV_TUB_REJECT

/-- What a fabric request names on this panel: its local address, its length, and where it goes or the status it ends with. -/
def Dev.fabTarget (d : Dev) (e : Nat) (p : Pkt) : Nat × Nat × Tgt :=
  if p.typ = T_SKOP then
    let (dep, dcl) := skHome p.addr
    (3 * 2 ^ 48 + p.addr * 64 + 8 * p.sub, 8,
      if !skValid p.addr ∨ !(p.sub = 0 ∨ p.sub = 1 ∨ p.sub = 5) then .stop ST_UNMAPPED
      else if !d.present dep then .stop ST_ABSENT
      else .to dep dcl p.addr)
  else if p.typ = T_LWORD then
    let ps := d.pstate (p.fdep * 8 + p.fdcl)
    let lc := d.lcOf (p.fdep * 8 + p.fdcl)
    let a := if isMB p.fdep then 3 * 2 ^ 48 + 2 ^ 47 + (p.fdep - 112) * 2 ^ 32 + p.addr else ownSlot lc + p.addr
    (a, p.data.length,
      if !(isCD p.fdep || isMB p.fdep) then .stop ST_UNMAPPED
      else if !d.present p.fdep then .stop ST_ABSENT
      else if isCD p.fdep ∧ (lc = 0x3FF ∨ ps ≠ PS_MAPPED) then .stop ST_ABSENT
      else .to p.fdep p.fdcl p.addr)
  else
    let a := p.addr % 2 ^ 52
    (a, p.len, match d.localTgt e 15 p.typ a p.len false with
      | .stop st => if st = ST_DENIED then .to 184 0 a else .stop st
      | t => t)

/-- A request from another panel, come in by port q, is checked and goes on to its target, or ends (R232). A cluster that is no valid
collector takes no long word: its router discards it (R269). -/
def Dev.fabServe (d : Dev) (q : Nat) (p : Pkt) : Dev :=
  let e := 168 + q / 2
  if p.typ = T_LWORD ∧ isCD p.fdep ∧ d.present p.fdep ∧ !d.collector p.fdep p.fdcl then d.stale p.fdep
  else
  let (a, n, t) := d.fabTarget e p
  match t with
  | .to dep dcl addr =>
    match d.winCheck p.typ p.tag a n with
    | some st => (d.reject st).fabEnd e p st
    | none => (d.injectAt e 0 (8 + q % 2) { p with dep := dep, dcl := dcl, addr := addr }).getD (d.fabEnd e p ST_ABSENT)
  | .stop st => d.fabEnd e p st
  | _ => d.fabEnd e p ST_UNMAPPED

/-- The whole FLOW of a response from the fabric: FLOW carries 16 bits of it (log entry 7). One that fits no outstanding
transfer keeps a number that none has. -/
def Dev.wholeFlow (d : Dev) (p : Pkt) : Nat :=
  let none_ := 2 ^ 64 + p.flow
  if p.typ = T_MGRSP then
    ((d.fab.out.find? (fun m => m.id % 65536 = p.flow && m.panel = p.spanel)).map (·.id)).getD none_
  else
    ((d.net.xfers.find? (fun x => x.fabric && x.flow % 65536 = p.flow && x.left.any (fun l => l.1 = p.sq && l.2 = 255))).map
      (·.flow)).getD none_

/-- A packet of the fabric has arrived at its panel by port q: the prefix comes off (R222), and the packet goes on from the port's receive
buffer (R235). -/
def Dev.fabArrive (d : Dev) (q : Nat) (p : Pkt) : Dev :=
  let e := 168 + q / 2
  let p : Pkt := { p with inFab := false }
  let go (dep dcl : Nat) (p : Pkt) : Dev :=
    (d.injectAt e 0 (8 + q % 2) { p with dep := dep, dcl := dcl }).getD (d.fabEnd e p ST_ABSENT)
  if p.typ = T_MGRSP then go d.wdEp 0 { p with flow := d.wholeFlow p }
  else if vcOf p.typ = 1 then go p.fdep p.fdcl { p with flow := d.wholeFlow p }
  else if p.typ = T_MGWR then
    if p.addr = MBOX then go d.wdEp 0 p else d.endRequest e p ST_DENIED
  else if p.typ = T_MGRD ∨ p.typ = T_MWR then d.endRequest e p ST_DENIED
  else d.fabServe q p

/-- A packet in transit, come in by port q, goes to its next bundle (R224, R225). -/
def Dev.fabTransit (d : Dev) (q : Nat) (p : Pkt) : Dev :=
  let e := 168 + q / 2
  if p.ttl = 0 then ((d.addSat (pgTUB 0) TUB_EVCNT_TTL).ev (pgTUB 0) EV_TUB_TTL).fabEnd e p ST_ABSENT
  else ((d.fabTouch p.fepoch).fabSend e 0 (8 + q % 2) p).getD (d.fabEnd e p ST_ABSENT)

/-- FABRIC_INGRESS (R222, R224): a packet arrives at port q with its header, prefix and payload; `px` are the payload bytes
that its flits mark poisoned. A prefix whose CRC does not hold is not accepted. -/
def execFabricIngress (q : Nat) (hdr : BitVec 256) (pre : Word) (data : List Byte) (px : List Nat) (s : State) :
    Host.Outcome State Fault Refusal :=
  s.run (decide (q < Config.fabricPorts)) (fun _ d =>
    let e := 168 + q / 2
    if d.f (pgTUB (q + 1)) TUB_PSTATE_STATE ≠ 5 ∨ fld pre 31 0 ≠ prefixCrc hdr pre then d
    else
      let p := Pkt.ofHeader hdr pre data px
      -- it travels away from the bundle it came in by
      let dir := d.portDir q
      let p := { p with dir := (if dir % 2 = 0 then dir + 1 else dir - 1) * 64 + q }
      if p.bad then (d.addSat (pgRTR e) RTR_EVCNT_BAD).ev (pgRTR e) EV_RTR_BADPKT
      else if p.dpanel = d.self then d.fabArrive q p
      else d.fabTransit q p)

/-- FABRIC_TIMEOUT (R234): transfer `i` over the fabric has not completed within FTMO × 100 µs of its last packet. -/
def execFabricTimeout (i : Nat) (s : State) : Host.Outcome State Fault Refusal :=
  s.run true (fun _ d =>
    match d.net.xfers[i]? with
    | some x =>
      if x.fabric ∧ x.since + 400000 * d.f (pgTUB 0) TUB_CTL_FTMO ≤ d.gt then
        let d := match x.fport with
          | some q => d.slubEvent 18 U_PORT q
          | none => d
        d.cutXfer x.flow (fun _ => true) ST_TIMEOUT
      else d
    | none => d)

/-! Windows (R233). -/

/-- A range lies wholly in tier 1, tier 2, the cluster-store window or the skein window. -/
def winRange (b n : Nat) : Bool :=
  decide (b + n ≤ 0x54000000000) || decide (2 ^ 48 ≤ b ∧ b + n ≤ 2 ^ 48 + 2 ^ 42) ||
    decide (2 ^ 49 ≤ b ∧ b + n ≤ 2 ^ 49 + 800 * 2 ^ 25) || decide (3 * 2 ^ 48 ≤ b ∧ b + n ≤ 4 * 2 ^ 48)

/-- Window w with a control word is valid (R233). -/
def Dev.winGood (d : Dev) (w : Nat) (v : Word) : Bool :=
  let base (i : Nat) : Nat := d.f (pgTUB 0) TUB_WINw_BASE_BASE i * 4096
  let n := fld v 39 0 * 4096
  fld v 55 40 != 0 && n != 0 && winRange (base w) n &&
    (List.range 64).all (fun i => i = w || !d.fb (pgTUB 0) TUB_WINw_CTL_V i ||
      decide (base i + 4096 * d.f (pgTUB 0) TUB_WINw_CTL_NPG i ≤ base w ∨ base w + n ≤ base i))

/-- A window's control word is written. -/
def Dev.winWrite (d : Dev) (port w : Nat) (v : Word) : Dev :=
  let a := pgTUB 0 + 0x408 + 16 * w
  let (ok, d) := d.hostMay port a v
  if !ok then d
  else
    let keep := v &&& 0x78FFFFFFFFFFFFFF#64
    if !bit v 63 then d.setReg a keep
    else if d.winGood w v then d.setReg a (keep ||| wbit 63)
    else d.setReg a (keep ||| wbit 58)

/-- TUB_WIN_CTL_WRITE (R233). -/
def execTubWinCtlWrite (port w : Nat) (v : Word) (s : State) : Host.Outcome State Fault Refusal :=
  s.run (decide (port < 2 ∧ w < 64)) (fun _ d => d.winWrite port w v)

/-! Registers of TUB page 0. -/

/-- The route to a physical panel by this panel's RING table: hops, or none (R236). -/
def Dev.fabHops (d : Dev) (panel : Nat) : Option Nat :=
  (List.range 3).foldl (fun acc dim =>
    match acc with
    | none => none
    | some h =>
      let w := d.fabWord d.fepoch 1 (dim / 2)
      let c := panel / 16 ^ dim % 16
      let o := if dim = 1 then 32 else 0
      let r := fld w (o + 2 * c + 1) (o + 2 * c)
      let s := d.self / 16 ^ dim % 16
      if r = 3 then some h
      else if r = 0 then none
      else some (h + ringDist (d.ringSize dim) s c (decide (r = 1)))) (some 0)

/-- The word TUB_HOPQ reads for a logical panel (Table 8.18). -/
def Dev.hopq (d : Dev) (l : Nat) : Word :=
  match d.pmapRaw l with
  | none => BitVec.ofNat 64 l
  | some q =>
    let (dim, r) := d.ringDir d.fepoch q 0
    let ps := if dim = 3 then [] else d.dirPorts (2 * dim + (if r = 2 then 1 else 0))
    let fbw := ps.foldl (fun a p => a + fabLanes (d.f (pgTUB (p + 1)) TUB_PSTATE_WIDTH)) 0
    match (if l = 0 then none else d.fabHops q) with
    | some h => BitVec.ofNat 64 ((if dim = 3 ∨ ps ≠ [] then 2 ^ 63 else 0) + h * 2 ^ 56 + q * 2 ^ 44 + fbw * 2 ^ 32 + l)
    | none => BitVec.ofNat 64 (q * 2 ^ 44 + fbw * 2 ^ 32 + l)

/-- TUB_HOPQ_WRITE (R236): the host names a logical panel; the register holds the answer. -/
def execTubHopqWrite (port l : Nat) (s : State) : Host.Outcome State Fault Refusal :=
  s.run (decide (port < 2 ∧ l < 4096)) (fun _ d =>
    d.onWrite port (pgTUB 0 + 0xC0) (BitVec.ofNat 64 l) (fun d _ => d.setReg (pgTUB 0 + 0xC0) (d.hopq l)))

/-- A write of TUB_FEPOCH.E (R229): on the lead it starts a flip; elsewhere, or while a flip runs, it is discarded. -/
def Dev.fepochWrite (d : Dev) (ep : Nat) : Dev :=
  let t := pgTUB 0
  if !d.isLead ∨ d.f t TUB_FEPOCH_STATE ≠ 0 then d.setf t TUB_FEPOCH_ERR 1
  else if ep % 2 = d.fepoch then d.setf t TUB_FEPOCH_ERR 0
  else { d with fab := { d.fab with dropped := [] } }.startFabFlip

/-- TUB_FEPOCH_WRITE (R229). -/
def execTubFepochWrite (port ep : Nat) (s : State) : Host.Outcome State Fault Refusal :=
  s.run (decide (port < 2 ∧ ep < 2)) (fun _ d =>
    let (ok, d) := d.hostMay port (pgTUB 0 + 0x90) (BitVec.ofNat 64 ep)
    if ok then d.fepochWrite ep else d)

/-- A write of TUB_FTBLW: on the lead the word goes out as FTBL to the panel in bits [63:52] (R230). -/
def Dev.ftblwWrite (d : Dev) (v : Word) : Dev :=
  if d.isLead then d.sendMsg (fld v 63 52) (msgWord 0x21 0 (fld v 47 0)) else d

/-- TUB_FTBLW_WRITE (R230). -/
def execTubFtblwWrite (port : Nat) (v : Word) (s : State) : Host.Outcome State Fault Refusal :=
  s.run (decide (port < 2)) (fun _ d =>
    let (ok, d) := d.hostMay port (pgTUB 0 + 0xC8) v
    if ok then d.ftblwWrite v else d)

/-- INDEX steps after an access of TUB_TBL_DATA with AUTO (Table 8.15). -/
def Dev.stepFab (d : Dev) : Dev :=
  if d.fb (pgTUB 0) TUB_TBL_SEL_AUTO then d.addWrap (pgTUB 0) TUB_TBL_SEL_INDEX else d

/-- A write of TUB_TBL_DATA (R227): the table word selected, or nothing; INDEX steps with AUTO. -/
def Dev.fabDataWrite (d : Dev) (v : Word) : Dev :=
  let t := pgTUB 0
  (d.fabWrite (d.f t TUB_TBL_SEL_BANK) (d.f t TUB_TBL_SEL_TABLE) (d.f t TUB_TBL_SEL_INDEX) v).stepFab

/-- A write of TUB_DOMAIN: taken only while FSTATE is IDLE (Table 8.12); the default tables follow it (log entry 37). -/
def Dev.domainWrite (d : Dev) (port : Nat) (v : Word) : Dev :=
  if d.f (pgTUB 0) TUB_CTL_FSTATE = 0 then d.onWrite port (pgTUB 0 + 0x80) v (fun d _ => d.fabDefaults)
  else (d.hostMay port (pgTUB 0 + 0x80) v).2

/-- FLIP_PANEL_TIMEOUT (R229): on the lead, a panel has not answered within FTMO and drops out; the panel itself, reached by the flip
or not, then holds its ports ABSENT. -/
def execFlipPanelTimeout (panel : Nat) (s : State) : Host.Outcome State Fault Refusal :=
  s.run (decide (panel < 4096)) (fun _ d =>
    let late := decide (d.fab.askedAt + 400000 * d.f (pgTUB 0) TUB_CTL_FTMO ≤ d.gt)
    let d := if d.isLead ∧ late ∧ (d.fab.flipLeft.contains panel ∨ d.fab.sweepLeft.contains panel) then d.dropPanel panel else d
    if panel = d.self ∧ (!d.isLead ∨ d.fab.dropped.contains panel) then
      forN Config.fabricPorts (fun q d => d.portAbsent q 6) { d with fab := { d.fab with config := true } }
    else d)

end Sys2Proof.Machine
end

