-- ==== Sys2Proof/Machine/Presence.lean ====
section
/-!
DEFINITION. Dies that leave and return (R22, R146, R153, R172, R265, R370, R371): what is lost with them, and what a die
is given before it injects again.
-/

namespace Sys2Proof.Machine

/-- Every injection point has switched: draining begins (R151 step 3). -/
def Dev.epochAcked (d : Dev) : Dev :=
  if d.f pgWHL WHL_RTEPOCH_STATE = 1 ∧ d.net.flipLeft = [] then d.setf pgWHL WHL_RTEPOCH_STATE 2 else d

/-- A store that is switched off loses its contents and reads zero, with valid check bits, when powered again (R370). -/
def Dev.storeOff (d : Dev) (p : Nat) : Dev := d.zero (csKey p 0) STORE_END

/-- A cluster's header switch opens: nothing of it is kept but its state in the spare map; its store is lost (R370). -/
def Dev.cluOff (d : Dev) (p : Nat) : Dev :=
  let keep := (d.cl p).keptState
  let d := (d.seqReset p).dropPly p
  let d := d.updNet (fun n => { n with xfers := n.xfers.filter (fun x => !Own.ofCluster p x.owner) })
  let mine (k : Nat) : Bool := k / 2 ^ 25 = csKey p 0 / 2 ^ 25
  let d : Dev := { d with areas := d.areas.filter (fun a => !mine a.key), idleAreas := d.idleAreas.filter (fun k => !mine k) }
  let d := d.updCl p (fun _ => { keptState := keep, needSeed := true })
  -- a partner or referee that is gone: its records are due for reissue at once (R291)
  (d.storeOff p).mapClu (fun c => { c with plys := c.plys.map (fun r => if r.target = p then { r with due := 0 } else r) })

/-- A cluster goes with its die: OFF, with the state it held (Table 1.6). -/
def Dev.cluGone (d : Dev) (p : Nat) : Dev :=
  let st := d.pstate p
  let d := if st = PS_OFF then d else d.updCl p (fun c => { c with keptState := st })
  (d.cluOff p).setf (pgCLU p) CLU_STATE_PSTATE PS_OFF

/-- The clusters of an endpoint's die. -/
def diesClusters (e : Nat) : List Nat := if e < 112 then (List.range 8).map (fun c => 8 * e + c) else []

/-- Links with an end on one of these dies. -/
def linksAt (es : List Nat) : List Nat :=
  (List.range Config.allLinks).filter (fun n => es.contains (linkEps n).1 || es.contains (linkEps n).2)

/-- The buffers of dies, and what their requesters had outstanding, are lost (R146); what a partner on the panel had sent
toward them stays in its replay buffer (R145). -/
def Dev.buffersLost (d : Dev) (es : List Nat) : Dev :=
  d.updNet (fun n => { n with
    present := n.present.filter (fun e => !es.contains e),
    pkts := n.pkts.filter (fun q => !es.contains q.loc.die),
    comb := n.comb.filter (fun x => !es.contains x.d),
    xfers := n.xfers.filter (fun x => !es.contains x.ep),
    flipLeft := n.flipLeft.filter (fun e => !es.contains e) })

/-- The clock state of dies that run no clock (R344, R360). -/
def Dev.clocksGone (d : Dev) (es : List Nat) : Dev :=
  let out {α : Type} (m : SMap α) : SMap α := m.filter (fun x => !es.contains x.1)
  let d := forL (es.filter (· < 112)) (fun e d => d.setReg (pgDIE e + 0x100) 0) d
  { d with
    gtOfs := out d.gtOfs,
    clk := { d.clk with
      lost := out d.clk.lost, gst := out d.clk.gst, last := out d.clk.last, good := out d.clk.good, hold := out d.clk.hold,
      switchLeft := d.clk.switchLeft.filter (fun e => !es.contains e) } }

/-- Dies become absent at one moment (R22): `es` by endpoint. -/
def Dev.diesGone (d : Dev) (es : List Nat) (unit : Word) (page : Nat) : Dev :=
  let es := es.filter d.present
  if es = [] then d
  else
    let d := forL (es.flatMap diesClusters) (fun p d => if d.pstate p = PS_MAPPED then d.unitLost p unit page else d) d
    let d := forL (es.flatMap diesClusters) (fun p d => d.cluGone p) d
    let d := forL es (fun e d => d.skDieLost e) d
    let lost (k : Nat) : Bool := wsKey 0 0 ≤ k && es.contains (112 + (k - wsKey 0 0) / 2 ^ 24)
    let d : Dev := { d with areas := d.areas.filter (fun a => !es.contains a.e), idleAreas := d.idleAreas.filter (fun k => !lost k) }
    let d := forL es (fun e d => d.optEndpointOff e) d
    let d := d.buffersLost es
    let d := forL (linksAt es) (fun n d => if d.linkState n = 8 then d else d.linkAbsent n 7) d
    let d := forL (es.filter (fun e => isIOD e)) (fun e d =>
      let k := e - 168
      let d := (d.portAbsent (2 * k) 10).portAbsent (2 * k + 1) 10
      if k = 0 ∨ k = 8 then d.updHp (k / 8) (fun h => { h with up := false }) else d) d
    -- a stack that is off holds no data, remapped or not
    let d := forL (es.filter (fun e => isMB e)) (fun e d =>
      { d.setf (pgMBD (e - 112)) MBD_STATE_TSTATE 2 with
        mbd := SMap.upd {} d.mbd (e - 112) (fun b => { b with bands := [] }) }) d
    let d := d.clocksGone es
    let d := if es.any (fun e => isMB e || isIOD e) then d.memLoss unit page else d
    d.epochAcked.distChange

/-- The route banks of a die are loaded with the current generation's tables (R153). -/
def Dev.loadBanks (d : Dev) (e : Nat) : Dev :=
  let mine (k : Nat) : Bool := k % 2 ^ 27 / 2 ^ 19 = e
  let words := d.gens.cur.tbl.filter (fun x => mine x.1)
  let d := d.updNet (fun n => { n with tbl := n.tbl.filter (fun x => !mine x.1) })
  d.updNet (fun n => { n with tbl := forL words (fun x m => SMap.set 0 (SMap.set 0 m x.1 x.2) (2 ^ 27 + x.1) x.2) n.tbl })

/-- A cluster has again the state it held before its hank went off (Table 1.6). -/
def Dev.cluBack (d : Dev) (p : Nat) : Dev :=
  if d.pstate p = PS_OFF then d.setf (pgCLU p) CLU_STATE_PSTATE (d.cl p).keptState else d

/-- The LIVE row of a die that returns is made afresh; a change raises EV_RT_LIVEBLK (R143). -/
def Dev.liveAfresh (d : Dev) (e : Nat) : Dev :=
  let old := d.f (pgRTR e) RTR_LIVE_LO_LIVE + 2 ^ 64 * d.f (pgRTR e) RTR_LIVE_HI_LIVE
  let new := if e < 112 ∨ isIOD e then d.liveRow e else 0
  if old = new then d
  else ((d.setf (pgRTR e) RTR_LIVE_LO_LIVE (new % 2 ^ 64)).setf (pgRTR e) RTR_LIVE_HI_LIVE (new / 2 ^ 64)).ev pgWHL EV_RT_LIVEBLK

/-- What a die that returns has of its own besides: a base die initialises its stack once memory has been trained (R208); the
fabric ports of an IOD train again once the fabric has been started (R218). -/
def Dev.partsBack (d : Dev) (e : Nat) : Dev :=
  if isMB e then
    let pg := pgMBD (e - 112)
    if d.f pg MBD_STATE_TSTATE = 2 then d.setf pg MBD_STATE_TSTATE (if 5 ≤ d.f pgWHL WHL_BOOT_BSTEP then 3 else 0) else d
  else if isIOD e ∧ d.f (pgTUB 0) TUB_CTL_FSTATE ≠ 0 then
    let k := e - 168
    forL [2 * k, 2 * k + 1] (fun q d =>
      if d.f (pgTUB (q + 1)) TUB_PSTATE_STATE = 6 ∧ d.f (pgTUB (q + 1)) TUB_PSTATE_CAUSE = 10 then d.portTrain q false else d) d
  else d

/-- A die is LOCKED and present (R360, R371): its banks are loaded, it starts with the current injection epoch, its skeins
are BROKEN where it was lost since panel reset, its LIVE row is afresh, its clusters have the states they held, and its links
and ports train. -/
def Dev.dieBack (d : Dev) (e : Nat) : Dev :=
  if d.present e then d
  else
    let d := d.updNet (fun n => { n with
      present := setIns n.present e, touch := n.touch.filter (fun x => x / 2 ≠ e), pkts := n.pkts.filter (fun q => q.loc.die ≠ e) })
    let d := (d.loadBanks e).setf (pgRTR e) RTR_STATE_INJE (d.f pgWHL WHL_RTEPOCH_E)
    let d := forL (diesClusters e) (fun p d => d.cluBack p) (if d.skn.gone.contains e then d.skDieBack e else d)
    let d := d.liveAfresh e
    let d := forL (linksAt [e]) (fun n d => if d.f pgWHL WHL_DISC_DSTATE = 0 then d else d.linkRetrain n) d
    ((d.partsBack e).setEstate e (if d.f pgWHL WHL_OPTCTL_CSTATE = 2 then 1 else 0)).distChange

end Sys2Proof.Machine
end

