-- ==== Sys2Proof/Machine/Clocks.lean ====
section
/-!
DEFINITION. Clocks and time (chapter 12): reference loss, replica monitors, global time on every die, domain time over the
fabric, and the change of operating point.
-/

namespace Sys2Proof.Machine

/-! Dies and their GSTATE (Table 12.5). -/

/-- A die is powered and its clocks have not stopped (R344, R371). -/
def Dev.powered (d : Dev) (e : Nat) : Bool :=
  !d.clk.dead.contains e &&
    (if isWD e then e = d.wdEp
     else if isIOD e then d.pwr.edge.contains (e - 168)
     else match epHank e with
       | some h => decide (1 ≤ d.f (pgHNK h) HNK_PSTATE_STATE ∧ d.f (pgHNK h) HNK_PSTATE_STATE ≤ 3)
       | none => false)

/-- GSTATE of a die: 0 NONE, 1 ACQUIRE, 2 LOCKED, 3 HOLDOVER. Only compute dies have a DIE page. -/
def Dev.gstate (d : Dev) (e : Nat) : Nat :=
  if e < 112 then d.f (pgDIE e) DIE_CLK_GSTATE else SMap.get 0 d.clk.gst e

/-- Change it. -/
def Dev.setGstate (d : Dev) (e v : Nat) : Dev :=
  if e < 112 then d.setf (pgDIE e) DIE_CLK_GSTATE v else { d with clk := { d.clk with gst := SMap.set 0 d.clk.gst e v } }

/-- An event on the DIE page of a compute die (R362). -/
def Dev.evDie (d : Dev) (e b : Nat) : Dev := if e < 112 then d.ev (pgDIE e) b else d

/-- Event bits of the DIE page. -/
abbrev EV_CLK_GTERR : Nat := 0
abbrev EV_CLK_NOREF : Nat := 1

/-- WHL_CLKSTAT.UNLOCKED: dies powered whose GSTATE is not LOCKED; the whorl die itself is the source. -/
def Dev.unlocked (d : Dev) : Nat :=
  ((List.range 184).filter (fun e => d.powered e && d.gstate e != 2)).length

/-! Reference (R344). -/

/-- REF_EDGE_LOSS (R344): die `e` has seen no reference edge for 200 ns. -/
def execRefEdgeLoss (e : Nat) (s : State) : Host.Outcome State Fault Refusal :=
  s.runFrozen (decide (e < Config.endpoints)) (fun _ d =>
    if d.clk.started ∧ d.powered e ∧ !(d.clk.lost.any (fun x => x.1 = e)) then
      let d : Dev := { d with clk := { d.clk with lost := SMap.ins d.clk.lost e d.gt, good := SMap.del d.clk.good e } }
      (d.setGstate e 3).evDie e EV_CLK_NOREF
    else d)

/-- HOLDOVER_STOP (R344): the reference has not returned 100 µs later. The die stops; with the active whorl die the whole
panel stops. -/
def execHoldoverStop (e : Nat) (s : State) : Host.Outcome State Fault Refusal :=
  s.runFrozen (decide (e < Config.endpoints)) (fun _ d =>
    match d.clk.lost.find? (fun x => x.1 = e) with
    | some (_, g) =>
      if d.gt < g + 400000 then d
      else if e = d.wdEp then { d with stopped := true }
      else
        let d : Dev := { d with clk := { d.clk with dead := setIns d.clk.dead e, lost := SMap.del d.clk.lost e } }
        d.diesGone [e] (unitWord U_DIE e) (if e < 112 then pgDIE e else pgOPT e)
    | none => d)

/-- REFERENCE_EDGE_RETURN (R344): the reference returns within 100 µs; the die acquires GT again by its beacons. -/
def execReferenceEdgeReturn (e : Nat) (s : State) : Host.Outcome State Fault Refusal :=
  s.runFrozen (decide (e < Config.endpoints)) (fun _ d =>
    match d.clk.lost.find? (fun x => x.1 = e) with
    | some (_, g) =>
      if d.gt ≤ g + 400000 then
        { d with clk := { d.clk with lost := SMap.del d.clk.lost e } }.setGstate e 1
      else d
    | none => d)

/-! Replica monitors (R348, R349). -/

/-- REPLICA_STRETCH (R348): a replica path of cluster p reports slack below 4/64 and its die runs `cycles` stretched cycles;
`slack` is the lowest slack, in 1/64 of the period (log entry 8). -/
def execReplicaStretch (p cycles slack : Nat) (s : State) : Host.Outcome State Fault Refusal :=
  s.runFrozen (decide (p < Config.clusters ∧ 0 < cycles ∧ slack < 4)) (fun _ d =>
    if !d.present (dieOf p) ∨ !(d.cl p).on then d
    else
      let pg := pgDIE (dieOf p)
      let d := (d.addSat pg DIE_STRETCH_SCYC cycles).addSat pg DIE_STRETCH_DROOPS
      let c := pgCLU p
      (d.setf c CLU_RMON_MIN (min (d.f c CLU_RMON_MIN) slack)).setf c CLU_RMON_NOW slack)

/-- The monitor step changes. -/
def Dev.setRstep (d : Dev) (p v : Nat) : Dev :=
  let d : Dev := { d with clk := { d.clk with rmonAt := SMap.set 0 d.clk.rmonAt p d.gt } }
  (d.setf (pgCLU p) CLU_RMON_RSTEP v).ev (pgCLU p) EV_RMON_STEP

/-- RSTEP_WINDOW (R349): a 1 ms window of cluster p had `cycles` cycles of slack below 8/64; `low` and `now` are the lowest and
the latest slack (log entry 8). -/
def execRstepWindow (p cycles low now : Nat) (s : State) : Host.Outcome State Fault Refusal :=
  s.runFrozen (decide (p < Config.clusters ∧ low < 64 ∧ now < 64)) (fun _ d =>
    if !(d.cl p).on then d
    else
      let c := pgCLU p
      let d := (d.setf c CLU_RMON_MIN (min (d.f c CLU_RMON_MIN) low)).setf c CLU_RMON_NOW now
      if cycles < 1000 then d
      else if d.f c CLU_RMON_RSTEP < 2 then d.setRstep p (d.f c CLU_RMON_RSTEP + 1)
      else { d with clk := { d.clk with rmonAt := SMap.set 0 d.clk.rmonAt p d.gt } })

/-- RSTEP_DECAY (R349): the step has been held for 60 s with no window reaching 1,000 cycles. -/
def execRstepDecay (p : Nat) (s : State) : Host.Outcome State Fault Refusal :=
  s.runFrozen (decide (p < Config.clusters)) (fun _ d =>
    let r := d.f (pgCLU p) CLU_RMON_RSTEP
    if 0 < r ∧ SMap.get 0 d.clk.rmonAt p + 240000000000 ≤ d.gt then d.setRstep p (r - 1) else d)

/-! Beacons of the clock tree (R353). -/

/-- GT_BEACON_SEND (R353): every 1 µs the active whorl die sends its GT down the clock tree. -/
def execGtBeaconSend (s : State) : Host.Outcome State Fault Refusal :=
  s.runFrozen true (fun _ d =>
    let due := match d.clk.beacon with
      | some g => decide (g + 4000 ≤ d.gt)
      | none => true
    if d.clk.started && due then { d with clk := { d.clk with beacon := some d.gt } } else d)

/-- The GT of a die, corrected: e = beacon − own GT. -/
def Dev.beaconAt (d : Dev) (e : Nat) (drift : Int) : Dev :=
  let x := SMap.get 0 d.gtOfs e + drift
  let err := -x
  let small := decide (-16 ≤ err ∧ err ≤ 16)
  let fresh := d.gstate e = 0
  let own := d.gtAt e
  let fix : Int := max (-4) (min 4 err)
  let good := if decide (-4 ≤ err ∧ err ≤ 4) && small && !fresh then SMap.get 0 d.clk.good e + 1 else 0
  let d : Dev := { d with
    gtOfs := SMap.set 0 d.gtOfs e (if small ∧ !fresh then x + fix else 0),
    clk := { d.clk with
      last := SMap.set 0 d.clk.last e d.gt, good := SMap.set 0 d.clk.good e good,
      hold := if small ∨ fresh ∨ 0 < err then d.clk.hold else SMap.set 0 d.clk.hold e own } }
  let d := if e < 112 then d.setf (pgDIE e) DIE_CLK_LERR (wrap 16 (max (-32768) (min 32767 err))) else d
  if fresh then d.setGstate e 1
  else if small then (if 4 ≤ good then d.setGstate e 2 else d)
  else (d.setGstate e 1).evDie e EV_CLK_GTERR

/-- GT_BEACON_RECEIVE (R353): the beacon sent last reaches die `e`, whose own count has gained `ofs` counts on the whorl die's
since its beacon before (log entry 8). A powered die that becomes LOCKED is present (R371). -/
def execGtBeaconReceive (e : Nat) (ofs : Int) (s : State) : Host.Outcome State Fault Refusal :=
  s.runFrozen (decide (e < 184)) (fun _ d =>
    if d.clk.beacon.isNone ∨ !d.powered e ∨ d.clk.lost.any (fun x => x.1 = e) then d
    else
      -- a die that was off takes the point in effect with the reference (R360)
      let d := if e < 112 ∧ d.gstate e = 0 then d.setf (pgDIE e) DIE_CLK_PT (d.f pgWHL WHL_FREQ_CUR) else d
      let d := d.beaconAt e ofs
      if d.gstate e = 2 then d.dieBack e else d)

/-- GT_BEACON_MISSING (R353): die `e` has had no beacon for 5 µs. -/
def execGtBeaconMissing (e : Nat) (s : State) : Host.Outcome State Fault Refusal :=
  s.runFrozen (decide (e < 184)) (fun _ d =>
    if d.powered e ∧ d.gstate e ≠ 0 ∧ SMap.get 0 d.clk.last e + 20000 ≤ d.gt then
      { d with clk := { d.clk with good := SMap.del d.clk.good e } }.setGstate e 3
    else d)

/-! Domain time (R237, R355, R356). -/

/-- FABRIC_BEACON_SEND (R237): every 10 µs the lowest-numbered ACTIVE port of a bundle sends a beacon with the panel's GT. -/
def execFabricBeaconSend (q : Nat) (s : State) : Host.Outcome State Fault Refusal :=
  s.runFrozen (decide (q < Config.fabricPorts)) (fun _ d =>
    let last := SMap.get 0 d.fab.beaconOut q
    if (d.dirPorts (d.portDir q)).head? = some q ∧ (last = 0 ∨ last + 40000 ≤ d.gt) then
      { d with fab := { d.fab with beaconOut := SMap.set 0 d.fab.beaconOut q d.gt } }
    else d)

/-- Times that GT deadlines and starting points of intervals held on the panel move by, at a step of GT. -/
def moveNat (δ : Int) (n : Nat) : Nat := ((n : Int) + δ).toNat
/-- A table of such times. -/
def moveMap (δ : Int) (m : SMap Nat) : SMap Nat := m.map (fun x => (x.1, moveNat δ x.2))

/-- Times held by a cluster; those of a suspended partition stand as what is left of them. -/
def Clu.moveGt (δ : Int) (susp : Bool) (c : Clu) : Clu := { c with
  units := c.units.map (fun u => if susp then u else { u with due := u.due.map (moveNat δ) }),
  plys := c.plys.map (fun r => if susp ∨ r.due = 0 then r else { r with due := moveNat δ r.due }),
  tensAt := moveNat δ c.tensAt, rampAt := moveNat δ c.rampAt,
  park := c.park.map (moveNat δ), gatedAt := c.gatedAt.map (moveNat δ),
  stag := c.stag.map (fun x => (x.1, moveNat δ x.2)) }

/-- Times held by a skein. -/
def Skein.moveGt (δ : Int) (s : Skein) : Skein := { s with
  waiters := s.waiters.map (fun w => if w.det then w else { w with due := w.due.map (moveNat δ) }),
  polls := s.polls.map (moveNat δ) }

/-- GT steps on every die at once, and every GT deadline with it (R356). -/
def Dev.stepGt (d : Dev) (δ : Int) : Dev :=
  let mv := moveNat δ
  let d : Dev := { d with clu := (d.clu.map (fun e => (e.1, e.2.moveGt δ (d.suspd (d.partOf e.1))))).filter (fun e => e.2 ≠ {}) }
  let d := d.mapSk (fun _ s => s.moveGt δ)
  let d : Dev := { d with
    gt := mv d.gt,
    net := { d.net with
      xfers := d.net.xfers.map (fun x => { x with since := mv x.since }),
      comb := d.net.comb.map (fun c => { c with opened := mv c.opened }),
      tel := d.net.tel.map (fun x => (x.1, { x.2 with since := if x.2.since = 0 then 0 else mv (x.2.since - 1) + 1 })) },
    skn := { d.skn with polled := d.skn.polled.map (fun x => { x with
      nextAt := if x.frozen then x.nextAt else mv x.nextAt, due := if x.frozen then x.due else x.due.map mv }) },
    areas := d.areas.map (fun a => { a with armedAt := mv a.armedAt }),
    opt := { d.opt with replay := d.opt.replay.map (fun s => { s with at_ := mv s.at_ }) },
    mbd := d.mbd.map (fun x => (x.1, { x.2 with
      rowCe := x.2.rowCe.map (fun r => (r.1, r.2.map mv)), ceAt := moveMap δ x.2.ceAt })),
    fab := { d.fab with
      out := d.fab.out.map (fun m => { m with sentAt := mv m.sentAt }), askedAt := mv d.fab.askedAt,
      lastRej := d.fab.lastRej.map mv, beaconOut := moveMap δ d.fab.beaconOut },
    mgrs := d.mgrs.map (fun x => (x.1, { x.2 with beatAt := mv x.2.beatAt })),
    slub := { d.slub with rets := d.slub.rets.map mv, panelRets := d.slub.panelRets.map (fun x => (x.1, mv x.2)) },
    clk := { d.clk with
      lost := moveMap δ d.clk.lost, last := moveMap δ d.clk.last, hold := [], beacon := d.clk.beacon.map mv,
      rmonAt := moveMap δ d.clk.rmonAt, domLast := mv d.clk.domLast },
    pwr := { d.pwr with hank := d.pwr.hank.map (fun x => (x.1, { x.2 with offAt := x.2.offAt.map mv, clrAt := x.2.clrAt.map mv })) },
    sec := { d.sec with leaseEnd := mv d.sec.leaseEnd },
    ports := d.ports.map (fun x => (x.1, { x.2 with derrAt := x.2.derrAt.map mv })) }
  d.setReg (pgWHL + 0x210) (BitVec.ofNat 64 (mv (d.reg (pgWHL + 0x210)).toNat))

/-- A partition is in RUN, DONE or ABORTING. -/
def Dev.anyBusy (d : Dev) : Bool :=
  (List.range Config.partitions).any (fun j => d.pst j = P_RUN || d.pst j = P_DONE || d.pst j = P_ABORTING)

/-- The bundle on the first hop of the route to TMASTER; 8: there is none, and the panel holds time (R237). -/
def Dev.timeDir (d : Dev) : Nat :=
  let (dim, r) := d.ringDir d.fepoch (d.f (pgTUB 0) TUB_DOMAIN_TMASTER) 0
  if dim = 3 ∨ r = 0 then 8 else 2 * dim + (if r = 2 then 1 else 0)

/-- An offset sample joins the filter (log entry 33). -/
def Dev.domSample (d : Dev) (ofs : Int) : Dev :=
  let ss := (ofs :: d.clk.samples).take 16
  let mean : Int := ss.foldl (· + ·) 0 / (ss.length : Int)
  let d := d.setReg (pgWHL + 0x228) (BitVec.ofInt 64 mean)
  let d : Dev := { d with clk := { d.clk with samples := ss, domLast := d.gt } }
  if (4000 < mean ∨ mean < -4000) ∧ d.fb pgWHL WHL_TIMECTL_STEPOK ∧ !d.anyBusy then
    let d := d.stepGt mean
    { d with clk := { d.clk with samples := [], domGood := 0, adj := 0 } }.setf pgWHL WHL_CLKSTAT_DOMSTATE 1
  else
    let good := if -8 ≤ mean ∧ mean ≤ 8 then d.clk.domGood + 1 else 0
    { d with clk := { d.clk with domGood := good, adj := max (-4) (min 4 mean) } }.setf pgWHL WHL_CLKSTAT_DOMSTATE
      (if 16 ≤ good then 2 else 1)

/-- FABRIC_BEACON_RECEIVE (R237, R355, R356): a beacon that carries `gt` arrives at port q. -/
def execFabricBeaconReceive (q gt : Nat) (s : State) : Host.Outcome State Fault Refusal :=
  s.runFrozen (decide (q < Config.fabricPorts)) (fun _ d =>
    if d.self ≠ d.f (pgTUB 0) TUB_DOMAIN_TMASTER ∧ (d.dirPorts d.timeDir).contains q then
      d.domSample ((gt : Int) - 4 * d.f (pgTUB (q + 1)) TUB_PSTATE_CABLE - d.gt)
    else d)

/-- DOMAIN_HOLDOVER (R355): no beacon has arrived for 50 µs. -/
def execDomainHoldover (s : State) : Host.Outcome State Fault Refusal :=
  s.runFrozen true (fun _ d =>
    let st := d.f pgWHL WHL_CLKSTAT_DOMSTATE
    if (st = 1 ∨ st = 2) ∧ d.clk.domLast + 200000 ≤ d.gt then
      ({ d with clk := { d.clk with domGood := 0, adj := 0 } }.setf pgWHL WHL_CLKSTAT_DOMSTATE 3).ev pgWHL EV_CLK_DOMHOLD
    else d)

/-! Operating points (R347, R357 to R359). -/

/-- The highest point of an ordering code (R1, R347). -/
def Fuses.ceiling (fu : Fuses) : Nat := if fu.code = 0 then 30 else 12

/-- A refusal that sets ERRC. -/
def Dev.freqErr (d : Dev) (c : Nat) : Dev := (d.setf pgWHL WHL_FREQ_ERRC c).ev pgWHL EV_CLK_FERR

/-- The apply time. -/
def Dev.applyT (d : Dev) : Nat := (d.reg (pgWHL + 0x210)).toNat

/-- ARM is written (R358). -/
def Dev.freqArm (d : Dev) (fu : Fuses) : Dev :=
  let tgt := d.f pgWHL WHL_FREQ_TGT
  if d.f pgWHL WHL_FREQ_FSTATE ≠ 0 then d.freqErr 3
  else if fu.ceiling < tgt then d.freqErr 1
  else if d.applyT < d.gt + 200000 then d.freqErr 2
  else if d.unlocked ≠ 0 then d.freqErr 5
  else
    let d : Dev := { d with clk := { d.clk with tgt := tgt } }
    (d.setf pgWHL WHL_FREQ_ERRC 0).setf pgWHL WHL_FREQ_FSTATE 1

/-- CANCEL is written (R358): rails that have ramped go back (R369). -/
def Dev.freqCancel (d : Dev) : Dev :=
  if d.f pgWHL WHL_FREQ_FSTATE ≠ 1 then d
  else if d.applyT < d.gt + 80000 then d.freqErr 4
  else { d with clk := { d.clk with ramped := [] } }.setf pgWHL WHL_FREQ_FSTATE 0

/-- A write of WHL_FREQ. While PENDING, a write that carries another TGT is refused for it (log entry 32); ARM and CANCEL act
on the state that the write found. -/
def Dev.freqWrite (d : Dev) (fu : Fuses) (port : Nat) (v : Word) : Dev :=
  let (ok, d) := d.hostMay port (pgWHL + 0x208) v
  if !ok then
    -- on a frozen panel ARM is refused with BUSY (R423)
    (if d.frozen ∧ bit v 0 ∧ d.hostUp port ∧ d.owns port then d.freqErr 3 else d)
  else
    let pend := d.f pgWHL WHL_FREQ_FSTATE = 1
    let d := if d.f pgWHL WHL_FREQ_TGT = fld v 31 24 then d
      else if pend then d.freqErr 3 else d.setf pgWHL WHL_FREQ_TGT (fld v 31 24)
    let d := if bit v 0 then d.freqArm fu else d
    if bit v 1 ∧ pend then d.freqCancel else d

/-- A write of WHL_FAPPLY: discarded while PENDING (R358). -/
def Dev.fapplyWrite (d : Dev) (port : Nat) (v : Word) : Dev :=
  let (ok, d') := d.hostMay port (pgWHL + 0x210) v
  if !ok then d'
  else if d.f pgWHL WHL_FREQ_FSTATE = 1 then d'.freqErr 3
  else d'.setReg (pgWHL + 0x210) v

/-- FREQ_ARM (R358): the host writes WHL_FREQ with ARM = 1 and TGT as it stands. -/
def execFreqArm (port : Nat) (s : State) : Host.Outcome State Fault Refusal :=
  s.runFrozen (decide (port < 2)) (fun fu d => d.freqWrite fu port (BitVec.ofNat 64 (d.f pgWHL WHL_FREQ_TGT * 2 ^ 24 + 1)))

/-- FREQ_CANCEL (R358). -/
def execFreqCancel (port : Nat) (s : State) : Host.Outcome State Fault Refusal :=
  s.run (decide (port < 2)) (fun fu d => d.freqWrite fu port (BitVec.ofNat 64 (d.f pgWHL WHL_FREQ_TGT * 2 ^ 24 + 2)))

/-- FREQ_PARAM_WRITE (R358): the host writes WHL_FREQ.TGT, then WHL_FAPPLY.T. -/
def execFreqParamWrite (port tgt : Nat) (t : Word) (s : State) : Host.Outcome State Fault Refusal :=
  s.run (decide (port < 2 ∧ tgt < 256)) (fun fu d => (d.freqWrite fu port (BitVec.ofNat 64 (tgt * 2 ^ 24))).fapplyWrite port t)

/-- RAIL_RAMP_START (R369): for a change to a higher point, hank h starts its ramps at T − 40 µs. -/
def execRailRampStart (h : Nat) (s : State) : Host.Outcome State Fault Refusal :=
  s.runFrozen (decide (h < Config.hanks)) (fun _ d =>
    if d.f pgWHL WHL_FREQ_FSTATE = 1 ∧ d.f pgWHL WHL_FREQ_CUR < d.clk.tgt ∧ d.applyT ≤ d.gt + 160000 ∧
        (hankEps h).any d.present then
      { d with clk := { d.clk with ramped := setIns d.clk.ramped h } }
    else d)

/-- FREQ_APPLY (R359): die `e` switches on the first cycle at which its own GT is at least T; the first one takes FSTATE to
SWITCHING. -/
def execFreqApply (e : Nat) (s : State) : Host.Outcome State Fault Refusal :=
  s.runFrozen (decide (e < Config.endpoints)) (fun _ d =>
    let st := d.f pgWHL WHL_FREQ_FSTATE
    if !d.present e ∨ d.gtAt e < d.applyT ∨ d.clk.tgt = d.f pgWHL WHL_FREQ_CUR then d
    else
      let d : Dev := if st = 1 then
        { d with clk := { d.clk with switchLeft := d.eps } }.setf pgWHL WHL_FREQ_FSTATE 2
        else d
      if (st = 1 ∨ st = 2) ∧ d.clk.switchLeft.contains e then
        let d : Dev := { d with clk := { d.clk with switchLeft := setDel d.clk.switchLeft e } }
        if e < 112 then d.setf (pgDIE e) DIE_CLK_PT d.clk.tgt else d
      else d)

/-- FREQ_SWITCH_DONE (R359): every present die has switched; or the target was the point in effect, and T has come. -/
def execFreqSwitchDone (s : State) : Host.Outcome State Fault Refusal :=
  s.runFrozen true (fun _ d =>
    let st := d.f pgWHL WHL_FREQ_FSTATE
    if (st = 2 ∧ d.clk.switchLeft = []) ∨ (st = 1 ∧ d.clk.tgt = d.f pgWHL WHL_FREQ_CUR ∧ d.applyT ≤ d.gt) then
      let d : Dev := { d with clk := { d.clk with ramped := [] } }
      ((d.setf pgWHL WHL_FREQ_FSTATE 0).setf pgWHL WHL_FREQ_CUR d.clk.tgt).distChange.ev pgWHL EV_CLK_FDONE
    else d)

end Sys2Proof.Machine
end

