-- ==== Sys2Proof/Machine/Power.lean ====
section
/-!
DEFINITION. Power and cooling (chapter 13): hank power states, header switches, the power cap and the issue throttle,
hot spots, telemetry and energy, connections, thermal forecast and cycles, the 12 V input.
-/

namespace Sys2Proof.Machine

/-! Hank states (Table 13.2). -/

abbrev H_OFF : Nat := 0
abbrev H_POWERING : Nat := 1
abbrev H_ON : Nat := 2
abbrev H_DRAINING : Nat := 3
abbrev H_TRIPPED : Nat := 4
abbrev H_LOCKED : Nat := 5

/-- Event bits of the HNK page (R397). -/
abbrev EV_HNK_STATE : Nat := 0
abbrev EV_HNK_TRIP : Nat := 1
abbrev EV_HNK_HOT : Nat := 2
abbrev EV_HNK_TFCST : Nat := 3
abbrev EV_HNK_SUSPECT : Nat := 4
abbrev EV_HNK_DERATE : Nat := 5

/-- HNK_PSTATE.STATE. -/
def Dev.hst (d : Dev) (h : Nat) : Nat := d.f (pgHNK h) HNK_PSTATE_STATE

/-- A change of state raises EV_HNK_STATE (R371). -/
def Dev.setHst (d : Dev) (h st cause : Nat) : Dev :=
  ((d.setf (pgHNK h) HNK_PSTATE_STATE st).setf (pgHNK h) HNK_PSTATE_CAUSE cause).ev (pgHNK h) EV_HNK_STATE

/-- Power state of a hank besides registers. -/
def Dev.hp13 (d : Dev) (h : Nat) : HankP := SMap.get {} d.pwr.hank h
/-- Change it. -/
def Dev.updHk (d : Dev) (h : Nat) (f : HankP → HankP) : Dev :=
  { d with pwr := { d.pwr with hank := SMap.upd {} d.pwr.hank h f } }

/-- The clusters of a hank, ascending. -/
def hankClusters (h : Nat) : List Nat := (hankDies h).flatMap diesClusters

/-! Rails (R302, R367 to R369). -/

/-- The point a hank's rails stand for: that of a change once its ramps have started, before T for a higher point and at T for a lower
one; else the point in effect (R369). -/
def Dev.railPoint (d : Dev) (h : Nat) : Nat :=
  if d.clk.ramped.contains h ∨ d.f pgWHL WHL_FREQ_FSTATE = 2 then d.clk.tgt else d.f pgWHL WHL_FREQ_CUR

/-- A cluster's trim in mV, by its step max(MSTEP, RSTEP). -/
def Dev.cluTrim (d : Dev) (p : Nat) : Nat :=
  match max (d.f (pgCLU p) CLU_SLUB_MSTEP) (d.f (pgCLU p) CLU_RMON_RSTEP) with
  | 0 => 0
  | 1 => 10
  | _ => 20

/-- The hank group supplies its domains: POWERING, ON or DRAINING. -/
def Dev.hankUp (d : Dev) (h : Nat) : Bool := decide (1 ≤ d.hst h ∧ d.hst h ≤ 3)

/-- A hank's VL rail in mV (R368): Vf(h, p), 15 mV and the largest trim of its powered clusters, capped at 0.85 V. -/
def Dev.vlRail (d : Dev) (h : Nat) : Nat :=
  let trim := ((hankClusters h).filter (fun p => (d.cl p).on)).foldl (fun a p => max a (d.cluTrim p)) 0
  if d.hankUp h then min 850 (Config.vf h (d.railPoint h) + 15 + trim) else 0

/-- A hank's VM rail in mV: fused, per operating point (Table 13.1). -/
def Dev.vmRail (d : Dev) (h : Nat) : Nat := if d.hankUp h then Config.vm h (d.railPoint h) else 0

/-- The LDO output of a powered cluster in mV: Vf(h, p) and its own trim, never above the rail less 15 mV (R302, R368). -/
def Dev.ldo (d : Dev) (p : Nat) : Nat :=
  let h := hankOf (dieOf p)
  if (d.cl p).on then min (Config.vf h (d.railPoint h) + d.cluTrim p) (d.vlRail h - 15) else 0

/-- A hank goes off (R22, R371, R376): its dies and their stacks are gone at one moment, a memory loss (R327). -/
def Dev.hankOff (d : Dev) (h st cause : Nat) : Dev :=
  let d := d.diesGone (hankEps h) (unitWord U_HANK h) (pgHNK h)
  let d := (forL (hankClusters h) (fun p d => if (d.cl p).on then d.cluOff p else d) d).clocksGone (hankEps h)
  let d := d.updHk h (fun k => { k with offAt := none })
  let d : Dev := { d with
    clk := { d.clk with ramped := setDel d.clk.ramped h }, pwr := { d.pwr with budget := SMap.del d.pwr.budget h } }
  d.setHst h st cause

/-! Requests (R372 to R376). -/

/-- RESULT of a hank request. -/
def Dev.hres (d : Dev) (h r : Nat) : Dev := d.setf (pgHNK h) HNK_PCTL_RESULT r

/-- ONREQ. -/
def Dev.onReq (d : Dev) (h : Nat) : Dev :=
  if d.hst h = H_OFF then (d.setHst h H_POWERING 0).hres h ST_OK
  else d.hres h (if d.hst h = H_TRIPPED ∨ d.hst h = H_LOCKED then ST_DENIED else ST_BUSY)

/-- Every MAPPED cluster of the hank belongs to a partition at rest, or to none. -/
def Dev.hankIdle (d : Dev) (h : Nat) : Bool :=
  (hankClusters h).all (fun p =>
    let j := d.partOf p
    d.pstate p != PS_MAPPED || d.lcOf p = 0x3FF || j = 15 && !d.inPart 15 (d.lcOf p) ||
      d.pst j = P_IDLE || d.pst j = P_ABORTED || d.pst j = P_STUCK)

/-- OFFREQ. -/
def Dev.offReq (d : Dev) (h : Nat) : Dev :=
  if d.hst h = H_ON ∧ d.hankIdle h then
    ((d.updHk h (fun k => { k with offAt := some d.gt })).setHst h H_DRAINING 0).hres h ST_OK
  else d.hres h ST_BUSY

/-- CLRFLT; one that clears a short starts the 600 s of R374. -/
def Dev.clrFlt (d : Dev) (h : Nat) : Dev :=
  if d.hst h = H_TRIPPED then
    let c := d.f (pgHNK h) HNK_PSTATE_CAUSE
    let d := if c = 2 then d.updHk h (fun k => { k with clrAt := some d.gt }) else d
    (d.setHst h H_OFF c).hres h ST_OK
  else d.hres h ST_DENIED

/-- A write of HNK_PCTL: more than one request at once is refused whole (R372). -/
def Dev.pctlHank (d : Dev) (port h : Nat) (v : Word) : Dev :=
  let (ok, d) := d.hostMay port (pgHNK h + 0x88) v
  if !ok then d
  else if 1 < b2n (bit v 0) + b2n (bit v 1) + b2n (bit v 2) then d.hres h ST_DENIED
  else
    let d := d.setf (pgHNK h) HNK_PCTL_THOT (fld v 23 16)
    if bit v 0 then d.onReq h else if bit v 1 then d.offReq h else if bit v 2 then d.clrFlt h else d

/-- HNK_PCTL with THOT as it stands and one request bit. -/
def Dev.pctlWord (d : Dev) (h b : Nat) : Word := BitVec.ofNat 64 (d.f (pgHNK h) HNK_PCTL_THOT * 2 ^ 16 + 2 ^ b)

/-- HANK_ONREQ (R372). -/
def execHankOnreq (port h : Nat) (s : State) : Host.Outcome State Fault Refusal :=
  s.run (decide (port < 2 ∧ h < Config.hanks)) (fun _ d => d.pctlHank port h (d.pctlWord h 0))

/-- HANK_OFFREQ (R373). -/
def execHankOffreq (port h : Nat) (s : State) : Host.Outcome State Fault Refusal :=
  s.run (decide (port < 2 ∧ h < Config.hanks)) (fun _ d => d.pctlHank port h (d.pctlWord h 1))

/-- HANK_CLRFLT (R374). -/
def execHankClrflt (port h : Nat) (s : State) : Host.Outcome State Fault Refusal :=
  s.run (decide (port < 2 ∧ h < Config.hanks)) (fun _ d => d.pctlHank port h (d.pctlWord h 2))

/-- HANK_SWITCH_OFF (R373): both residue counters of every die of the hank read zero, or 1 ms is over. -/
def execHankSwitchOff (h : Nat) (s : State) : Host.Outcome State Fault Refusal :=
  s.runFrozen (decide (h < Config.hanks)) (fun _ d =>
    match d.hst h, (d.hp13 h).offAt with
    | 3, some g =>
      if g + 4000000 ≤ d.gt ∨ (hankEps h).all (fun e => d.residue e 0 = 0 && d.residue e 1 = 0) then d.hankOff h H_OFF 1
      else d
    | _, _ => d)

/-- A hank that can trip. -/
def Dev.canTrip (d : Dev) (h : Nat) : Bool := d.hankUp h

/-- HANK_SHORT (R374): TRIPPED with cause SHORT, or LOCKED at a second short within 600 s of the CLRFLT. -/
def execHankShort (h : Nat) (s : State) : Host.Outcome State Fault Refusal :=
  s.runFrozen (decide (h < Config.hanks)) (fun _ d =>
    if !d.canTrip h then d
    else
      let again := match (d.hp13 h).clrAt with
        | some g => decide (d.gt ≤ g + 2400000000000)
        | none => false
      (d.hankOff h (if again then H_LOCKED else H_TRIPPED) 2).ev (pgHNK h) EV_HNK_TRIP)

/-- HANK_THERMAL_TRIP (R375): a junction at `temp` °C for 100 µs, or a stack at `stk` °C (log entry 8). -/
def execHankThermalTrip (h temp stk : Nat) (s : State) : Host.Outcome State Fault Refusal :=
  s.runFrozen (decide (h < Config.hanks)) (fun _ d =>
    if d.canTrip h ∧ (110 ≤ temp ∨ 105 ≤ stk) then (d.hankOff h H_TRIPPED 3).ev (pgHNK h) EV_HNK_TRIP else d)

/-! Power-on (Table 13.3, R172, R208). -/

/-- Channels a stack holds retired when its initialisation ends: those already retired; those whose migration was cut short with
the stack, or waited (R206); and at its first training those of RETMASK (R208, R499). -/
def Dev.initRet (d : Dev) (m : Nat) : Nat :=
  let b := SMap.get {} d.mbd m
  let late := (b.migrating.toList ++ b.wait).foldl (fun x ch => x ||| 2 ^ ch) 0
  d.f (pgMBD m) MBD_STATE_CHRET ||| late ||| (if b.trained then 0 else d.f (pgMBD m) MBD_CTL_RETMASK)

/-- A stack enters service: all its data is zero, its retired channels are migrated into spare bands or are holes (R208,
R499). -/
def Dev.stackInit (d : Dev) (m : Nat) : Dev :=
  let pg := pgMBD m
  let late := (SMap.get {} d.mbd m).migrating.isSome
  let d := d.setf pg MBD_STATE_CHRET (d.initRet m)
  let r := d.chRet m
  let fit := decide (3 * r.length ≤ d.spareBands)
  let d := d.zero (t1Key m 0) (2 ^ 37)
  let d : Dev := { d with mbd := SMap.upd {} d.mbd m (fun b =>
    { b with
      holes := if fit then [] else r, bands := d.freeBands {} (if fit then 3 * r.length else 0), wait := [], migrating := none,
      trained := true }) }
  let d := if r = [] then d else d.setf pg MBD_STATE_MIG (if fit then 2 else 3)
  let d := if late then (d.setf pg MBD_CTL_RETREQ 0).ev pg EV_MEM_CHRET else d
  d.setf pg MBD_STATE_TSTATE 1

/-- Table 13.3 steps 2 to 4 are done: every die of the hank is LOCKED, its MAPPED and SPLICE clusters are powered, its links
are up or ABSENT. -/
def Dev.hankReady (d : Dev) (h : Nat) : Bool :=
  (hankEps h).all (fun e => d.present e && d.gstate e = 2) &&
    (hankClusters h).all (fun p => (d.cl p).on || !(d.pstate p = PS_MAPPED || d.pstate p = PS_SPLICE)) &&
    (linksAt (hankEps h)).all (fun n => d.linkUp n || d.linkState n = 8)

/-- HANK_POWER_ON_DONE (R372): stacks are initialised, the six endpoints calibrated, and the hank is ON. `classes` and `lats`
are what calibration finds, as in OPT_CAL_DONE (log entry 8). A masked hank of bring-up becomes ON in step 5 (R404). -/
def execHankPowerOnDone (h : Nat) (classes : List (Nat × Nat × Nat × Nat)) (lats : List (Nat × Nat)) (s : State) :
    Host.Outcome State Fault Refusal :=
  s.runFrozen (decide (h < Config.hanks)) (fun _ d =>
    if d.hst h ≠ H_POWERING ∨ d.f pgWHL WHL_BOOT_BSTEP < 5 ∨ !d.hankReady h then d
    else
      let d := (d.stackInit (2 * h)).stackInit (2 * h + 1)
      let new := (hankEps h).filter (fun e => d.f (pgOPT e) OPT_STATE_ESTATE = 1)
      let d := if new = [] then d else d.calibrated new classes lats
      (d.setHst h H_ON 0).brakeRescan)

/-! Header switches (R370). -/

/-- A unit is bad in the fuse map, and no override re-tests it (R406, R407). -/
def Dev.fusedBad (d : Dev) (kind idx : Nat) : Bool :=
  d.boot.fmap.contains (kind * 2 ^ 32 + idx) && !d.boot.ovr.contains (kind * 2 ^ 32 + idx)

/-- A cluster that is to be powered: MAPPED or SPLICE; to be tested (R418); before generation 1, every one not fused bad
(R403, R404, R407). -/
def Dev.wantOn (d : Dev) (p : Nat) : Bool :=
  d.present (dieOf p) && (d.pstate p = PS_MAPPED || d.pstate p = PS_SPLICE || (d.cl p).stRun || (d.cl p).stDefer || d.gens.needOn.contains p ||
    (d.gens.cur.num = 0 && !d.fusedBad U_CLUSTER p && !d.fusedBad U_DIE (dieOf p)))

/-! The cap (R365, R366, R377, R381, R392, R396). -/

/-- The fused cap of an ordering code, W (Table 0.1). -/
def Fuses.cap (fu : Fuses) : Nat := if fu.code = 0 then 24000 else 16000

/-- The limits on Peff in mW, in the order of WHL_PCAP.LIM; none: not in force, or nothing is measured yet. -/
def Dev.limits (d : Dev) (fu : Fuses) : List (Option Nat) :=
  let cap := 1000 * fu.cap
  let tin := d.f pgWHL WHL_COOL_TIN
  let flow := d.f pgWHL WHL_COOL_FLOW
  let hot := if 640 < tin then some (cap * (160 - (tin - 640)) / 160) else none
  let slow := if flow < 280 then some (cap * flow / 280) else none
  let cool := match hot, slow with
    | some a, some b => some (min a b)
    | some a, none => some a
    | none, b => b
  let mv := d.f pgWHL WHL_PIN_MV
  let sus := max (d.f pgWHL WHL_POSTSUS_SUPPLY) (d.f pgWHL WHL_POSTSUS_RETURN)
  [some cap, some (1000 * max 4000 d.pwr.host), if d.pwr.measured then cool else none,
    if d.pwr.measured then some ((96 - sus) * 24 * mv) else none,
    if d.pwr.underV then some (2105 * mv) else none]

/-- Peff and the limits that bind; a coolant limit that comes to bind raises EV_COOL_DERATE. -/
def Dev.evalPeff (d : Dev) (fu : Fuses) : Dev :=
  let ls := d.limits fu
  let p := ls.foldl (fun a l => match l with
    | some x => min a x
    | none => a) (1000 * fu.cap)
  let bits := (List.range 5).foldl (fun a i => if ls.getD i none = some p then a + 2 ^ i else a) 0
  let was := d.f pgWHL WHL_PCAP_LIM
  let d : Dev := { d with pwr := { d.pwr with peff := p } }
  let d := (d.setf pgWHL WHL_PCAP_EFF (p / 1000)).setf pgWHL WHL_PCAP_LIM bits
  if bits.testBit 2 ∧ !was.testBit 2 then d.ev pgWHL EV_COOL_DERATE else d

/-- M[h]: the hank's MAPPED and SPLICE clusters. -/
def Dev.assigned (d : Dev) (h : Nat) : Nat :=
  ((hankClusters h).filter (fun p => d.pstate p = PS_MAPPED || d.pstate p = PS_SPLICE)).length

/-- BUDGET_DIVIDE (R377): every 10 µs. `pfix` is the input power less the VL and VM power of every hank, in mW (log entry 8). -/
def execBudgetDivide (pfix : Nat) (s : State) : Host.Outcome State Fault Refusal :=
  s.runFrozen true (fun fu d =>
    let d : Dev := { d with pwr := { d.pwr with host := d.f pgWHL WHL_PCAP_HOST } }
    let d := d.evalPeff fu
    let pclu := d.pwr.peff * 98 / 100 - pfix
    let on := (List.range Config.hanks).filter (fun h => d.hst h = H_ON)
    let m := on.foldl (fun a h => a + d.assigned h) 0
    let share (h : Nat) : Nat :=
      if on.contains h ∧ 0 < m then
        let b := pclu * d.assigned h / m
        if d.fb (pgHNK h) HNK_PSTATE_DERATE then b * 3 / 4 else b
      else 0
    forN Config.hanks (fun h d =>
      let d : Dev := { d with pwr := { d.pwr with budget := SMap.set 0 d.pwr.budget h (share h) } }
      d.setf (pgHNK h) HNK_BUDGET_BW (min 65535 (share h / 1000))) d)

/-- Set ncap of a hank and apply it to its clusters (R379). -/
def Dev.setNcap (d : Dev) (h n : Nat) : Dev :=
  forL (hankClusters h) (fun p d => d.applyThrottle p) (d.setf (pgHNK h) HNK_BUDGET_NCAP n)

/-- The working clusters of a hank: powered, not gated, not retired. -/
def Dev.workingIn (d : Dev) (h : Nat) : List Nat :=
  (hankClusters h).filter (fun p => (d.cl p).on && (d.cl p).gatedAt.isNone && d.pstate p != PS_RETIRED)

/-- HANK_NCAP_EVAL (R378): `pr` is Pr of the hank and `pts` the Pt of its clusters, in mW, of the power model (log entry 8). -/
def execHankNcapEval (h pr : Nat) (pts : List (Nat × Nat)) (s : State) : Host.Outcome State Fault Refusal :=
  s.runFrozen (decide (h < Config.hanks)) (fun _ d =>
    let ws := d.workingIn h
    let sum := (pts.filter (fun x => ws.contains x.1)).foldl (fun a x => a + x.2) 0
    let den := if sum = 0 then 1 else sum
    let avail := SMap.get 0 d.pwr.budget h - pr
    let n := if d.pwr.coolCrit ∨ d.frozen then 1 else min 16 (max 1 (16 * avail / den))
    let d := (d.setf (pgHNK h) HNK_BUDGET_RW (min 65535 (pr / 1000))).setf (pgHNK h) HNK_BUDGET_W ws.length
    d.setNcap h n)

/-- A write of WHL_PCAP: HOST above the fused cap is stored as the fused cap (R381). -/
def Dev.pcapWrite (d : Dev) (fu : Fuses) (port : Nat) (v : Word) : Dev :=
  let (ok, d) := d.hostMay port (pgWHL + 0x400) v
  if ok then d.setf pgWHL WHL_PCAP_HOST (min (fld v 15 0) fu.cap) else d

/-- PCAP_HOST_WRITE (R381): the cap takes effect at the next evaluation. -/
def execPcapHostWrite (port cap : Nat) (s : State) : Host.Outcome State Fault Refusal :=
  s.run (decide (port < 2 ∧ cap < 65536)) (fun fu d => d.pcapWrite fu port (BitVec.ofNat 64 cap))

/-! Notices, ramps and hot spots (R384 to R386). -/

/-- NOTICE_PREPOSITION (R384): the converters pre-position for an announced rise of cluster p; the block keeps no state of it. -/
def execNoticePreposition (p : Nat) (s : State) : Host.Outcome State Fault Refusal :=
  s.run (decide (p < Config.clusters)) (fun _ d => d)

/-- ISSUE_RAMP_STEP (R384): nramp rises by 1 every 0.5 µs until it reaches 16; a moment that a notice covers has 16 at once. -/
def execIssueRampStep (p : Nat) (s : State) : Host.Outcome State Fault Refusal :=
  s.runFrozen (decide (p < Config.clusters)) (fun _ d =>
    let c := d.cl p
    if 16 ≤ c.nramp then d
    else if c.notices.any (fun n => n.covers (d.gtAt (dieOf p))) then
      (d.updCl p (fun c => { c with nramp := 16 })).applyThrottle p
    else if c.rampAt + 2000 ≤ d.gt then
      (d.updCl p (fun c => { c with nramp := c.nramp + 1, rampAt := d.gt })).applyThrottle p
    else d)

/-- THOT in effect: values outside 70..100 act as 95 (Table 13.9). -/
def Dev.thot (d : Dev) (h : Nat) : Nat :=
  let t := d.f (pgHNK h) HNK_PCTL_THOT
  if 70 ≤ t ∧ t ≤ 100 then t else 95

/-- HNK_TEMP.HOTN: clusters of a hank with nhot < 16. -/
def Dev.hotn (d : Dev) (h : Nat) : Nat := ((hankClusters h).filter (fun p => decide ((d.cl p).nhot < 16))).length

/-- HOTSPOT_SENSE (R385): cluster p has spent 100 µs at or above THOT (`hot`), or 1 ms below THOT − 3 K (log entry 8). -/
def execHotspotSense (p : Nat) (hot : Bool) (s : State) : Host.Outcome State Fault Refusal :=
  s.runFrozen (decide (p < Config.clusters)) (fun _ d =>
    let h := hankOf (dieOf p)
    if !d.present (dieOf p) then d
    else if hot then
      let first := d.hotn h = 0
      let d := (d.updCl p (fun c => { c with nhot := max 1 (c.nhot - 1) })).applyThrottle p
      let j := d.partOf p
      let d := if d.pstate p = PS_MAPPED ∧ (d.pst j = P_RUN ∨ d.pst j = P_DONE) then d.updPt j (fun q => { q with hot := true }) else d
      if first then d.ev (pgHNK h) EV_HNK_HOT else d
    else (d.updCl p (fun c => { c with nhot := min 16 (c.nhot + 1) })).applyThrottle p)

/-! Telemetry and energy (R388, R389). -/

/-- The page and registers of a telemetry place: 4·h + d for domain d of hank h, 112 + 2·k and 113 + 2·k for VK and VQ of the
edge group of IOD k. -/
def telAt (place : Nat) : Nat × Nat :=
  if place < 112 then (pgHNK (place / 4) + 0x100 + 16 * (place % 4), pgHNK (place / 4) + 0x108 + 16 * (place % 4))
  else (pgIOD ((place - 112) / 2) + 0x180 + 16 * (place % 2), pgIOD ((place - 112) / 2) + 0x188 + 16 * (place % 2))

/-- Energy of 1 ms at `mw` mW, in µJ, is added to the mJ count at an address. -/
def Dev.addEnergy (d : Dev) (place a mw : Nat) : Dev :=
  let uj := SMap.get 0 d.pwr.frac place + mw
  let d : Dev := { d with pwr := { d.pwr with frac := SMap.set 0 d.pwr.frac place (uj % 1000) } }
  d.setReg a (d.reg a + BitVec.ofNat 64 (uj / 1000))

/-- One place is published: mV, mA, mW. -/
def Dev.publish (d : Dev) (place mv ma mw : Nat) : Dev :=
  if place = 144 then
    let d := ((d.setf pgWHL WHL_PIN_MV (min 65535 mv)).setf pgWHL WHL_PIN_CUR (min 65535 (ma / 100))).setf pgWHL WHL_PIN_MW mw
    d.addEnergy place (pgWHL + 0x410) mw
  else if place < 144 then
    let (t, e) := telAt place
    let v := min 65535 mv * 2 ^ 48 + min 0xFFFFFF (ma / 10) * 2 ^ 24 + min 0xFFFFFF mw
    (d.setReg t (BitVec.ofNat 64 v)).addEnergy place e mw
  else d

/-- Split a total in proportion to weights, in whole units that sum to it: by rising partial sums. -/
def split (total : Nat) (ws : List Nat) : List Nat :=
  let sum := ws.foldl (· + ·) 0
  if sum = 0 then ws.map (fun _ => 0)
  else (List.range ws.length).map (fun i =>
    let upTo (k : Nat) : Nat := (ws.take k).foldl (· + ·) 0
    total * upTo (i + 1) / sum - total * upTo i / sum)

/-- Direct energy of the powered clusters of a hank whose VL and VM took `uj` µJ. -/
def Dev.direct (d : Dev) (h uj : Nat) (model : List (Nat × Nat)) : List (Nat × Nat) :=
  let ps := (hankClusters h).filter (fun p => (d.cl p).on)
  let w (p : Nat) : Nat := ((model.find? (fun x => x.1 = p)).map (·.2)).getD 0
  ps.zip (split uj (ps.map w))

/-- Energy is attributed to partitions (R389). -/
def Dev.shareEnergy (d : Dev) (mw : Nat → Nat) (model : List (Nat × Nat)) : Dev :=
  let dir := (List.range Config.hanks).flatMap (fun h => d.direct h (mw (4 * h) + mw (4 * h + 1)) model)
  let shared := mw 144 - dir.foldl (fun a x => a + x.2) 0
  let cnt (j : Nat) : Nat := ((d.members j).filter (fun p => d.pstate p = PS_MAPPED && d.lcOf p != 0x3FF)).length
  let sh := split shared ((List.range 16).map cnt)
  let who (p : Nat) : Nat := if d.pstate p = PS_MAPPED && d.lcOf p != 0x3FF then d.partOf p else if d.shadowing p then d.partEff p else 16
  forN 16 (fun j d' =>
    let uj := (dir.filter (fun x => who x.1 = j)).foldl (fun a x => a + x.2) 0 + sh.getD j 0
    if uj = 0 then d'
    else d'.updPt j (fun q => { q with et := q.et + uj, ec := if d.pst j = P_RUN then q.ec + uj else q.ec })) d

/-- The 1 ms input average has stood above Peff for 10 ms with every hank at ncap 1 (R381). -/
def Dev.capFail (d : Dev) (mw : Nat) : Dev :=
  let above := decide (d.pwr.peff < mw) && (List.range Config.hanks).all (fun h => d.hst h != H_ON || d.f (pgHNK h) HNK_BUDGET_NCAP = 1)
  let n := if above then min 11 (d.pwr.overMs + 1) else 0
  let d : Dev := { d with pwr := { d.pwr with overMs := n } }
  if n = 10 then d.ev pgWHL EV_PWR_CAPFAIL else d

/-- TELEMETRY_PUBLISH (R388): readings by place (mV, mA, mW), 144 the input; `model` the modelled energy of clusters; coolant inlet
and outlet in 1/16 °C, pressure drop in 0.01 kPa, flow in 0.1 L/min (log entry 8). -/
def execTelemetryPublish (readings : List (Nat × Nat × Nat × Nat)) (model : List (Nat × Nat)) (tin tout dp flow : Nat) (s : State) :
    Host.Outcome State Fault Refusal :=
  s.runFrozen true (fun fu d =>
    let mw (place : Nat) : Nat := ((readings.find? (fun r => r.1 = place)).map (·.2.2.2)).getD 0
    let d := forL readings (fun r d => d.publish r.1 r.2.1 r.2.2.1 r.2.2.2) d
    let d := ((d.setf pgWHL WHL_COOL_TIN (min 4095 tin)).setf pgWHL WHL_COOL_TOUT (min 4095 tout)).setf pgWHL WHL_COOL_DP (min 65535 dp)
    let d := d.setf pgWHL WHL_COOL_FLOW (min 4095 flow)
    let d : Dev := { d with pwr := { d.pwr with measured := true, coolCrit := d.pwr.coolCrit && (decide (flow < 100) || decide (1040 < tout)) } }
    ((d.shareEnergy mw model).evalPeff fu).capFail (mw 144))

/-- COOLANT_CRITICAL (R396): flow below 10 L/min for 1 s, or the outlet above 65 °C: every hank holds ncap at 1. -/
def execCoolantCritical (s : State) : Host.Outcome State Fault Refusal :=
  s.runFrozen true (fun _ d =>
    if d.pwr.measured ∧ (d.f pgWHL WHL_COOL_FLOW < 100 ∨ 1040 < d.f pgWHL WHL_COOL_TOUT) then
      let d := if d.pwr.coolCrit then d else d.ev pgWHL EV_COOL_CRIT
      forN Config.hanks (fun h d => d.setNcap h 1) { d with pwr := { d.pwr with coolCrit := true } }
    else d)

/-! Connections (R391, R392). -/

/-- The last 16 evaluations with a new one. -/
def sus16 (l : List Bool) (b : Bool) : List Bool := (b :: l).take 16
/-- Suspect ones among them. -/
def susN (l : List Bool) : Nat := (l.filter id).length

/-- One element: a post 0..191, or 192 + h the bump field of hank h; resistance over factory value in 1/4,096, current in mA. -/
def Dev.evalConn (d : Dev) (el ratio ma : Nat) : Dev :=
  let bad := decide (115 * 4096 < 100 * ratio)
  if el < 192 then
    let l := sus16 (SMap.get [] d.pwr.susp el) bad
    let isNew := decide (10 ≤ susN l) && !d.pwr.pers.contains el
    let d : Dev := { d with pwr := { d.pwr with
      susp := SMap.set [] d.pwr.susp el l, ratio := SMap.set 0 d.pwr.ratio el (min 65535 ratio), amps := SMap.set 0 d.pwr.amps el ma,
      pers := if isNew then setIns d.pwr.pers el else d.pwr.pers } }
    let d := if isNew then (if el < 96 then d.addSat pgWHL WHL_POSTSUS_SUPPLY else d.addSat pgWHL WHL_POSTSUS_RETURN) else d
    if bad then d.ev pgWHL EV_PWR_SUSPECT else d
  else if el < 192 + Config.hanks then
    let h := el - 192
    let pg := pgHNK h
    let l := sus16 (d.hp13 h).susp bad
    let d := d.updHk h (fun k => { k with susp := l })
    let d := (d.setf pg HNK_CONN_RATIO (min 65535 ratio)).setf pg HNK_CONN_SUSN (min 15 (susN l))
    let d := if bad then d.ev pg EV_HNK_SUSPECT else d
    if 10 ≤ susN l ∧ !d.fb pg HNK_CONN_PERS then
      ((d.setf pg HNK_CONN_PERS 1).setf pg HNK_PSTATE_DERATE 1).ev pg EV_HNK_DERATE
    else d
  else d

/-- CONNECTION_MONITOR (R391): once per second; `readings` lists the posts, and the bump fields at 40 % or more of their rated
current (log entry 8). -/
def execConnectionMonitor (readings : List (Nat × Nat × Nat)) (s : State) : Host.Outcome State Fault Refusal :=
  s.runFrozen true (fun _ d => forL readings (fun r d => d.evalConn r.1 r.2.1 r.2.2) d)

/-! Temperatures (R393, R394). -/

/-- THERMAL_FORECAST (R393): temperatures of a hank and the forecast 10 ms ahead, °C (log entry 8). -/
def execThermalForecast (h tj tstk fcst : Nat) (s : State) : Host.Outcome State Fault Refusal :=
  s.runFrozen (decide (h < Config.hanks)) (fun _ d =>
    let pg := pgHNK h
    let d := ((d.setf pg HNK_TEMP_TJMAX (min 255 tj)).setf pg HNK_TEMP_TSTK (min 255 tstk)).setf pg HNK_TEMP_FCST (min 255 fcst)
    if d.thot h ≤ fcst then d.ev pg EV_HNK_TFCST else d)

/-- A signal value joins the turning points, newest first: it goes on in the direction of the last range or turns. -/
def turnIn (l : List Int) (t : Int) : List Int :=
  match l with
  | [] => [t]
  | a :: b :: r => if a = t then l else if (b < a) = (a < t) then t :: b :: r else t :: l
  | [a] => if a = t then l else [t, a]

/-- Rainflow counting of the turning points: ranges closed, with 1 for a half cycle and 2 for a full one, and what is left. -/
def rainflow : Nat → List Int → List (Nat × Nat) → List (Nat × Nat) × List Int
  | 0, l, out => (out, l)
  | n + 1, l, out =>
    match l with
    | a :: b :: c :: r =>
      let x := (a - b).natAbs
      let y := (b - c).natAbs
      if x < y then (out, l)
      else if r = [] then rainflow n [a, b] ((y, 1) :: out)
      else rainflow n (a :: r) ((y, 2) :: out)
    | _ => (out, l)

/-- THERMAL_CYCLE_COUNT (R394): the highest junction of the hank averaged over 1 s is `temp`, in 1/16 °C (log entry 8). -/
def execThermalCycleCount (h temp : Nat) (s : State) : Host.Outcome State Fault Refusal :=
  s.runFrozen (decide (h < Config.hanks)) (fun _ d =>
    let l := turnIn (d.hp13 h).turns (temp : Int)
    let (out, l) := rainflow l.length l []
    let d := d.updHk h (fun k => { k with turns := l })
    let pg := pgHNK h
    forL out (fun x d =>
      if x.1 < 160 then d
      else if x.1 < 320 then d.addSat pg HNK_CYC0_B0 x.2
      else if x.1 < 640 then d.addSat pg HNK_CYC0_B1 x.2
      else if x.1 < 960 then d.addSat pg HNK_CYC1_B2 x.2
      else d.addSat pg HNK_CYC1_B3 x.2) d)

/-- HNK_LIFE.PPM (R394). -/
def Dev.life (d : Dev) (h : Nat) : Nat :=
  let pg := pgHNK h
  (d.f pg HNK_CYC0_B0 + 10 * d.f pg HNK_CYC0_B1 + 100 * d.f pg HNK_CYC1_B2 + 500 * d.f pg HNK_CYC1_B3) / 20

/-! The 12 V input (R366). -/

/-- INPUT_UNDERVOLTAGE (R366): the input has stood below 11.4 V for 1 ms; `mv` is its voltage (log entry 8). -/
def execInputUndervoltage (mv : Nat) (s : State) : Host.Outcome State Fault Refusal :=
  s.runFrozen true (fun fu d =>
    if mv < 11400 then
      let d := if d.pwr.underV then d else d.ev pgWHL EV_PWR_UV
      ({ d with pwr := { d.pwr with underV := true } }.setf pgWHL WHL_PIN_MV mv).evalPeff fu
    else d)

/-- UNDERVOLTAGE_CLEAR (R481): the input is back at 11.4 V or more. -/
def execUndervoltageClear (mv : Nat) (s : State) : Host.Outcome State Fault Refusal :=
  s.runFrozen true (fun fu d =>
    if 11400 ≤ mv ∧ d.pwr.underV then
      ({ d with pwr := { d.pwr with underV := false } }.setf pgWHL WHL_PIN_MV (min 65535 mv)).evalPeff fu
    else d)

/-- INPUT_CRITICAL_STOP (R366): below 10.8 V or above 13.0 V for 100 µs every converter group opens; no state is held. -/
def execInputCriticalStop (mv : Nat) (s : State) : Host.Outcome State Fault Refusal :=
  s.runFrozen true (fun _ d => if mv < 10800 ∨ 13000 < mv then { stopped := true } else d)

end Sys2Proof.Machine
end

