-- ==== Sys2Proof/Machine/Measure.lean ====
section
/-!
DEFINITION. The measurement log (R444, R445).
-/

namespace Sys2Proof.Machine

/-- The 64 bytes of a hash. -/
def hashBytes (h : BitVec 512) : List Byte := leBytes 64 h.toNat

/-- Little-endian words of a byte string; the last one is padded with zero. -/
def wordsOf : Nat → List Byte → List Word
  | 0, _ => []
  | n + 1, bs => BitVec.ofNat 64 (leNat (bs.take 8)) :: wordsOf n (bs.drop 8)

/-- The 128 bytes of an entry (Table 15.3). -/
def logBytes (seq gt kind sub val arg : Nat) (digest : BitVec 512) : List Byte :=
  leBytes 8 seq ++ leBytes 8 gt ++ [BitVec.ofNat 8 kind, BitVec.ofNat 8 sub, 0, 0] ++ leBytes 4 val ++ leBytes 8 arg ++
    hashBytes digest ++ List.replicate 32 0

/-- Append an entry and extend the chain (R444); the latest 1,024 stay readable. -/
def Dev.logAppend (d : Dev) (kind sub val arg : Nat) (digest : BitVec 512 := 0) : Dev :=
  let bs := logBytes d.sec.count d.gt kind sub val arg digest
  { d with sec := { d.sec with
    log := ((wordsOf 16 bs) :: d.sec.log).take 1024, count := d.sec.count + 1,
    chain := Config.sha3 (hashBytes d.sec.chain ++ bs) } }

/-- The entry of an accepted RWP write (R449). -/
def Dev.rwpLog (d : Dev) (off : Nat) (v : Word) (digest : BitVec 512 := 0) : Dev :=
  d.logAppend 5 0 0 (off * 2 ^ 32 + fld v 31 0) digest

end Sys2Proof.Machine
end

