-- ==== Sys2Proof/Machine/Generations.lean ====
section
/-!
DEFINITION. Configuration generations (R424 to R431, R500) and epoch flips (R151, R152, R315): what a generation holds,
when one is refused, what a commit applies, and the flip that makes its tables active.
-/

namespace Sys2Proof.Machine

/-! Content (Table 14.6). -/

/-- Recorded settings of a PART page. -/
def partSettings : List Nat :=
  (List.range 16).flatMap (fun i => [0x400 + 16 * i, 0x408 + 16 * i]) ++ [0x500, 0x600, 0x608] ++
    (List.range 16).flatMap (fun i => [0x700 + 16 * i, 0x708 + 16 * i]) ++ [0x800]

/-- Staged registers of a PART page. -/
def partStaged : List Nat :=
  [0x910] ++ (List.range 13).map (fun i => 0x940 + 8 * i) ++ (List.range 8).flatMap (fun i => [0x9C0 + 16 * i, 0x9C8 + 16 * i])

/-- The band registers. -/
def bandRegs : List Nat := [0x340, 0x348, 0x350, 0x358, 0x360]

/-- The CLU_SPL registers. -/
def splRegs : List Nat := (List.range Config.clusters).map (fun p => pgCLU p + 0x370)

/-- Registers that take effect by a commit. -/
def stagedRegs : List Nat :=
  bandRegs ++ (List.range Config.partitions).flatMap (fun j => partStaged.map (fun o => pgPART j + o)) ++ splRegs

/-- All registers of a generation, in ascending order of BAR0 offset. -/
def genRegs : List Nat :=
  bandRegs ++ (List.range Config.partitions).flatMap (fun j => (partSettings ++ partStaged).map (fun o => pgPART j + o)) ++ splRegs

/-- The writable bits of a word of a register. -/
def writable (a : Nat) (v : Word) : Word :=
  let (c, n, o) := pageOf a
  match regDef? c n o with
  | some (r, _) => r.flds.foldl (fun w f => if f.acc = .rwo then setFld w f.hi f.lo (fld v f.hi f.lo) else w) 0
  | none => 0

/-- A register word with its writable bits replaced. -/
def Dev.putWritable (d : Dev) (a : Nat) (v : Word) : Dev :=
  let (c, n, o) := pageOf a
  match regDef? c n o with
  | some (r, _) => d.setReg a (r.flds.foldl (fun w f => if f.acc = .rwo then setFld w f.hi f.lo (fld v f.hi f.lo) else w) (d.reg a))
  | none => d

/-- The words of a bank, as a generation keeps them. -/
def Dev.bankTbl (d : Dev) (bank : Nat) : SMap Word :=
  (d.net.tbl.filter (fun x => x.1 / 2 ^ 27 = bank)).map (fun x => (x.1 % 2 ^ 27, x.2))

/-- Replace a bank. -/
def Dev.setBank (d : Dev) (bank : Nat) (t : SMap Word) : Dev :=
  let other := d.net.tbl.filter (fun x => x.1 / 2 ^ 27 ≠ bank)
  let mine := t.map (fun x => (bank * 2 ^ 27 + x.1, x.2))
  d.updNet (fun n => { n with tbl := if bank = 0 then mine ++ other else other ++ mine })

/-- The endpoint, table of a key within a bank. -/
def keyEp (k : Nat) : Nat := k / 2 ^ 19
def keyTab (k : Nat) : Nat := k / 2 ^ 16 % 8

/-- Endpoints that hold the translation table. -/
def xlateEps : List Nat := (List.range 184)

/-- XLATE words of an endpoint in a bank: word number and word. -/
def xlateOf (t : SMap Word) (e : Nat) : SMap Word :=
  (t.filter (fun x => keyEp x.1 = e && keyTab x.1 = 0)).map (fun x => (x.1 % 2 ^ 16, x.2))

/-- A bank with the same translation table at every endpoint; the other tables of an endpoint from `other`. -/
def withXlate (other : SMap Word) (xl : SMap Word) : SMap Word :=
  (List.range Config.endpoints).flatMap (fun e =>
    (if e < 184 then xl.map (fun x => (tblKey 0 e 0 0 x.1, x.2)) else []) ++
      other.filter (fun x => keyEp x.1 = e && keyTab x.1 != 0))

/-- The tables the inactive bank stages: an absent die keeps the previous generation's, with the new XLATE (R426). -/
def Dev.stagedTbl (d : Dev) : SMap Word :=
  let t := d.bankTbl (1 - d.f pgWHL WHL_RTEPOCH_E)
  let ref := ((List.range 184).find? d.present).getD 0
  withXlate ((List.range Config.endpoints).flatMap (fun e =>
    (if d.present e then t else d.gens.cur.tbl).filter (fun x => keyEp x.1 = e))) (xlateOf t ref)

/-- The translation table is identical on every present endpoint that holds it. -/
def Dev.xlateSame (d : Dev) : Bool :=
  let t := d.bankTbl (1 - d.f pgWHL WHL_RTEPOCH_E)
  match (List.range 184).find? d.present with
  | none => true
  | some r =>
    let x := xlateOf t r
    (List.range 184).all (fun e => !d.present e || xlateOf t e = x)

/-- Registers as they stand, as a generation records them. -/
def Dev.stagedWords (d : Dev) : SMap Word :=
  (genRegs.filter (fun a => writable a (d.reg a) ≠ writable a (resetAt a))).map (fun a => (a, writable a (d.reg a)))

/-- A register word of a generation. -/
def Gen.reg (g : Gen) (a : Nat) : Word := SMap.get (writable a (resetAt a)) g.regs a
/-- A field of it. -/
def Gen.f (g : Gen) (page : Nat) (x : Fld) (i : Nat := 0) : Nat := fld (g.reg (page + x.off + i * x.stride)) x.hi x.lo

/-- The entry of a logical cluster: 16 bits. -/
def Gen.entry (g : Gen) (lc : Nat) : Nat := fld (SMap.get 0 g.tbl (lc / 4)) (16 * (lc % 4) + 15) (16 * (lc % 4))

/-- The spare map of a generation: logical cluster and physical cluster. -/
def Gen.map (g : Gen) : List (Nat × Nat) :=
  (List.range Config.logicals).filterMap (fun lc =>
    let x := g.entry lc
    if x / 2 ^ 15 = 1 then some (lc, x % 256 * 8 + x / 256 % 8) else none)

/-- The partition a logical cluster belongs to; 15 with no partition. -/
def Gen.partOf (g : Gen) (lc : Nat) : Nat :=
  ((List.range Config.partitions).find? (fun j => (g.f (pgPART j) PART_LCi_LC (lc / 64)).testBit (lc % 64))).getD 15

/-- The bytes that the hash of a generation covers (R426). -/
def Gen.bytes (g : Gen) : List Byte :=
  let word (e t r i : Nat) : List Byte := leBytes 8 (SMap.get 0 g.tbl (tblKey 0 e t r i)).toNat
  let table (e t : Nat) : List Byte := (List.range (if t = 2 ∨ t = 4 then 8 else 1)).flatMap (fun r =>
    (List.range (tblWords e t)).flatMap (fun i => word e t r i))
  table 0 0 ++
    (List.range Config.endpoints).flatMap (fun e => [1, 2, 3, 4].flatMap (table e)) ++
    genRegs.flatMap (fun a => leBytes 8 (g.reg a).toNat) ++
    (List.range 168).flatMap (fun e => (List.range (if e < 112 then 32 else 16)).flatMap (fun b =>
      leBytes 8 (SMap.get 16 g.own (e * 32 + b))))

/-! Validity (R425). -/

/-- A range of bytes is whole in tier 1 or in tier 2 (R415). -/
def tierRange (b n : Nat) : Bool := decide (b + n ≤ 0x54000000000) || decide (2 ^ 48 ≤ b ∧ b + n ≤ 2 ^ 48 + 2 ^ 42)

/-- Membership and limits are valid: one partition at most for a logical cluster, ranges that name memory and do not overlap. -/
def Gen.partOk (g : Gen) : Bool :=
  let lcw (j i : Nat) : Nat := g.f (pgPART j) PART_LCi_LC i
  let parts := List.range Config.partitions
  let once := (List.range 13).all (fun i => parts.all (fun j => parts.all (fun k => j = k || lcw j i &&& lcw k i = 0)))
  let top := parts.all (fun j => lcw j 12 < 2 ^ 32)
  let rng (j i : Nat) : Option (Nat × Nat) :=
    if g.f (pgPART j) PART_MEMi_SIZE_V i = 1 then
      some (g.f (pgPART j) PART_MEMi_BASE_BASE i * 4096, g.f (pgPART j) PART_MEMi_SIZE_NPG i * 4096) else none
  let mem := parts.all (fun j => (List.range 8).all (fun i => match rng j i with
    | none => true
    | some (b, n) => tierRange b n && (List.range 8).all (fun k => i = k || (match rng j k with
      | none => true
      | some (b', n') => decide (b + n ≤ b' ∨ b' + n' ≤ b)))))
  once && top && mem

/-- Mode of a tier-1 band in a generation. -/
def Gen.t1Mode (g : Gen) (b : Nat) : Nat := fld (g.reg (0x340 + 8 * (b / 32))) (2 * (b % 32) + 1) (2 * (b % 32))

/-- Bands that hold remapped data, or to which a migration that runs copies it (R195, R206). -/
def Dev.usedBands (d : Dev) : List Nat := d.mbd.flatMap (fun x => x.2.bands)

/-- R195 holds. -/
def Dev.bandOk (d : Dev) (g : Gen) : Bool :=
  d.usedBands.all (fun b => g.t1Mode b = 3) &&
    (List.range 64).all (fun b => fld (g.reg (0x358 + 8 * (b / 32))) (2 * (b % 32) + 1) (2 * (b % 32)) != 3)

/-- R24 holds for the map of a generation against the current one. -/
def Dev.mapOk (d : Dev) (g : Gen) : Bool :=
  let m := g.map
  m.all (fun x => decide (x.2 < Config.clusters)) && decide (m.map (·.2)).Nodup &&
    m.all (fun x => g.entry x.1 = d.gens.cur.entry x.1 ||
      d.pstate x.2 = PS_MAPPED || d.pstate x.2 = PS_SPARE || d.pstate x.2 = PS_SPLICE)

/-- R334 and R336 hold: shadows come from SPARE, name a mapped logical cluster, one each; only a READY one is assigned. -/
def Dev.spliceOk (d : Dev) (g : Gen) : Bool :=
  let m := g.map
  let en := (List.range Config.clusters).filter (fun p => g.f (pgCLU p) CLU_SPL_EN = 1)
  let tlc (p : Nat) : Nat := g.f (pgCLU p) CLU_SPL_TLC
  en.all (fun p => m.any (fun x => x.1 = tlc p) && !m.any (fun x => x.2 = p) &&
      (d.pstate p = PS_SPARE || (d.gens.cur.f (pgCLU p) CLU_SPL_EN = 1 && d.gens.cur.f (pgCLU p) CLU_SPL_TLC = tlc p))) &&
    decide (en.map tlc).Nodup &&
    m.all (fun x => d.pstate x.2 != PS_SPLICE || d.f (pgCLU x.2) CLU_SPL_STATE = 3)

/-- A partition that a generation must not touch: RUN, DONE, RESTORING or suspended. -/
def Dev.partHeld (d : Dev) (j : Nat) : Bool :=
  d.pst j = P_RUN || d.pst j = P_DONE || d.pst j = P_RESTORING || d.fb (pgPART j) PART_STEP_SUSPD

/-- The generation leaves partition j as it is: membership, limits, XLATE entries. -/
def Dev.partSame (d : Dev) (g : Gen) (j : Nat) : Bool :=
  let cur := d.gens.cur
  (partStaged.drop 1).all (fun o => g.reg (pgPART j + o) = cur.reg (pgPART j + o)) &&
    (List.range Config.logicals).all (fun lc => cur.partOf lc != j || g.entry lc = cur.entry lc)

/-- A self-test of a cluster the generation assigns runs or is deferred. -/
def Dev.testBusy (d : Dev) (g : Gen) : Bool :=
  let t := (List.range Config.clusters).filter (fun p => (d.cl p).stRun || (d.cl p).stDefer)
  t != [] && g.map.any (fun x => t.contains x.2)

/-- A flip, commit, revert or drain flip is in progress. -/
def Dev.genBusy (d : Dev) : Bool :=
  d.f pgWHL WHL_RTEPOCH_STATE != 0 || d.f pgWHL WHL_GENCTL_STATE != 0 || d.gens.job.isSome || !d.gens.waiting.isEmpty

/-- The code with which R425 refuses a generation, after ORDER and BUSY; 0: valid. -/
def Dev.genErr (d : Dev) (g : Gen) (same : Bool) : Nat :=
  if d.testBusy g then 2
  else if !same || !d.mapOk g then 3
  else if (List.range Config.partitions).any (fun j => d.partHeld j && !d.partSame g j) then 4
  else if !d.bandOk g then 5
  else if !d.spliceOk g then 6
  else if !g.partOk then 7
  else 0

/-! The flip (R151). -/

/-- An epoch flip starts: FLIPPING, E := the other epoch. -/
def Dev.startFlip (d : Dev) : Dev :=
  let e := d.f pgWHL WHL_RTEPOCH_E
  let d := ((d.setf pgWHL WHL_RTEPOCH_OLD e).setf pgWHL WHL_RTEPOCH_E (1 - e)).setf pgWHL WHL_RTEPOCH_STATE 1
  d.updNet (fun n => { n with flipLeft := n.present })

/-- A drain flip that waits starts when nothing else runs: the active bank is copied and flipped (R315). -/
def Dev.pumpFlips (d : Dev) : Dev :=
  if d.f pgWHL WHL_RTEPOCH_STATE ≠ 0 ∨ d.f pgWHL WHL_GENCTL_STATE ≠ 0 ∨ d.gens.job.isSome then d
  else match d.gens.waiting with
    | [] => d
    | j :: r =>
      let e := d.f pgWHL WHL_RTEPOCH_E
      let d : Dev := { d with gens := { d.gens with job := some (.drain j), waiting := r, staged := false } }
      (d.setBank (1 - e) (d.bankTbl e)).startFlip

/-- A drain flip for a partition (R315). -/
def Dev.drainFlip (d : Dev) (j : Nat) : Dev :=
  { d with gens := { d.gens with waiting := d.gens.waiting ++ [j] } }.pumpFlips

/-- EPOCH_SWITCH_ACK (R151): endpoint `e` switches its injection epoch and acknowledges; the last one enters DRAINING. -/
def execEpochSwitchAck (e : Nat) (s : State) : Host.Outcome State Fault Refusal :=
  s.run (decide (e < Config.endpoints)) (fun _ d =>
    if d.f pgWHL WHL_RTEPOCH_STATE = 1 ∧ d.net.flipLeft.contains e then
      ((d.setf (pgRTR e) RTR_STATE_INJE (d.f pgWHL WHL_RTEPOCH_E)).updNet
        (fun n => { n with flipLeft := setDel n.flipLeft e })).epochAcked
    else d)

/-! A commit (R428). -/

/-- What a commit makes of a physical cluster, `lc` being the logical cluster the generation gives it. -/
def Dev.placeClu (d : Dev) (g : Gen) (p : Nat) (lc : Option Nat) : Dev :=
  let pg := pgCLU p
  let st := d.pstate p
  -- the state behind OFF is changed in its place
  let setSt (d : Dev) (v : Nat) : Dev := if st = PS_OFF then d.updCl p (fun c => { c with keptState := v }) else d.setf pg CLU_STATE_PSTATE v
  let was := if st = PS_OFF then (d.cl p).keptState else st
  -- RETIRED and DISABLED take no logical cluster, though the generation leaves one assigned to them
  match (if was = PS_RETIRED ∨ was = PS_DISABLED then none else lc) with
  | some n =>
    let d := if d.lcOf p = n then d else d.updCl p (fun c => { c with needSeed := true })
    let d := (d.setf pg CLU_STATE_LC n).setf pg CLU_STATE_PART (g.partOf n)
    let d := if was = PS_SPLICE then d.setf pg CLU_SPL_STATE 0 else d
    setSt d PS_MAPPED
  | none =>
    let d := (d.setf pg CLU_STATE_LC 0x3FF).setf pg CLU_STATE_PART 0xF
    if g.f pg CLU_SPL_EN = 1 ∧ (was = PS_SPARE ∨ was = PS_SPLICE) then
      if was = PS_SPLICE then d
      else setSt (((d.setf pg CLU_SPL_STATE 1).setf pg CLU_SPL_CLEAN 0).setf pg CLU_SPL_MISS 0) PS_SPLICE
    else if was = PS_MAPPED ∨ was = PS_SPLICE then setSt (d.setf pg CLU_SPL_STATE 0) PS_SPARE
    else d

/-- Skein records go with the owner of their block (R317). -/
def Dev.setOwners (d : Dev) (own : SMap Nat) : Dev :=
  let old := d.gens.cur.own
  let d := d.mapSk (fun id s => if SMap.get 16 old (skBlock id) = SMap.get 16 own (skBlock id) then s else { s with record := none })
  let base : SMap Skein := d.skn.base.map (fun x =>
    let r : Skein := { x.2 with record := none }
    (x.1, if SMap.get 16 old x.1 = SMap.get 16 own x.1 then x.2 else r))
  { d with skn := { d.skn with ownStaged := own, base := base } }

/-- Images a cluster must hold before it may become MAPPED or SPLICE (R412). -/
def Dev.hasFw (d : Dev) (p : Nat) : Bool :=
  (List.range 3).all (fun t => !d.boot.loaded.any (fun x => x.1 = t) || (d.cl p).fwGot.contains t)

/-- Clusters of an accepted generation that are still to be powered or to receive firmware. -/
def Dev.awaited (d : Dev) : List Nat :=
  d.gens.needOn.filter (fun p => d.pstate p = PS_SPARE && !((d.cl p).on && d.hasFw p))

/-- An accepted generation is applied, and its tables put behind a flip, once every SPARE cluster it assigns is powered with
firmware (R428 steps 4 to 6, R412). -/
def Dev.commitGo (d : Dev) : Dev :=
  match d.gens.next with
  | none => d
  | some (g, kind, swap) =>
    if d.awaited ≠ [] then d
    else
      let old := d.gens.cur
      let m := g.map
      let d := d.setOwners g.own
      let d := forN Config.clusters (fun p d => d.placeClu g p ((m.find? (fun x => x.2 = p)).map (·.1))) d
      let d : Dev := { d with gens := { d.gens with
        cur := g, job := some (.commit old kind swap), staged := false, next := none, needOn := [] } }
      -- SPARES may have risen (R305)
      ((d.setBank (1 - d.f pgWHL WHL_RTEPOCH_E) g.tbl).startFlip).brakeRescan

/-- HEADER_SWITCH_STAGED (R370): the eight segments of a cluster have closed and it is usable, or have opened. -/
def execHeaderSwitchStaged (p : Nat) (on : Bool) (s : State) : Host.Outcome State Fault Refusal :=
  s.runFrozen (decide (p < Config.clusters)) (fun _ d =>
    if on then
      (if d.wantOn p ∧ !(d.cl p).on then ((d.updCl p (fun c => { c with on := true })).applyThrottle p).commitGo else d)
    else if !d.wantOn p ∧ (d.cl p).on then d.cluOff p
    else d)

/-- A valid generation is accepted (R428 steps 2 and 3). -/
def Dev.commitGen (d : Dev) (g : Gen) (kind : Nat) (swap : Option (Nat × Nat)) : Dev :=
  let g := { g with num := d.gens.cur.num + 1, hash := Config.sha3 g.bytes }
  let d := (d.setf pgWHL WHL_GENCTL_STATE (if kind = 2 then 2 else 1)).setf pgWHL WHL_GENCTL_ERRC 0
  let m := g.map
  let need := (List.range Config.clusters).filter (fun p => d.pstate p = PS_SPARE &&
    (m.any (fun x => x.2 = p) || g.f (pgCLU p) CLU_SPL_EN = 1))
  { d with gens := { d.gens with next := some (g, kind, swap), needOn := need } }.commitGo

/-- A refusal (R425). -/
def Dev.genRefuse (d : Dev) (code : Nat) : Dev := (d.setf pgWHL WHL_GENCTL_ERRC code).ev pgWHL EV_GEN_REFUSED

/-- The generation that is staged. -/
def Dev.stagedGen (d : Dev) : Gen := { tbl := d.stagedTbl, regs := d.stagedWords, own := d.skn.ownStaged }

/-- A host commit of generation `num` (R425, R429); whether it was accepted. -/
def Dev.hostCommit (d : Dev) (num : Nat) : Bool × Dev :=
  if num ≠ d.gens.cur.num + 1 ∨ d.f pgWHL WHL_BOOT_BSTEP < 7 then
    let d := if d.f pgWHL WHL_BOOT_BSTEP < 7 then d.setf pgWHL WHL_BOOT_ERRC 1 else d
    (false, d.genRefuse 1)
  else if d.genBusy then (false, d.genRefuse 2)
  else
    let g := d.stagedGen
    let c := d.genErr g d.xlateSame
    if c ≠ 0 then (false, d.genRefuse c)
    else
      let d := if d.f pgWHL WHL_BOOT_BSTEP = 7 then d.setf pgWHL WHL_BOOT_ERRC 0 else d
      (true, (d.setf pgWHL WHL_GENCTL_LOST 0).commitGen g 0 none)

/-- Staged registers and the staged owner map return to the current values. -/
def Dev.unstage (d : Dev) : Dev :=
  let d := forL stagedRegs (fun a d => if writable a (d.reg a) = d.gens.cur.reg a then d else d.putWritable a (d.gens.cur.reg a)) d
  { d with skn := { d.skn with ownStaged := d.gens.cur.own } }

/-- A host has staged something that a panel commit would discard (R430). -/
def Dev.hasStaged (d : Dev) : Bool :=
  d.gens.staged || d.skn.ownStaged != d.gens.cur.own || stagedRegs.any (fun a => writable a (d.reg a) != d.gens.cur.reg a)

/-- A panel commit (R430) of a change of the current generation, if it is valid; whether it was accepted. -/
def Dev.panelCommit (d : Dev) (g : Gen) (kind : Nat) (swap : Option (Nat × Nat)) : Bool × Dev :=
  if d.genBusy ∨ d.genErr g true ≠ 0 then (false, d)
  else
    let d := if d.hasStaged then d.setf pgWHL WHL_GENCTL_LOST 1 else d
    let d := d.unstage
    let d := forL (if kind = 2 then genRegs else stagedRegs) (fun a d => if writable a (d.reg a) = g.reg a then d else d.putWritable a (g.reg a)) d
    (true, d.commitGen g kind swap)

/-- A generation with a logical cluster placed on a physical one, which ends its splicing (R329). -/
def Gen.swapIn (g : Gen) (lc p : Nat) : Gen :=
  let xl := xlateOf g.tbl 0
  let w := setFld (SMap.get 0 xl (lc / 4)) (16 * (lc % 4) + 15) (16 * (lc % 4)) (2 ^ 15 + p % 8 * 256 + p / 8)
  let a := pgCLU p + 0x370
  let spl := setFld (g.reg a) 63 63 0
  { g with tbl := withXlate g.tbl (SMap.set 0 xl (lc / 4) w), regs := SMap.set (writable a (resetAt a)) g.regs a spl }

/-- The current generation as a panel commit starts from it: its tables and staged registers, and the recorded settings as they
stand now (R430). -/
def Dev.curGen (d : Dev) : Gen :=
  let cur := d.gens.cur
  let words := d.stagedWords.filter (fun x => !stagedRegs.contains x.1)
  let kept := cur.regs.filter (fun x => stagedRegs.contains x.1)
  { cur with regs := forL words (fun x m => SMap.ins m x.1 x.2) kept }

/-- A write of WHL_GENCTL (R428, R431, R500). -/
def Dev.genctlWrite (d : Dev) (port : Nat) (v : Word) : Dev :=
  let (ok, d') := d.hostMay port (pgWHL + 0x550) v
  if !ok then (d.hostWrite port (pgWHL + 0x550) v).d
  else
    let d := d'
    if 1 < b2n (bit v 63) + b2n (bit v 62) + b2n (bit v 61) then d.genRefuse 10
    else
    let d := (d.setf pgWHL WHL_GENCTL_HSEL (fld v 56 56)).setf pgWHL WHL_GENCTL_NUM (fld v 31 0)
    if bit v 63 then (d.hostCommit (fld v 31 0)).2
    else if bit v 62 then
      if d.f pgWHL WHL_BOOT_BSTEP < 7 then d.genRefuse 1
      else if d.genBusy then d.genRefuse 2
      else match d.gens.prev with
        | none => d.genRefuse 8
        | some g =>
          if !(List.range Config.partitions).all (fun j =>
              (d.pst j = P_IDLE || d.pst j = P_ABORTED || d.pst j = P_STUCK) && !d.fb (pgPART j) PART_STEP_SUSPD) then d.genRefuse 9
          else
            let c := d.genErr g true
            if c ≠ 0 then d.genRefuse c else (d.panelCommit g 2 none).2
    else if bit v 61 then d.unstage.setf pgWHL WHL_GENCTL_ERRC 0
    else d

/-- WHL_GENCTL with HSEL and NUM as they stand and an action bit. -/
def Dev.genctlWord (d : Dev) (b num : Nat) : Word := BitVec.ofNat 64 (2 ^ b + d.f pgWHL WHL_GENCTL_HSEL * 2 ^ 56 + num)

/-- GEN_COMMIT (R428). -/
def execGenCommit (port num : Nat) (s : State) : Host.Outcome State Fault Refusal :=
  s.run (decide (port < 2 ∧ num < 2 ^ 32)) (fun _ d => d.genctlWrite port (d.genctlWord 63 num))

/-- GEN_REVERT (R431). -/
def execGenRevert (port : Nat) (s : State) : Host.Outcome State Fault Refusal :=
  s.run (decide (port < 2)) (fun _ d => d.genctlWrite port (d.genctlWord 62 (d.f pgWHL WHL_GENCTL_NUM)))

/-- GEN_DISCARD (R424). -/
def execGenDiscard (port : Nat) (s : State) : Host.Outcome State Fault Refusal :=
  s.run (decide (port < 2)) (fun _ d => d.genctlWrite port (d.genctlWord 61 (d.f pgWHL WHL_GENCTL_NUM)))

/-- A write of WHL_RTEPOCH.E (R152, R429). -/
def Dev.rtepochWrite (d : Dev) (port : Nat) (v : Word) : Dev :=
  let (ok, d) := d.hostMay port (pgWHL + 0x308) v
  if !ok then d
  else if d.f pgWHL WHL_RTEPOCH_STATE ≠ 0 then d.setf pgWHL WHL_RTEPOCH_ERR 1
  else if fld v 0 0 = d.f pgWHL WHL_RTEPOCH_E then d
  else
    let (ok, d) := d.hostCommit (d.gens.cur.num + 1)
    d.setf pgWHL WHL_RTEPOCH_ERR (b2n (!ok))

/-- EPOCH_WRITE (R152): the host writes WHL_RTEPOCH.E. -/
def execEpochWrite (port ep : Nat) (s : State) : Host.Outcome State Fault Refusal :=
  s.run (decide (port < 2 ∧ ep < 2)) (fun _ d => d.rtepochWrite port (BitVec.ofNat 64 ep))

/-! The end of a flip. -/

/-- No line of a tier-1 channel is poisoned. -/
def Dev.cleanChannel (d : Dev) (m ch : Nat) : Dev :=
  let inCh (g : Nat) : Bool := decide (t1Key m 0 ≤ g ∧ g < t1Key (m + 1) 0) && t1Channel (g - t1Key m 0) = ch
  { d with sour := setDel d.sour (m * 32 + ch), pois := d.pois.filter (fun g => !inCh g) }

/-- Every line of a tier-1 channel is stored poisoned. -/
def Dev.poisonChannel (d : Dev) (m ch : Nat) : Dev :=
  let d := d.cleanChannel m ch
  { d with sour := setIns d.sour (m * 32 + ch) }

/-- Lines of a tier-1 channel of which a byte is listed. -/
def Dev.chanCells (d : Dev) (m ch : Nat) : List Nat :=
  (d.mem.filter (fun c => decide (t1Key m 0 ≤ c.1 ∧ c.1 < t1Key (m + 1) 0) && t1Channel (c.1 - t1Key m 0) = ch)).map (·.1)

/-- The lines of a hole that is remapped: zero and clean at the first commit after memory training; poisoned at a later one,
for the data of the hole is gone (R499). -/
def Dev.remapHole (d : Dev) (m ch : Nat) (first : Bool) : Dev :=
  let d : Dev := { d.cleanChannel m ch with mem := forL (d.chanCells m ch) (fun k c => SMap.del c k) d.mem }
  if first then d else d.poisonChannel m ch

/-- The base die of each stack in service applies R206 again at a commit: with room for all its retired channels in the bands
in force its holes are remapped (R499). -/
def Dev.remapHoles (d : Dev) : Dev :=
  forN Config.baseDies (fun m d =>
    let pg := pgMBD m
    let r := d.chRet m
    let b := SMap.get {} d.mbd m
    let upd (d : Dev) (f : Mbd → Mbd) : Dev := { d with mbd := SMap.upd {} d.mbd m f }
    let d := if b.trained then upd d (fun b => { b with firstDone := true }) else d
    if b.holes = [] ∨ d.f pg MBD_STATE_TSTATE ≠ 1 then d
    else if 3 * r.length ≤ d.spareBands then
      let d := forL b.holes (fun ch d => d.remapHole m ch (!b.firstDone)) d
      (upd d (fun b => { b with holes := [], bands := b.bands ++ d.freeBands b (3 * b.holes.length) })).setf pg MBD_STATE_MIG 2
    else d.setf pg MBD_STATE_MIG 3) d

end Sys2Proof.Machine
end

