-- ==== Sys2Proof/Machine/Replay.lean ====
section
/-!
DEFINITION. Step control, completion, commit, abort and replay of a partition's steps (R54, R61, R310 to R340, R386, R390,
R416, R417), and the end of an epoch flip (R151), which several of them wait for.
-/

namespace Sys2Proof.Machine

/-! Membership. -/

/-- The physical clusters in MAPPED state of a partition. -/
def Dev.mapped (d : Dev) (j : Nat) : List Nat := (d.members j).filter (fun p => d.pstate p = PS_MAPPED)

/-- The clusters that run the streams of a partition: mapped ones and their shadows. -/
def Dev.streams (d : Dev) (j : Nat) : List Nat := d.mapped j ++ d.followers j

/-- The logical clusters of a partition. -/
def Dev.lcsOf (d : Dev) (j : Nat) : List Nat := (List.range Config.logicals).filter (fun lc => d.inPart j lc)

/-- A logical cluster is placed on a MAPPED cluster of a present die. -/
def Dev.lcReady (d : Dev) (lc : Nat) : Bool :=
  match d.lcPhys lc with
  | some p => d.pstate p = PS_MAPPED && d.present (dieOf p)
  | none => false

/-- The panel is this partition's source of a splice: its accepted START, COMMIT and ABORT go on to the shadow (R338). A START two
steps ahead of the last DONE ends the splice (R339). -/
def Dev.splForward (d : Dev) (j mcmd k : Nat) : Dev :=
  let pg := pgPART j
  if d.f pg PART_SPL_ROLE ≠ 2 ∨ d.f pg PART_SPL_STATE = 3 then d
  else if mcmd = 1 ∧ (d.pt j).fwd.any (fun m => m + 2 ≤ k) then d.setf pg PART_SPL_STATE 3
  else
    let d := if mcmd = 1 then d.updPt j (fun q => { q with fwd := setIns q.fwd k }) else d
    let d := if d.f pg PART_SPL_STATE = 0 then d.setf pg PART_SPL_STATE 1 else d
    d.sendMsg (d.f pg PART_SPL_TWIN) (msgWord mcmd (d.f (pgTUB 0) TUB_JOBp_JSLOT j) k)

/-! STUCK (Table 11.1). -/

/-- A partition enters STUCK; a worker reports it with the panel as unit (R330). -/
def Dev.stuck (d : Dev) (j : Nat) : Dev :=
  let d := (d.setf (pgPART j) PART_CMT_STATE P_STUCK).updPt j (fun q => { q with phase := .none })
  if d.fb (pgTUB 0) TUB_JOBp_EN j then d.faultRecord j ST_BROKEN (unitWord U_PANEL d.self) (pgPART j) else d

/-- A restore or a seed copy fails (R318, R326). -/
def Dev.setupFails (d : Dev) (j : Nat) : Dev :=
  ((d.setf (pgPART j) PART_CMT_FAILC FC_SETUP).ev (pgPART j) EV_PART_FAIL).stuck j

/-! Skein records (R317). -/

/-- Change every skein of a partition's blocks on present dies, listed or not. -/
def Dev.mapOwned (d : Dev) (j : Nat) (f : Skein → Skein) : Dev :=
  let blocks := ((d.gens.cur.own.filter (fun x => x.2 = j)).map (·.1)).filter (fun b => d.present (b / 32))
  let base := forL blocks (fun b m => SMap.set {} m b (f (SMap.get {} m b))) d.skn.base
  let sk := (d.skn.sk.map (fun e => (e.1, if blocks.contains (skBlock e.1) then f e.2 else e.2))).filter
    (fun e => e.2 ≠ SMap.get {} base (skBlock e.1))
  { d with skn := { d.skn with base := base, sk := sk } }

/-- A commit records every owned skein. -/
def Dev.skRecord (d : Dev) (j : Nat) : Dev := d.mapOwned j (fun s => { s with record := some s.rec_ })

/-- A listed skein is set to its record; waiters are evaluated again. -/
def Dev.skToRecord (d : Dev) (j id : Nat) : Dev :=
  match (d.skein id).record with
  | none => d
  | some r =>
    let x : SkSrc := { d.whorlSrc with part := j }
    let d := if r.st = .broken then (d.updSk id (fun s => { s with value := r.value })).skBreak id
      else d.skPut id (r.st = .barrier) r.value r.pm1 x
    d.updSk id (fun s => { s with mask := 0, early := 0 })

/-- What the restore makes of a skein that no command has touched since its block was last set. -/
def Dev.restBase (d : Dev) (j e : Nat) (s : Skein) : Skein :=
  match s.record with
  | none => s
  | some r =>
    let x : SkSrc := { d.whorlSrc with part := j }
    if r.st = .broken then
      if s.st = .broken then { s with value := r.value, mask := 0, early := 0 }
      else { s with st := .broken, value := r.value, mask := 0, early := 0, lastSrc := lastWord 15 ST_BROKEN d.whorlSrc, lastGt := d.gtAt e }
    else { s with st := r.st, value := r.value, pm1 := r.pm1, mask := 0, early := 0, sat := false,
                  lastSrc := lastWord SOP_SET ST_OK x, lastGt := d.gtAt e }

/-- The skein restore of a step start (R317). -/
def Dev.skRestore (d : Dev) (j : Nat) : Dev :=
  let d := d.mapOwned j (fun s => { s with record := some (s.record.getD s.rec_) })
  let ids := (d.skn.sk.filter (fun e => SMap.get 16 d.gens.cur.own (skBlock e.1) = j && d.present (e.1 / 2 ^ 24))).map (·.1)
  let blocks := ((d.gens.cur.own.filter (fun x => x.2 = j)).map (·.1)).filter (fun b => d.present (b / 32))
  let old := d.skn.base
  let base := forL blocks (fun b m => SMap.set {} m b (d.restBase j (b / 32) (SMap.get {} old b))) old
  -- listed skeins keep their own entries while the unlisted ones change
  let kept : SMap Skein := ids.map (fun id => (id, d.skein id))
  let sk := forL kept (fun e m => SMap.ins m e.1 e.2) d.skn.sk
  let d : Dev := { d with skn := { d.skn with base := base, sk := sk } }
  (forL ids (fun id d => d.skToRecord j id) d).mapSk (fun _ s => s)

/-! The start of a step (R416). -/

/-- Table 14.3: the RESULT of a request to start a step. -/
def Dev.startRule (d : Dev) (j step : Nat) (host : Bool) : Nat :=
  let pg := pgPART j
  let st := d.pst j
  let lcs := d.lcsOf j
  let testing := (d.members j).any (fun p => (d.cl p).stRun || (d.cl p).stDefer)
  let spared := d.fb pg PART_RPL_LOSSAUTO && d.fb pg PART_RPL_BUDDY && !d.fb pg PART_CMT_DEGR
  if d.f pgWHL WHL_BOOT_BSTATE ≠ 2 ∨ (host ∧ d.fb (pgTUB 0) TUB_JOBp_EN j) ∨ st = P_STUCK ∨ lcs = [] then ST_DENIED
  else if st = P_RUN ∨ st = P_DONE ∨ st = P_ABORTING ∨ st = P_RESTORING ∨ st = P_RESETTING ∨ d.fb pg PART_STEP_SUSPD ∨ testing ∨
      (d.fb pg PART_CMT_MEMLOSS ∧ st = P_ABORTED ∧ !spared) then ST_BUSY
  else if !lcs.all d.lcReady then ST_ABSENT
  else if st = P_IDLE ∧ step = d.f pg PART_CMT_LASTCMT + 1 then ST_OK
  else if st = P_ABORTED ∧ step = d.stepOf j then ST_OK
  else ST_DENIED

/-- The tables a step start latches (R119, R282, R321, R470, BUDDY, PART_ROT). -/
def Dev.latch (d : Dev) (j : Nat) : Dev :=
  let pg := pgPART j
  let idx := List.range 16
  let spr : SMap (Nat × Nat) := (idx.filter (fun i => d.fb pg PART_SPR_CTLi_VALID i)).map (fun i =>
    (i, d.f pg PART_SPR_BASEi_BASE i * 65536, d.f pg PART_SPR_CTLi_HLOG2 i))
  let buddy := d.fb pg PART_RPL_BUDDY
  let mir : SMap (Nat × Nat) := if buddy then
      (idx.filter (fun i => d.fb pg PART_MIRi_CTL_V i && d.fb pg PART_SPR_CTLi_VALID i)).map (fun i =>
        (i, d.f pg PART_MIRi_DST_LPANEL i, d.f pg PART_MIRi_DST_DBASE i * 65536))
    else []
  let dies := (d.mapped j).map dieOf
  let f := d.f pg PART_PLY_F
  let one := match dies with
    | [] => true
    | e :: t => t.all (· = e)
  let d := d.setf pg PART_PLY_ERR (b2n (one || decide (4 < f)))
  let d := d.setf pg PART_JKCTL_INUSE (d.f pg PART_JKCTL_VALID)
  d.updPt j (fun q => { q with
    spr := spr, mir := mir, buddy := buddy, rot := d.reg (pg + 0x800), k0 := d.reg (pg + 0x80), k1 := d.reg (pg + 0x88), plyF := f })

/-- R54 at one cluster: its sequencer enters RUN at `entry`, or is held in SUSPENDED (R417). -/
def Dev.seqStart (d : Dev) (p entry : Nat) (susp : Bool) : Dev :=
  if (d.cl p).seq.st ≠ .idle then d.ev (pgCLU p) EV_SEQ_OVERLAP
  else
    let gt := d.gt
    let d := d.updSeq p (fun s => { ({} : Seq) with
      st := if susp then .suspended else .run, resume := if susp then .idle else .run,
      pc := entry, slots := s.slots, last := s.last, fcode := s.fcode })
    if susp then d.updCl p (fun c => { c with park := some gt }) else d

/-- A sequencer that a step start has set to an entry beyond the store faults (Table 2.18). -/
def Dev.entryFault (d : Dev) (p : Nat) : Dev :=
  let s := (d.cl p).seq
  if s.st = .run ∧ STORE_END ≤ 16 * s.pc then d.seqFault p F_STORE_RANGE s.pc 0 else d

/-- The entry of a cluster's stream: a shadow's is its working cluster's (Table 11.6). -/
def Dev.entryOf (d : Dev) (p : Nat) : Nat := d.f (pgCLU (d.working p)) CLU_SEQ_ENTRY_ENTRY

/-- A shadow in COPY receives the working cluster's store and enters FOLLOW (R334). -/
def Dev.shadowCopy (d : Dev) (w q : Nat) : Dev :=
  let a := csKey w 0
  let b := csKey q 0
  let d := d.zero b STORE_END
  let inW (k : Nat) : Bool := decide (a ≤ k ∧ k < a + STORE_END)
  let cells := d.mem.filter (fun c => inW c.1)
  let bad := d.pois.filter inW
  let d : Dev := { d with
    mem := forL cells (fun c m => SMap.set 0 m (c.1 - a + b) c.2) d.mem,
    pois := forL bad (fun g m => setIns m (g - a + b)) d.pois }
  (d.setf (pgCLU q) CLU_SPL_STATE 2).updCl q (fun c => { c with rlog := [] })

/-- Shadows in COPY of clusters of a partition, with their working clusters. -/
def Dev.copyShadows (d : Dev) (j : Nat) : List (Nat × Nat) :=
  (List.range Config.clusters).filterMap (fun q =>
    if d.pstate q = PS_SPLICE ∧ d.f (pgCLU q) CLU_SPL_STATE = 1 then
      match d.lcPhys (d.effF (pgCLU q) CLU_SPL_TLC) with
      | some p => if d.partOf p = j ∧ d.pstate p = PS_MAPPED then some (p, q) else none
      | none => none
    else none)

/-- The work indices of a partition by physical cluster (R386). -/
def Dev.workIndex (d : Dev) (j : Nat) : List (Nat × Nat) :=
  let ps := (d.placed j).map (·.2)
  let rot := (d.pt j).rot
  let g := fld rot 55 48
  let n := ps.length
  ps.zipIdx.map (fun x =>
    let s := min g (n - x.2 / g * g)
    (x.1, x.2 / g * g + (x.2 % g + d.f (pgPART j) PART_ROT_ROT) % s))

/-- The panel writes the work indices (R386). -/
def Dev.writeIndices (d : Dev) (j : Nat) : Dev :=
  let rot := (d.pt j).rot
  if !bit rot 63 then d
  else
    forL (d.workIndex j) (fun x d =>
      let both := x.1 :: (d.shadowOf x.1).toList
      forL both (fun p d => d.store (csKey p (fld rot 24 3 * 8)) (leBytes 8 x.2)) d) d

/-- The last part of a step start: the sequencers run (R416 steps 4 to 6). -/
def Dev.startFinish (d : Dev) (j : Nat) : Dev :=
  let pg := pgPART j
  let d := d.updPt j (fun q => { q with phase := .none })
  let d := (d.setf pg PART_CMT_FAILC 0).setf pg PART_CMT_FPOIS 0
  let d := if d.fb pg PART_RPL_SKRST then d.skRestore j else d
  let d := forL (d.copyShadows j) (fun x d => d.shadowCopy x.1 x.2) d
  let d := d.writeIndices j
  let susp := d.fb pg PART_STEP_SUSPD
  -- engines in DONE or STOPPED return to IDLE (R117); running digests and UNPAIRED counts are cleared (R332, Table 4.8)
  let d := forL (d.streams j) (fun p d =>
    let d := forN 4 (fun n d =>
      let e := (d.cl p).eng n
      if e.st = .done ∨ e.st = .stopped then d.updEng p n (fun e => { e with st := .idle, desc := [] }) else d) d
    (d.setf (pgCLU p) CLU_SPR_UNPAIRED_COUNT 0).updCl p (fun c => { c with sdig := 0 })) d
  let d := forL (d.followers j) (fun q d =>
    let n := (d.cl (d.working q)).nextId
    d.updCl q (fun c => { c with nextId := n, rlog := [] })) d
  let d := forL (d.streams j) (fun p d => d.seqStart p (d.entryOf p) susp) d
  forL (d.streams j) (fun p d => d.entryFault p) d

/-- The seed copy of a replay, if any cluster needs one (R318). -/
def Dev.startSeed (d : Dev) (j : Nat) : Dev :=
  if d.f (pgPART j) PART_SEED_SLEN ≠ 0 ∧ (d.mapped j).any (fun p => (d.cl p).needSeed) then
    d.updPt j (fun q => { q with phase := .seed })
  else d.startFinish j

/-- The restore of a replay, if R326 calls for one. -/
def Dev.startRestore (d : Dev) (j : Nat) : Dev :=
  let pg := pgPART j
  let c := d.f pg PART_CMT_FAILC
  if (d.pt j).buddy ∧ !d.fb pg PART_CMT_DEGR ∧
      (d.fb pg PART_CMT_MEMLOSS ∨ c = FC_MEMLOSS ∨ (c = FC_FAULT ∧ d.fb pg PART_CMT_FPOIS)) then
    d.updPt j (fun q => { q with phase := .restore })
  else d.startSeed j

/-- An accepted start (R416). -/
def Dev.startAccept (d : Dev) (j step : Nat) : Dev :=
  let pg := pgPART j
  let replay := decide (d.pst j = P_ABORTED)
  let gt := d.gt
  let d := (d.setf pg PART_CMTST_CUR step).setf pg PART_CMT_STATE P_RUN
  let d := d.setf pg PART_PLYSTAT_ABORTREQ 0
  -- the rotation offset moves on at a first attempt (R386)
  let d := if !replay ∧ d.fb pg PART_ROT_EN ∧ (d.pt j).hotLast then d.setf pg PART_ROT_ROT ((d.f pg PART_ROT_ROT + 1) % 64) else d
  let d := d.latch j
  let hot := (d.mapped j).any (fun p => decide ((d.cl p).nhot < 16))
  let d := d.updPt j (fun q => { q with
    replay := replay, phase := .none, areaDig := 0, hot := hot, ec := 0, startGt := gt,
    attempts := if replay then q.attempts + 1 else 1, flags := if replay then q.flags else [],
    digs := q.digs.filter (fun x => x.1 ≠ step) })
  let d := d.splForward j 1 step
  if !replay then d.startFinish j
  else if d.fb (pgTUB 0) TUB_JOBp_EN j then (d.updPt j (fun q => { q with phase := .startFlip })).drainFlip j
  else d.startRestore j

/-- A request to start a step: its RESULT, and the start (R416). -/
def Dev.startStep (d : Dev) (j step : Nat) (host : Bool) : Dev :=
  let r := d.startRule j step host
  let d := d.setf (pgPART j) PART_STEP_RESULT r
  if r = ST_OK then d.startAccept j step else d

/-! Suspension (R61, R264, R417, Table 4.4, Table 10.3). -/

/-- The wait that a sequencer is in, or was suspended in, is an SKOP WAIT_GE or ACQUIRE: it parks the cluster (R268). -/
def Clu.parkWait (c : Clu) : Bool :=
  match c.units.find? (fun u => some u.id = c.seq.waitId) with
  | some u => opcOf u.w = 0x21 && (fld u.w 111 108 = 2 || fld u.w 111 108 = 3)
  | none => false

/-- A suspension of a running partition. -/
def Dev.suspend (d : Dev) (j : Nat) : Dev :=
  let pg := pgPART j
  if d.pst j ≠ P_RUN ∨ d.fb pg PART_STEP_SUSPD then d.setf pg PART_STEP_RESULT ST_BUSY
  else
    let gt := d.gt
    let d := (d.setf pg PART_STEP_SUSPD 1).setf pg PART_STEP_RESULT ST_OK
    if (d.pt j).phase ≠ .none then d
    else
      let d := forL (d.streams j) (fun p d =>
        let d := if (d.cl p).seq.st = .run ∨ (d.cl p).seq.st = .wait then
            d.updCl p (fun c => { c with
              seq := { c.seq with st := .suspended, resume := c.seq.st },
              park := some (if c.parkWait ∧ c.unitsIdle then c.park.getD gt else gt) })
          else d
        let d := forN 4 (fun n d =>
          let e := (d.cl p).eng n
          if e.st = .run ∨ e.st = .full then d.updEng p n (fun e => { e with st := .suspended, resume := e.st }) else d) d
        d.updCl p (fun c => { c with
          plys := c.plys.map (fun r => { r with due := r.due - gt }), units := c.units.map (fun u => { u with due := u.due.map (· - gt) }) })) d
      d.skSuspend j

/-- Resume: everything returns to the state it left; a start that was held is made now. -/
def Dev.resume (d : Dev) (j : Nat) : Dev :=
  let pg := pgPART j
  if !d.fb pg PART_STEP_SUSPD then d.setf pg PART_STEP_RESULT ST_BUSY
  else
    let gt := d.gt
    let d := (d.setf pg PART_STEP_SUSPD 0).setf pg PART_STEP_RESULT ST_OK
    if (d.pt j).phase ≠ .none then d
    else
      let d := forL (d.streams j) (fun p d =>
        let s := (d.cl p).seq
        if s.st ≠ .suspended then d
        else
          let d := d.unpark p
          if s.resume = .idle then ((d.updSeq p (fun s => { s with st := .idle })).seqStart p (d.entryOf p) false).entryFault p
          else d.updCl p (fun c => { c with
            seq := { c.seq with st := s.resume }, park := if c.parkWait then some gt else none })) d
      let d := forL (d.streams j) (fun p d =>
        d.updCl p (fun c => { c with
          plys := c.plys.map (fun r => { r with due := r.due + gt }), units := c.units.map (fun u => { u with due := u.due.map (· + gt) }) })) d
      let d := d.skResume j
      forL (d.streams j) (fun p d => forN 4 (fun n d =>
        let e := (d.cl p).eng n
        if e.st = .suspended then (d.updEng p n (fun e => { e with st := e.resume })).dftPump p n else d) d) d

/-- The action bits of a write of PART_STEP. -/
def Dev.stepActs (d : Dev) (j : Nat) (acts : Word) : Dev :=
  let d := if bit acts 63 then d.startStep j (d.f (pgPART j) PART_STEP_STEP) true else d
  let d := if bit acts 62 then d.suspend j else d
  if bit acts 61 then d.resume j else d

/-- A write of PART_STEP. -/
def Dev.stepWrite (d : Dev) (port j : Nat) (v : Word) : Dev :=
  d.onWrite port (pgPART j + 0x900) v (fun d a => d.stepActs j a)

/-- PART_STEP_START (R416): the host asks for a step. -/
def execPartStepStart (port j step : Nat) (s : State) : Host.Outcome State Fault Refusal :=
  s.run (decide (port < 2 ∧ j < Config.partitions ∧ step < 2 ^ 48)) (fun _ d =>
    d.stepWrite port j (BitVec.ofNat 64 (2 ^ 63 + step)))

/-- PART_SUSP (R417). -/
def execPartSusp (port j : Nat) (s : State) : Host.Outcome State Fault Refusal :=
  s.run (decide (port < 2 ∧ j < Config.partitions)) (fun _ d =>
    d.stepWrite port j (BitVec.ofNat 64 (2 ^ 62 + d.f (pgPART j) PART_STEP_STEP)))

/-- PART_RESUME (R417). -/
def execPartResume (port j : Nat) (s : State) : Host.Outcome State Fault Refusal :=
  s.run (decide (port < 2 ∧ j < Config.partitions)) (fun _ d =>
    d.stepWrite port j (BitVec.ofNat 64 (2 ^ 61 + d.f (pgPART j) PART_STEP_STEP)))

/-! Completion (R311, R332, R336, R338). -/

/-- Open ply records of a partition: PART_PLYSTAT.OPEN. -/
def Dev.plyOpen (d : Dev) (j : Nat) : Nat := (d.members j).foldl (fun a p => a + (d.cl p).plys.length) 0

/-- A transfer of a partition's clusters, mirror copies included, is outstanding. -/
def Dev.xfersOpen (d : Dev) (j : Nat) : Bool :=
  let ps := d.streams j
  d.net.xfers.any (fun x => ps.any (fun p => Own.ofCluster p x.owner) || x.owner = .mirror j)

/-- A step that runs has completed (R311). -/
def Dev.stepOver (d : Dev) (j : Nat) : Bool :=
  d.pst j = P_RUN && (d.pt j).phase = .none && !d.fb (pgPART j) PART_STEP_SUSPD &&
    (d.mapped j).all (fun p => (d.cl p).seq.st = .idle && (List.range 4).all (fun n =>
      let e := (d.cl p).eng n
      e.st = .idle || e.st = .done || e.st = .stopped)) &&
    !d.xfersOpen j && d.plyOpen j = 0 && d.f (pgPART j) PART_CMT_FAILC = 0

/-- A cluster's digest is latched. -/
def Dev.latchDig (d : Dev) (p : Nat) : Dev :=
  let x := (d.cl p).sdig
  (d.setf (pgCLU p) CLU_SDIG_LO_D (fld x 63 0)).setf (pgCLU p) CLU_SDIG_HI_D (fld x 127 64)

/-- A shadow's digest is compared with its working cluster's (R336). -/
def Dev.spliceCheck (d : Dev) (q : Nat) : Dev :=
  let pg := pgCLU q
  if (d.cl q).sdig = (d.cl (d.working q)).sdig then
    let n := sat 8 (d.f pg CLU_SPL_CLEAN + 1)
    let d := d.setf pg CLU_SPL_CLEAN n
    if d.f pg CLU_SPL_STATE = 2 ∧ max 1 (d.effF pg CLU_SPL_NEED) ≤ n then (d.setf pg CLU_SPL_STATE 3).ev pg EV_SPL_READY else d
  else ((d.setf pg CLU_SPL_CLEAN 0).addSat pg CLU_SPL_MISS).ev pg EV_SPL_MISS

/-- STEP_COMPLETE (R311): the step in RUN is complete. -/
def execStepComplete (j : Nat) (s : State) : Host.Outcome State Fault Refusal :=
  s.run (decide (j < Config.partitions)) (fun _ d =>
    if !d.stepOver j then d
    else
      let pg := pgPART j
      let k := d.stepOf j
      let x := (d.mapped j).foldl (fun a p => a + (d.cl p).sdig) (d.pt j).areaDig
      let d := forL (d.streams j) (fun p d => d.latchDig p) d
      let d := (d.setf pg PART_SDIG_LO_D (fld x 63 0)).setf pg PART_SDIG_HI_D (fld x 127 64)
      let d := forL (d.followers j) (fun q d => d.spliceCheck q) d
      let gt := d.gt
      let src := d.f pg PART_SPL_ROLE = 2 ∧ d.f pg PART_SPL_STATE ≠ 3
      let d := d.updPt j (fun q => { q with endGt := gt, digs := if src then q.digs ++ [(k, x)] else q.digs })
      let d := (d.setf pg PART_CMT_STATE P_DONE).ev pg EV_PART_STEPDONE
      if d.panelShadow j then
        d.request d.wdEp 0 (.splrec j k) T_WR 15 0 true false none
          [{ addr := d.f pg PART_SPLREC_ADDR * 64, len := 32,
             data := leBytes 8 k ++ leBytes 8 0 ++ leBytes 16 x.toNat, tag := some (d.f (pgTUB 0) TUB_JOBp_TAG j) }]
      else if d.fb (pgTUB 0) TUB_JOBp_EN j then d.report j 2 k
      else d)

/-- The first own digest that the record in memory answers: its step is committed, or done and not aborted (R339). -/
def Dev.splMatch (d : Dev) (j : Nat) (step : Nat) : Option (Nat × BitVec 128) :=
  (d.pt j).digs.find? (fun x => x.1 = step && (decide (step ≤ d.f (pgPART j) PART_CMT_LASTCMT) || d.pst j = P_DONE))

/-- SPLICE_RECORD_COMPARE (R339): the record that the shadow panel wrote is compared with the own digest of its step. -/
def execSpliceRecordCompare (j : Nat) (s : State) : Host.Outcome State Fault Refusal :=
  s.run (decide (j < Config.partitions)) (fun _ d =>
    let pg := pgPART j
    if d.f pg PART_SPL_ROLE ≠ 2 ∨ d.f pg PART_SPL_STATE = 0 ∨ d.f pg PART_SPL_STATE = 3 then d
    else match d.resolve (d.f pg PART_SPLREC_ADDR * 64) with
      | .t2 p z =>
        let bs := d.bytes (t2Key p z) 32
        match d.splMatch j (leNat (bs.take 8)) with
        | none => d
        | some (k, x) =>
          let d := d.updPt j (fun q => { q with digs := q.digs.filter (fun y => y.1 ≠ k) })
          if leNat (bs.drop 16) = x.toNat then
            let n := sat 8 (d.f pg PART_SPL_CLEAN + 1)
            let d := d.setf pg PART_SPL_CLEAN n
            if d.f pg PART_SPL_STATE = 1 ∧ max 1 (d.f pg PART_SPL_NEED) ≤ n then
              (d.setf pg PART_SPL_STATE 2).ev pg EV_PART_SPLICE
            else d
          else (d.setf pg PART_SPL_CLEAN 0).addSat pg PART_SPL_MISS
      | _ => d)

/-! Commit (R312, R317, R390). -/

/-- The step energy record (Table 13.5). -/
def Dev.energyWords (d : Dev) (j : Nat) : List Word :=
  let q := d.pt j
  [BitVec.ofNat 64 (d.stepOf j + min q.attempts 255 * 2 ^ 48), BitVec.ofNat 64 q.ec, BitVec.ofNat 64 q.et,
    BitVec.ofNat 64 (q.endGt - q.startGt)]

/-- The energy record is written at a commit (R390). -/
def Dev.writeEnergy (d : Dev) (j : Nat) : Dev :=
  let pg := pgPART j
  let ws := d.energyWords j
  let d := forN 4 (fun i d => d.setReg (pg + 0x810 + 8 * i) (ws.getD i 0)) d
  let a := d.f pg PART_ENR_ADDR * 32
  if a = 0 then d
  else
    d.request d.wdEp 0 (.energy j) T_WR 15 0 true false none
      [{ addr := a + 32 * (d.f pg PART_CMT_LASTCMT % (d.f pg PART_ENR_NM1 + 1)), len := 32,
         data := (ws.map (fun w => leBytes 8 w.toNat)).flatten }]

/-- A control write or message that is discarded, and one that is accepted (PART_CMT.ERR). -/
def Dev.cmtErr (d : Dev) (j : Nat) (b : Bool) : Dev := d.setf (pgPART j) PART_CMT_ERR (b2n b)

/-- A commit of step k is requested (R312). -/
def Dev.commitStep (d : Dev) (j k : Nat) : Dev :=
  let pg := pgPART j
  if d.pst j = P_DONE ∧ k = d.stepOf j ∧ !d.fb pg PART_PLYSTAT_ABORTREQ then
    let d := ((d.setf pg PART_CMT_LASTCMT k).setf pg PART_CMTST_RPLN 0).setf pg PART_CMT_STATE P_IDLE
    let d := (((d.cmtErr j false).skRecord j).writeEnergy j).splForward j 3 k
    let d := forL (d.members j) (fun p d => d.updCl p (fun c => { c with needSeed := false })) d
    d.updPt j (fun q => { q with hotLast := q.hot, et := 0, flags := [] })
  else d.cmtErr j true

/-! Abort (R313, R314). -/

/-- An abort of step k is requested. -/
def Dev.abortStep (d : Dev) (j k : Nat) : Dev :=
  let st := d.pst j
  if st = P_ABORTING ∨ st = P_ABORTED ∨ st = P_STUCK ∨ st = P_RESETTING then
    if st = P_RESETTING ∨ k = d.stepOf j then d else d.cmtErr j true
  else if (st = P_RUN ∨ st = P_DONE) ∧ k = d.stepOf j then
    ((d.cmtErr j false).stepFail j FC_ABORT false (unitWord U_PANEL d.self) (pgPART j)).splForward j 4 k
  else d.cmtErr j true

/-- An abort is over (R314 step 5). -/
def Dev.abortDone (d : Dev) (j : Nat) : Dev :=
  let pg := pgPART j
  let n := sat 4 (d.f pg PART_CMTST_RPLN + 1)
  let d := (d.setf pg PART_CMTST_RPLN n).updPt j (fun q => { q with phase := .none })
  if max 1 (d.f pg PART_RPL_MAXRPL) ≤ n then d.stuck j else d.setf pg PART_CMT_STATE P_ABORTED

/-- The cluster the panel picks for a logical cluster (R329). -/
def Dev.swapChoice (d : Dev) (lc : Nat) (taken : List Nat) : Option Nat :=
  let die := match d.lcPhys lc with
    | some p => dieOf p
    | none => 0
  let ps := (List.range Config.clusters).filter (fun p => !taken.contains p && d.present (dieOf p))
  let ready := ps.find? (fun p => d.pstate p = PS_SPLICE && d.f (pgCLU p) CLU_SPL_STATE = 3 && d.effF (pgCLU p) CLU_SPL_TLC = lc)
  let spare := ps.filter (fun p => d.pstate p = PS_SPARE)
  let best := spare.foldl (fun (a : Option Nat) p => match a with
    | none => some p
    | some q => if dieDist (dieOf p) die < dieDist (dieOf q) die then some p else some q) none
  ready.or best

/-- The logical clusters of a partition that AUTOSWAP moves, each with the cluster picked. -/
def Dev.autoSwaps (d : Dev) (j : Nat) : List (Nat × Option Nat) :=
  ((d.lcsOf j).filter (fun lc => (d.lcPhys lc).isSome && !d.lcReady lc)).foldl (fun (l : List (Nat × Option Nat)) lc =>
    l ++ [(lc, d.swapChoice lc (l.filterMap (·.2)))]) []

/-- The panel's own swaps of an abort with cause UNIT (R329). -/
def Dev.autoSwap (d : Dev) (j : Nat) : Dev :=
  let ws := d.autoSwaps j
  let d := if ws.any (fun x => x.2.isNone) then d.ev (pgPART j) EV_PART_FAIL else d
  let go := ws.filterMap (fun x => x.2.map (fun p => (x.1, p)))
  if go = [] then d
  else
    let g := go.foldl (fun (g : Gen) x => g.swapIn x.1 x.2) d.curGen
    let (ok, d) := d.panelCommit g 1 none
    if ok then d else d.ev (pgPART j) EV_PART_FAIL

/-- A transfer the partition issued is outstanding (R314 step 3). -/
def Dev.partXfers (d : Dev) (j : Nat) : Bool :=
  let ps := d.members j ++ d.followers j
  d.net.xfers.any (fun x => ps.any (fun p => Own.ofCluster p x.owner) || x.owner = .mirror j || x.part = j)

/-- ABORT_DRAIN_END (R314): the last transfer of the aborted attempt is over. Swaps of the panel's own wait for a commit or a flip
that runs. -/
def execAbortDrainEnd (j : Nat) (s : State) : Host.Outcome State Fault Refusal :=
  s.run (decide (j < Config.partitions)) (fun _ d =>
    let pg := pgPART j
    if d.pst j ≠ P_ABORTING ∨ (d.pt j).phase ≠ .abort ∨ d.partXfers j then d
    else if d.fb (pgTUB 0) TUB_JOBp_EN j then d.abortDone j
    else
      let swap := d.fb pg PART_RPL_AUTOSWAP && d.f pg PART_CMT_FAILC = FC_UNIT
      if swap && d.genBusy then d
      else ((if swap then d.autoSwap j else d).updPt j (fun q => { q with phase := .abortFlip })).drainFlip j)

/-! PART_CMT. -/

/-- RESTORE is written (R326): in ABORTED it begins; with DEGR set it fails (R323). -/
def Dev.hostRestore (d : Dev) (j : Nat) : Dev :=
  if d.pst j ≠ P_ABORTED then d.cmtErr j true
  else
    let d := d.cmtErr j false
    if d.fb (pgPART j) PART_CMT_DEGR then d.setupFails j
    else (d.setf (pgPART j) PART_CMT_STATE P_RESTORING).updPt j (fun q => { q with phase := .hostRestore })

/-- The action bits of a write of PART_CMT. -/
def Dev.cmtActs (d : Dev) (j : Nat) (acts : Word) : Dev :=
  let d := if bit acts 62 then d.commitStep j (d.stepOf j) else d
  let d := if bit acts 61 then d.abortStep j (d.stepOf j) else d
  let d := if bit acts 60 then (d.setf (pgPART j) PART_CMT_MEMLOSS 0).cmtErr j false else d
  if bit acts 59 then d.hostRestore j else d

/-- A write of PART_CMT: LASTCMT is writable only in IDLE (Table 11.9). -/
def Dev.cmtWrite (d : Dev) (port j : Nat) (v : Word) : Dev :=
  let v := if d.pst j = P_IDLE then v else setFld v 47 0 (d.f (pgPART j) PART_CMT_LASTCMT)
  d.onWrite port (pgPART j + 0x610) v (fun d a => d.cmtActs j a)

/-- A word for PART_CMT that sets one action bit and changes nothing else. -/
def Dev.cmtWord (d : Dev) (j b : Nat) : Word := BitVec.ofNat 64 (2 ^ b + d.f (pgPART j) PART_CMT_LASTCMT)

/-- PART_COMMIT (R312). -/
def execPartCommit (port j : Nat) (s : State) : Host.Outcome State Fault Refusal :=
  s.run (decide (port < 2 ∧ j < Config.partitions)) (fun _ d => d.cmtWrite port j (d.cmtWord j 62))

/-- PART_ABORT (R313). -/
def execPartAbort (port j : Nat) (s : State) : Host.Outcome State Fault Refusal :=
  s.run (decide (port < 2 ∧ j < Config.partitions)) (fun _ d => d.cmtWrite port j (d.cmtWord j 61))

/-- PART_ACKLOSS (R327). -/
def execPartAckloss (port j : Nat) (s : State) : Host.Outcome State Fault Refusal :=
  s.run (decide (port < 2 ∧ j < Config.partitions)) (fun _ d => d.cmtWrite port j (d.cmtWord j 60))

/-- PART_RESTORE (R326). -/
def execPartRestore (port j : Nat) (s : State) : Host.Outcome State Fault Refusal :=
  s.run (decide (port < 2 ∧ j < Config.partitions)) (fun _ d => d.cmtWrite port j (d.cmtWord j 59))

/-! Seed copy and restore (R318, R325, R326). -/

/-- The key of a line of tier 1 or tier 2; none: no memory, a hole, or an absent die. -/
def Dev.lineAtAddr (d : Dev) (a : Nat) : Option Nat :=
  match d.resolve a with
  | .t1 m y => if d.present (112 + m) && !d.t1Hole m y then some (t1Key m y) else none
  | .t2 p z => if d.present (168 + p / 4) && !d.t2Hole p then some (t2Key p z) else none
  | _ => none

/-- Copy `n` lines from a local address into a cluster's store, poison included; whether every read completed. -/
def Dev.copyImage (d : Dev) (a p n : Nat) : Bool × Dev :=
  forN n (fun i (x : Bool × Dev) =>
    match x.2.lineAtAddr (a + 64 * i) with
    | none => (false, x.2)
    | some k => (x.1, x.2.store (csKey p (64 * i)) (x.2.bytes k 64) (if x.2.isPois k then List.range 64 else []))) (true, d)

/-- The seed copies of a partition's clusters that need one; whether they all completed. -/
def Dev.seedAll (d : Dev) (j : Nat) : Bool × Dev :=
  let pg := pgPART j
  let n := min 384 (d.f pg PART_SEED_SLEN) * 65536
  ((d.mapped j).filter (fun p => (d.cl p).needSeed)).foldl (fun (x : Bool × Dev) p =>
    let (ok, d') := (x.2.zero (csKey p 0) STORE_END).copyImage (d.f pg PART_SEED_BASE * 65536 + d.lcOf p * n) p (n / 64)
    (x.1 && ok, d')) (true, d)

/-- SEED_COPY_DONE (R318): the copies are over; `status` is the worst completion of their reads beside what the image's place
itself gives. -/
def execSeedCopyDone (j status : Nat) (s : State) : Host.Outcome State Fault Refusal :=
  s.run (decide (j < Config.partitions ∧ status < 16)) (fun _ d =>
    if d.pst j ≠ P_RUN ∨ (d.pt j).phase ≠ .seed then d
    else
      let (ok, d) := d.seedAll j
      if ok ∧ (status = ST_OK ∨ status = ST_POISONED) then d.startFinish j else d.setupFails j)

/-- The local halves that a restore writes: base and length, the previous halves of the step (R325). -/
def Dev.restoreHalves (d : Dev) (j : Nat) : List (Nat × Nat) :=
  let q := d.pt j
  q.mir.map (fun m =>
    let e := SMap.get (0, 0) q.spr m.1
    (e.1 + 2 ^ e.2 * (1 - d.parity j), 2 ^ e.2))

/-- One line of a restore: 64 bytes from the buddy, poisoned or not. -/
def Dev.restoreLine (d : Dev) (a : Nat) (bs : List Byte) (bad : Bool) : Bool × Dev :=
  match d.lineAtAddr (a % 2 ^ 52) with
  | none => (false, d)
  | some k => (true, d.store k ((bs ++ List.replicate 64 0).take 64) (if bad then List.range 64 else []))

/-- RESTORE_DONE (R325, R326): the restore is over with the worst status of its reads and writes. `lines` are the buddy's lines that
are not zero and clean, by the local address they are copied to; every other line of the halves is zero. A restore that failed
has copied the lines listed. -/
def execRestoreDone (j status : Nat) (lines : List (Nat × List Byte × Bool)) (s : State) : Host.Outcome State Fault Refusal :=
  s.run (decide (j < Config.partitions ∧ status < 16)) (fun _ d =>
    let pg := pgPART j
    let ph := (d.pt j).phase
    if ph ≠ .restore ∧ ph ≠ .hostRestore then d
    else
      let halves := d.restoreHalves j
      let mine := lines.filter (fun l => halves.any (fun h => decide (h.1 ≤ l.1 ∧ l.1 < h.1 + h.2 ∧ l.1 % 64 = 0)))
      let good := decide (status = ST_OK ∨ status = ST_POISONED)
      let zeros := if good then halves.flatMap (fun h => (List.range (h.2 / 64)).map (fun i => h.1 + 64 * i)) else []
      let (ok, d) := zeros.foldl (fun (x : Bool × Dev) a =>
        let (o, d) := x.2.restoreLine a [] false
        (x.1 && o, d)) (good, d)
      let (ok, d) := mine.foldl (fun (x : Bool × Dev) l =>
        let (o, d) := x.2.restoreLine l.1 l.2.1 l.2.2
        (x.1 && o, d)) (ok, d)
      if !ok then d.setupFails j
      else
        let d := if d.fb pg PART_RPL_LOSSAUTO && d.fb pg PART_RPL_BUDDY then d.setf pg PART_CMT_MEMLOSS 0 else d
        if ph = .restore then d.startSeed j
        else (d.setf pg PART_CMT_STATE P_ABORTED).updPt j (fun q => { q with phase := .none }))

/-! Tables with a validity bit (R119, R321, R400). -/

/-- A parity entry written with VALID 1 is valid (R119). -/
def Dev.sprGood (d : Dev) (j i : Nat) : Bool :=
  let pg := pgPART j
  let b := d.f pg PART_SPR_BASEi_BASE i * 65536
  let h := 2 ^ d.f pg PART_SPR_CTLi_HLOG2 i
  let lg := d.f pg PART_SPR_CTLi_HLOG2 i
  let a := b % 2 ^ 52
  decide (16 ≤ lg ∧ lg ≤ 40) && decide (b % (2 * h) = 0) && tierRange a (2 * h) &&
    (List.range 16).all (fun k => k = i || !d.fb pg PART_SPR_CTLi_VALID k ||
      (let b' := d.f pg PART_SPR_BASEi_BASE k * 65536
       let h' := 2 ^ d.f pg PART_SPR_CTLi_HLOG2 k
       decide (b + 2 * h ≤ b' ∨ b' + 2 * h' ≤ b)))

/-- A write of PART_SPR_CTLi. -/
def Dev.sprWrite (d : Dev) (port j i : Nat) (v : Word) : Dev :=
  let pg := pgPART j
  d.onWrite port (pg + 0x408 + 16 * i) v (fun d _ =>
    if d.fb pg PART_SPR_CTLi_VALID i ∧ !d.sprGood j i then (d.setf pg PART_SPR_CTLi_VALID 0 i).setf pg PART_SPR_CTLi_ERR 1 i
    else if d.fb pg PART_SPR_CTLi_VALID i then d.setf pg PART_SPR_CTLi_ERR 0 i
    else d)

/-- PART_SPR_CTL_WRITE (R119). -/
def execPartSprCtlWrite (port j i : Nat) (v : Word) (s : State) : Host.Outcome State Fault Refusal :=
  s.run (decide (port < 2 ∧ j < Config.partitions ∧ i < 16)) (fun _ d => d.sprWrite port j i v)

/-- A mirror entry written with V 1 is valid (R321). -/
def Dev.mirGood (d : Dev) (j i : Nat) : Bool :=
  let pg := pgPART j
  let h := 2 ^ d.f pg PART_SPR_CTLi_HLOG2 i
  let lp := d.f pg PART_MIRi_DST_LPANEL i
  d.fb pg PART_SPR_CTLi_VALID i && decide (d.f pg PART_MIRi_DST_DBASE i * 65536 % (2 * h) = 0) && decide (lp ≠ 0) &&
    (match d.pmap lp with
    | some q => q != d.self
    | none => false)

/-- A write of PART_MIRi_CTL. -/
def Dev.mirWrite (d : Dev) (port j i : Nat) (v : Word) : Dev :=
  let pg := pgPART j
  d.onWrite port (pg + 0x708 + 16 * i) v (fun d _ =>
    if d.fb pg PART_MIRi_CTL_V i ∧ !d.mirGood j i then (d.setf pg PART_MIRi_CTL_V 0 i).setf pg PART_MIRi_CTL_ERR 1 i
    else d.setf pg PART_MIRi_CTL_ERR 0 i)

/-- PART_MIR_CTL_WRITE (R321). -/
def execPartMirCtlWrite (port j i : Nat) (v : Word) (s : State) : Host.Outcome State Fault Refusal :=
  s.run (decide (port < 2 ∧ j < Config.partitions ∧ i < 16)) (fun _ d => d.mirWrite port j i v)

/-- A write of PART_ROT (R400). -/
def Dev.rotWrite (d : Dev) (port j : Nat) (v : Word) : Dev :=
  let pg := pgPART j
  d.onWrite port (pg + 0x800) v (fun d _ =>
    let g := d.f pg PART_ROT_GSIZE
    if d.fb pg PART_ROT_EN ∧ (g < 2 ∨ 64 < g ∨ 0x17FFFF8 < d.f pg PART_ROT_OFS * 8) then
      (d.setf pg PART_ROT_EN 0).setf pg PART_ROT_ERR 1
    else d.setf pg PART_ROT_ERR 0)

/-- PART_ROT_WRITE (R400). -/
def execPartRotWrite (port j : Nat) (v : Word) (s : State) : Host.Outcome State Fault Refusal :=
  s.run (decide (port < 2 ∧ j < Config.partitions)) (fun _ d => d.rotWrite port j v)

/-! The end of an epoch flip (R151, R428). -/

/-- The drain flip of a partition is over: what waited for it goes on. -/
def Dev.drainDone (d : Dev) (j : Nat) : Dev :=
  match (d.pt j).phase with
  | .abortFlip => d.abortDone j
  | .startFlip => d.startRestore j
  | .resetFlip => d.updPt j (fun q => { q with phase := .none })
  | _ => d

/-- The commit of the current generation is complete (R428 step 7, R444, R499). -/
def Dev.genDone (d : Dev) (old : Gen) (kind : Nat) (swap : Option (Nat × Nat)) : Dev :=
  let g := d.gens.cur
  let d : Dev := { d with gens := { d.gens with prev := some old } }
  let d := ((d.setf pgWHL WHL_GENNUM_CUR g.num).setf pgWHL WHL_GENNUM_PREV old.num).setf pgWHL WHL_GENCTL_STATE 0
  let d := (d.logAppend 3 kind g.num 0 g.hash).ev pgWHL EV_GEN_COMMIT
  let d := d.remapHoles
  let d := if d.f pgWHL WHL_BOOT_BSTEP = 7 then (d.setf pgWHL WHL_BOOT_BSTEP 8).ev pgWHL EV_BOOT_STEP else d
  match swap with
  | some (j, _) => d.report j 0x0E 7
  | none => d

/-- The drain check has passed (R151 step 4). -/
def Dev.flipDone (d : Dev) : Dev :=
  let d := ((d.setf pgWHL WHL_RTEPOCH_STATE 0).addWrap pgWHL WHL_RTEPOCH_FLIPS).setLive true
  let d := d.ev pgWHL EV_RT_FLIPDONE
  let job := d.gens.job
  let d : Dev := { d with gens := { d.gens with job := none } }
  let d := match job with
    | some (.commit old kind swap) => d.genDone old kind swap
    | some (.drain j) => d.drainDone j
    | none => d
  d.distChange.pumpFlips

/-- Sweep 1 of the drain check: COUNT of epoch `ep` at every present die, whose TOUCH is cleared (R151). -/
def Dev.sweepOne (d : Dev) (ep : Nat) : List Nat × Dev :=
  let eps := (List.range Config.endpoints).filter d.present
  (eps.map (fun e => d.residue e ep),
    d.updNet (fun n => { n with touch := n.touch.filter (fun t => !(decide (t % 2 = ep) && eps.contains (t / 2))) }))

/-- Sweep 2: COUNT and TOUCH of epoch `ep` at every present die. -/
def Dev.sweepTwo (d : Dev) (ep : Nat) : List (Nat × Bool) :=
  ((List.range Config.endpoints).filter d.present).map (fun e => (d.residue e ep, d.net.touch.contains (2 * e + ep)))

/-- EPOCH_DRAIN_SWEEP (R151): one pass of the drain check, both its sweeps; the flip ends when it finds every count zero and no
die touched (log entry 66). -/
def execEpochDrainSweep (s : State) : Host.Outcome State Fault Refusal :=
  s.run true (fun _ d =>
    if d.f pgWHL WHL_RTEPOCH_STATE ≠ 2 then d
    else
      let old := d.f pgWHL WHL_RTEPOCH_OLD
      let (c1, d) := d.sweepOne old
      let x2 := d.sweepTwo old
      if c1.all (· = 0) && x2.all (fun x => x.1 = 0 && !x.2) then d.flipDone else d)

end Sys2Proof.Machine
end

