-- ==== Sys2Proof/Machine/Manager.lean ====
section
/-!
DEFINITION. Manager messages (R238 to R245, R306, R330, R340): what a worker, a manager, a standby and the lead do with each,
the manager's course through a job's steps, and messages that get no reply.
-/

namespace Sys2Proof.Machine

/-! The roster (R242). -/

/-- A manager slot. -/
def Dev.mg (d : Dev) (n : Nat) : Mgr := SMap.get {} d.mgrs n
/-- Change a manager slot. -/
def Dev.updMg (d : Dev) (n : Nat) (f : Mgr → Mgr) : Dev := { d with mgrs := SMap.upd {} d.mgrs n f }
/-- The page of a manager slot. -/
def pgMGR (n : Nat) : Nat := pgTUB (64 + n)

/-- A word of a slot's own tier 2. -/
def Dev.tier2Word (d : Dev) (a : Nat) : Word :=
  match d.resolve a with
  | .t2 p z => d.word64 (t2Key p z)
  | _ => 0

/-- Roster entry i of a slot. -/
def Dev.roster (d : Dev) (n i : Nat) : Word := d.tier2Word (d.f (pgMGR n) TUB_MGR_ROSTER_ADDR * 64 + 8 * i)
/-- Its logical panel number. -/
def Dev.rosterL (d : Dev) (n i : Nat) : Nat := fld (d.roster n i) 59 48
/-- Its physical panel through the active PMAP. -/
def Dev.rosterPanel (d : Dev) (n i : Nat) : Option Nat :=
  let l := d.rosterL n i
  if l = 0 then some d.self else d.pmapRaw l
/-- Valid entries. -/
def Dev.rosterAll (d : Dev) (n : Nat) : List Nat :=
  (List.range (d.f (pgMGR n) TUB_MGR_ROSTER_NM1 + 1)).filter (fun i => bit (d.roster n i) 63)
/-- Entries that take part: not spare, not lost for good. -/
def Dev.workers (d : Dev) (n : Nat) : List Nat :=
  (d.rosterAll n).filter (fun i => !bit (d.roster n i) 62 && !(d.mg n).gone.contains i)
/-- Spare entries left, in roster order. -/
def Dev.spareEntries (d : Dev) (n : Nat) : List Nat :=
  (d.rosterAll n).filter (fun i => bit (d.roster n i) 62 && !(d.mg n).used.contains i)

/-- Send a message of a slot to a panel. -/
def Dev.mgrSend (d : Dev) (n panel mcmd arg : Nat) : Dev := d.sendMsg panel (msgWord mcmd n arg)
/-- Send a message to the panels of some entries. -/
def Dev.mgrSendAll (d : Dev) (n : Nat) (es : List Nat) (mcmd arg : Nat) : Dev :=
  forL es (fun i d => match d.rosterPanel n i with
    | some q => d.mgrSend n q mcmd arg
    | none => d) d

/-- MSTATE of a slot. -/
def Dev.mst (d : Dev) (n : Nat) : Nat := d.f (pgMGR n) TUB_MGR_STATUS_MSTATE
/-- Set it. -/
def Dev.setMst (d : Dev) (n v : Nat) : Dev := d.setf (pgMGR n) TUB_MGR_STATUS_MSTATE v
/-- Last committed step of a slot. -/
def Dev.mstep (d : Dev) (n : Nat) : Nat := d.f (pgMGR n) TUB_MGR_STATUS_STEP

/-- A list without its first element that meets a test. -/
def dropFirst (f : Nat → Bool) : List Nat → List Nat
  | [] => []
  | a :: t => if f a then t else a :: dropFirst f t

/-! The manager's course (R244, R245, R330). -/

/-- START k to every worker. -/
def Dev.mgrStart (d : Dev) (n : Nat) : Dev :=
  let ws := d.workers n
  let d := (d.setMst n 1).updMg n (fun m => { m with phase := .start, left := ws, done := [], fault := [] })
  d.mgrSendAll n ws 1 (d.mstep n + 1)

/-- COMMIT k to every worker. -/
def Dev.mgrCommit (d : Dev) (n : Nat) : Dev :=
  let ws := d.workers n
  let d := d.updMg n (fun m => { m with phase := .commit, left := ws })
  d.mgrSendAll n ws 3 (d.mstep n + 1)

/-- FENCE, SWAP, TAKEOVER of a shadow and at least one REMAP are sent (R330 step 2, R340). -/
def Dev.mgrRepair (d : Dev) (n : Nat) : Dev :=
  let m := d.mg n
  let d := (d.setMst n 2).updMg n (fun m => { m with phase := .repair, left := [] })
  let units := m.repl.filterMap (fun r => (d.rosterPanel n r.1).map (fun q => (q, r.2.1, r.2.2)))
  let d := forL units (fun u d => (d.mgrSend n u.1 6 u.2.1).mgrSend n u.1 7 (u.2.2 * 2 ^ 16 + 0x3FF)) d
  let same := match (d.workers n).find? (fun i => d.rosterL n i ≠ 0) with
    | some i => ((d.rosterPanel n i).map (fun q => (d.rosterL n i, q))).toList
    | none => []
  let moves := if m.moves = [] then same else m.moves
  let d := d.updMg n (fun m => { m with acks := m.acks + 2 * units.length, awaited := moves.map (·.1), repl := [], moves := [] })
  forL moves (fun x d => d.mgrSend n (d.f (pgTUB 0) TUB_DOMAIN_LEAD) 0x0C (x.1 * 2 ^ 12 + x.2)) d

/-- Between steps: repair what was lost meanwhile, stop, or start the next step below LIMIT. -/
def Dev.mgrNext (d : Dev) (n : Nat) : Dev :=
  let m := d.mg n
  if m.moves ≠ [] then d.mgrRepair n
  else
    let d := (d.setMst n 1).updMg n (fun m => { m with phase := .rest, left := [] })
    if m.stop then (d.setMst n 5).updMg n (fun m => { m with stop := false })
    else if d.mstep n + 1 < d.f (pgMGR n) TUB_MGR_STEP_LIMIT then d.mgrStart n
    else d

/-- Restarts of one step before the job stops (R330). -/
def Dev.mgrMax (d : Dev) (n : Nat) : Nat :=
  let p := d.f (pgMGR n) TUB_MGR_CTL_PART
  if p = 15 then 3 else max 1 (d.f (pgPART p) PART_RPL_MAXRPL)

/-- Nothing more is awaited in a repair: the step is started again, or the next one. -/
def Dev.repairCheck (d : Dev) (n : Nat) : Dev :=
  let m := d.mg n
  if m.phase ≠ .repair ∨ m.acks ≠ 0 ∨ m.awaited ≠ [] then d
  else if m.replays = 0 then d.mgrNext n
  else d.mgrStart n

/-- The step in progress is aborted on every worker (R330 step 1), or the job stops. -/
def Dev.mgrRecover (d : Dev) (n : Nat) : Dev :=
  if d.mgrMax n ≤ (d.mg n).replays then (d.setMst n 5).updMg n (fun m => { m with phase := .rest, left := [] })
  else
    let lost := (d.mg n).moves.map (·.1)
    let ws := (d.workers n).filter (fun i => !lost.contains (d.rosterL n i))
    let d := (d.setMst n 2).updMg n (fun m => { m with phase := .abort, left := ws, replays := m.replays + 1 })
    let d := d.mgrSendAll n ws 4 (d.mstep n + 1)
    if ws = [] then d.mgrRepair n else d

/-- The takeover is made (R245 steps 3 and 4): COMMIT or ABORT of the next step, then NEWSTBY, and MSTATE reads RUN; a job that stops
there stays STOPPED. -/
def Dev.mgrResolve (d : Dev) (n : Nat) : Dev :=
  let m := d.mg n
  let s := d.f (pgMGR n) TUB_MGR_CTL_STBY
  let d := (d.setMst n 1).updMg n (fun m => { m with last := [] })
  let d := if m.moves = [] ∧ (d.workers n).all m.done.contains then d.mgrCommit n else d.mgrRecover n
  let d := if s = 0xFFF ∨ s = d.self then d else d.mgrSendAll n (d.workers n) 0x0B s
  if d.mst n = 5 then d else d.setMst n 1

/-- Every worker has answered TAKEOVER: those behind the largest step commit it (R245 step 2). -/
def Dev.mgrCatch (d : Dev) (n : Nat) : Dev :=
  let m := d.mg n
  let c := m.last.foldl (fun a x => max a x.2) (d.mstep n)
  let behind := (m.last.filter (fun x => x.2 < c)).map (·.1)
  -- DONE for the step after c counts only when c is the step the standby knew of
  let done := if c = d.mstep n then m.done else []
  let d := (d.setf (pgMGR n) TUB_MGR_STATUS_STEP c).updMg n (fun m => { m with phase := .catchup, left := behind, done := done })
  let d := d.mgrSendAll n behind 3 c
  if behind = [] then d.mgrResolve n else d

/-- No acknowledgement is awaited any more. -/
def Dev.ackCheck (d : Dev) (n : Nat) : Dev :=
  let m := d.mg n
  if m.left ≠ [] then d
  else match m.phase with
    | .commit =>
      ((d.setf (pgMGR n) TUB_MGR_STATUS_STEP (d.mstep n + 1)).updMg n (fun m => { m with replays := 0, done := [], fault := [] })).mgrNext n
    | .abort => d.mgrRepair n
    | .take => d.mgrCatch n
    | .catchup => d.mgrResolve n
    | _ => d

/-- Every worker has sent DONE: the step is committed. -/
def Dev.doneCheck (d : Dev) (n : Nat) : Dev :=
  let m := d.mg n
  if m.phase = .start ∧ (d.workers n).all m.done.contains then d.mgrCommit n else d

/-- The standby takes over when every worker but those on the old manager's panel is at the boundary (R245). -/
def Dev.takeCheck (d : Dev) (n : Nat) : Dev :=
  let m := d.mg n
  let ws := d.workers n
  if m.phase = .wait ∧ ws.all (fun i => d.rosterPanel n i = some m.old || m.done.contains i || m.fault.contains i) then
    (d.updMg n (fun m => { m with phase := .take, left := ws, last := [] })).mgrSendAll n ws 0x0A (d.mstep n)
  else d

/-- The index of a panel's score in a slot's roster. -/
def panIdx (n panel : Nat) : Nat := n * 4096 + panel

/-- The expulsion brake of panels (R306). -/
def Dev.panelBrake (d : Dev) (n : Nat) : Bool :=
  decide ((d.spareEntries n).length < d.f pgWHL WHL_SLUBCTL_PRSV) ||
    (d.f pgWHL WHL_SLUBCTL_PCAP != 0 && decide (d.f pgWHL WHL_SLUBCTL_PCAP ≤ (d.slub.panelRets.filter (fun x => x.1 = n)).length))

/-- An entry's panel is to be replaced: by its READY shadow, or by the next spare entry (R242, R330, R340). With neither, the
entry is gone and the job stops. -/
def Dev.replace (d : Dev) (n i : Nat) (shadow : Option Nat) : Dev :=
  let l := d.rosterL n i
  match shadow with
  | some q =>
    (d.updMg n (fun m => { m with moves := m.moves ++ [(l, q)], acks := m.acks + 1 })).mgrSend n q 0x0A (d.mstep n)
  | none =>
    match (d.spareEntries n).findSome? (fun e => (d.rosterPanel n e).map (fun q => (e, q))) with
    | some (e, q) => d.updMg n (fun m => { m with moves := m.moves ++ [(l, q)], used := setIns m.used e })
    | none => (d.updMg n (fun m => { m with gone := setIns m.gone i, phase := .rest, left := [] })).setMst n 5

/-- The workers of a slot that run on a panel and are not being replaced. -/
def Dev.onPanel (d : Dev) (n panel : Nat) : List Nat :=
  (d.workers n).filter (fun i => d.rosterPanel n i = some panel && !((d.mg n).moves.any (fun x => x.1 = d.rosterL n i)))

/-- A panel's score is evaluated: at RETIRE the panel is replaced, or is put on probation under the brake (R303, R306). -/
def Dev.panelEval (d : Dev) (n panel : Nat) : Dev :=
  let idx := panIdx n panel
  let s := (d.score U_PANEL idx).s
  let thr := d.retireThr U_PANEL * 65536
  if (d.score U_PANEL idx).ret then d
  else if s < thr then
    if 4 * s < 3 * thr then d.updScore U_PANEL idx (fun s => { s with prob := false }) else d
  else if d.panelBrake n && decide (s < 4 * thr) then
    if (d.score U_PANEL idx).prob then d
    else
      let d := (d.updScore U_PANEL idx (fun s => { s with prob := true })).ev pgWHL EV_SLUB_BRAKE
      if d.onPanel n panel = [] then d else d.mgrSend n panel 8 (8 * 2 ^ 44 + panel)
  else
    let d := d.updScore U_PANEL idx (fun s => { s with ret := true, prob := false })
    let d : Dev := { d with slub := { d.slub with panelRets := d.slub.panelRets ++ [(n, d.gt)] } }
    forL (d.onPanel n panel) (fun i d => d.replace n i none) d

/-- A panel of a job is lost (R239, R299). -/
def Dev.panelLost (d : Dev) (n panel : Nat) (shadow : Option Nat) : Dev :=
  let d := d.slubEvent 20 U_PANEL (panIdx n panel)
  let es := (d.workers n).filter (fun i => d.rosterPanel n i = some panel)
  let d := (forL (d.onPanel n panel) (fun i d => d.replace n i shadow) d).panelEval n panel
  let d := d.updMg n (fun m => { m with left := m.left.filter (fun i => !es.contains i), fault := es.foldl setIns m.fault })
  if d.mst n = 5 then d
  else match (d.mg n).phase with
    | .rest => d.mgrNext n
    | .start => d.mgrRecover n
    | .repair =>
      let moves := (d.mg n).moves
      let d := d.updMg n (fun m => { m with moves := [], awaited := m.awaited ++ moves.map (·.1) })
      (forL moves (fun x d => d.mgrSend n (d.f (pgTUB 0) TUB_DOMAIN_LEAD) 0x0C (x.1 * 2 ^ 12 + x.2)) d).repairCheck n
    | .wait => d.takeCheck n
    | _ => d.ackCheck n

/-- The brake on panels lifts: probation panels at or above RETIRE are taken in descending score (R305, R306). -/
def Dev.panelRescan (d : Dev) (n : Nat) : Dev :=
  let cand := d.slub.sc.filter (fun e => decide (e.1 / 2 ^ 40 = U_PANEL) && decide (e.1 % 2 ^ 40 / 4096 = n) && e.2.prob)
  forL (cand.mergeSort (fun a b => b.2.s ≤ a.2.s)) (fun e d => d.panelEval n (e.1 % 4096)) d

/-- A fault is scored to its panel (R299). -/
def Dev.panelFault (d : Dev) (n panel : Nat) : Dev := (d.slubEvent 19 U_PANEL (panIdx n panel)).panelEval n panel

/-! Acceptance (R238, R239). -/

/-- Partitions for which a message from a panel is accepted. -/
def Dev.enrolled (d : Dev) (src job : Nat) (orStby : Bool) : List Nat :=
  (List.range Config.partitions).filter (fun j =>
    let t := pgTUB 0
    d.fb t TUB_JOBp_EN j && d.f t TUB_JOBp_JSLOT j = job && (d.f t TUB_JOBp_MGR j = src || (orStby && d.f t TUB_JOBp_STBY j = src)))

/-- Partitions whose splice's shadow panel sent the message (R338). -/
def Dev.splicedTo (d : Dev) (src job : Nat) : List Nat :=
  (List.range Config.partitions).filter (fun j =>
    d.f (pgPART j) PART_SPL_ROLE = 2 && d.f (pgPART j) PART_SPL_TWIN = src && d.f (pgTUB 0) TUB_JOBp_JSLOT j = job)

/-- A message that fails the checks (R238). -/
def Dev.msgDrop (d : Dev) : Nat × Dev := (ST_DENIED, (d.addSat (pgTUB 0) TUB_EVCNT_MSGDROP).ev (pgTUB 0) EV_TUB_MSGDROP)

/-- Accepted, with its effect. -/
def Dev.msgOk (d : Dev) : Nat × Dev := (ST_OK, d)

/-- A slot that acts for its job: managing, recovering, standing by, or taking over. -/
def Dev.mgrOn (d : Dev) (n : Nat) : Bool := decide (1 ≤ d.mst n ∧ d.mst n ≤ 4)

/-- A worker's acknowledgement (R241). -/
def Dev.ack (d : Dev) (j mcmd : Nat) : Dev := d.report j 0x0E mcmd

/-- The reply to a message goes back to its sender. -/
def Dev.msgAnswer (d : Dev) (src flow status : Nat) (q : Option Pkt) : Dev :=
  if src = d.self then
    d.place { loc := .dst d.wdEp 0, typ := T_MGRSP, vc := vcOf T_MGRSP, status := status, flow := flow, part := 15,
              dpanel := d.self, spanel := d.self, sep := d.wdEp, dep := d.wdEp, epoch := d.inje d.wdEp }
  else
    let p : Pkt := q.getD { loc := .dst d.wdEp 0, typ := T_MGWR, vc := 3, part := 15, flow := flow, spanel := src, sep := 184, dpanel := d.self }
    d.respond d.wdEp 0 p status []

/-- The row of a message: from panel `src`, message word w0, FLOW w1 of its MGWR. The packet, if it stands at the whorl die, is
consumed; the message has its effect and is answered. -/
def msgRow (code : Nat) (src w0 w1 : Word) (s : State) (act : Dev → Nat → Nat → Nat → Nat × Dev) : Host.Outcome State Fault Refusal :=
  s.run (decide (fld w0 63 56 = code ∧ src.toNat < 4096)) (fun _ d =>
    let mine (q : Pkt) : Bool := q.loc = .dst d.wdEp 0 && q.typ = T_MGWR && q.flow = w1.toNat && q.spanel = src.toNat && leNat q.data = w0.toNat
    let q := d.net.pkts.find? mine
    let d := match q with
      | some q => d.updNet (fun n => { n with pkts := n.pkts.erase q })
      | none => d
    let (st, d) := act d src.toNat (fld w0 55 52) (fld w0 47 0)
    d.msgAnswer src.toNat w1.toNat st q)

/-- A message is noted as applied; none: it repeats one applied before, within the resends of R239, and has no other effect. -/
def Dev.fresh (d : Dev) (src w0 w1 : Word) : Option Dev :=
  let recent := d.fab.seen.filter (fun x => d.gt ≤ x.2.2.2 + 4 * (400000 * d.f (pgTUB 0) TUB_CTL_FTMO))
  if recent.any (fun x => x.1 = src.toNat && x.2.1 = w1.toNat && x.2.2.1 = w0.toNat) then none
  else some { d with fab := { d.fab with seen := recent ++ [(src.toNat, w1.toNat, w0.toNat, d.gt)] } }

/-- A message from a manager to its worker partitions. -/
def Dev.toWorkers (d : Dev) (src job : Nat) (orStby : Bool) (f : Nat → Dev → Dev) : Nat × Dev :=
  match d.enrolled src job orStby with
  | [] => d.msgDrop
  | js => (forL js f d).msgOk

/-! Messages from the manager to a worker. -/

/-- START (R241): k is started as by the host; a repeat only gets its ACK. -/
def execStart (src w0 w1 : Word) (s : State) : Host.Outcome State Fault Refusal :=
  msgRow 0x01 src w0 w1 s (fun d src job k => d.toWorkers src job false (fun j d =>
    let again := (d.pst j = P_RUN ∨ d.pst j = P_DONE) ∧ d.stepOf j = k
    (if again then d else d.startStep j k false).ack j 1))

/-- COMMIT (R312). -/
def execCommit (src w0 w1 : Word) (s : State) : Host.Outcome State Fault Refusal :=
  msgRow 0x03 src w0 w1 s (fun d src job k => d.toWorkers src job false (fun j d =>
    (if k = d.f (pgPART j) PART_CMT_LASTCMT then d else d.commitStep j k).ack j 3))

/-- ABORT (R313, R314). -/
def execAbort (src w0 w1 : Word) (s : State) : Host.Outcome State Fault Refusal :=
  msgRow 0x04 src w0 w1 s (fun d src job k => d.toWorkers src job false (fun j d => (d.abortStep j k).ack j 4))

/-- A cluster is fenced by a cluster reset (Table 11.4). -/
def Dev.fenceClu (d : Dev) (p : Nat) : Dev := (d.unitLost p (unitWord U_CLUSTER p) (pgCLU p)).clusterReset p

/-- A unit is fenced (Table 11.4). -/
def Dev.fenceUnit (d : Dev) (kind idx : Nat) : Dev :=
  match kind with
  | 0 => if idx < Config.clusters then d.fenceClu idx else d
  | 1 => if idx < Config.computeDies then forL (diesClusters idx) (fun p d => d.fenceClu p) d else d
  | 2 => if idx < Config.dabinLinks then d.retireNow U_LINK idx else d
  | 3 => if idx / 256 < Config.endpoints ∧ idx % 256 < Config.endpoints then d.retireNow U_PAIR idx else d
  | 4 => if idx / 32 < Config.baseDies then d.retireNow U_CHAN idx else d
  | 5 => if idx < 64 then d.retireNow U_PKG idx else d
  | 6 => if idx < Config.hanks then forL (hankClusters idx) (fun p d => d.fenceClu p) d else d
  | 7 => if idx < Config.fabricPorts then d.retireNow U_PORT idx else d
  | _ => d

/-- FENCE (R241). -/
def execFence (src w0 w1 : Word) (s : State) : Host.Outcome State Fault Refusal :=
  msgRow 0x06 src w0 w1 s (fun d src job a =>
    let (st, d) := d.toWorkers src job false (fun _ d => d)
    if st ≠ ST_OK then (st, d)
    else
      let d := d.fenceUnit (a / 2 ^ 44 % 16) (a % 2 ^ 32)
      (forL (d.enrolled src job false) (fun j d => d.ack j 6) d).msgOk)

/-- A commit of a SWAP (R329, R430): its ACK comes with the commit's end; at once when no generation is committed. -/
def Dev.swapMsg (d : Dev) (j lc c : Nat) : Dev :=
  match (if c = 0x3FF then d.swapChoice lc [] else some c) with
  | none => (d.ev (pgPART j) EV_PART_FAIL).ack j 7
  | some p =>
    if d.lcPhys lc = some p then d.ack j 7
    else
      let g := d.curGen.swapIn lc p
      let (ok, d) := d.panelCommit g 1 (some (j, lc))
      if ok then d else (d.genRefuse (d.genErr g true)).ack j 7

/-- SWAP (R241): while a flip or a commit runs it is answered BUSY, and sent again. -/
def execSwap (src w0 w1 : Word) (s : State) : Host.Outcome State Fault Refusal :=
  msgRow 0x07 src w0 w1 s (fun d src job a =>
    match d.enrolled src job false with
    | [] => d.msgDrop
    | j :: _ =>
      if d.genBusy then (ST_BUSY, d)
      else (d.swapMsg j (a / 2 ^ 16 % 1024) (a % 1024)).msgOk)

/-- PROBATION (R305, R306). -/
def execProbation (src w0 w1 : Word) (s : State) : Host.Outcome State Fault Refusal :=
  msgRow 0x08 src w0 w1 s (fun d src job a => d.toWorkers src job false (fun j d =>
    let kind := a / 2 ^ 44 % 16
    let idx := a % 2 ^ 32
    let note (d : Dev) (k : Nat) : Dev := { d with slub := { d.slub with msgProb := setIns d.slub.msgProb k } }
    let d : Dev := match kind with
      | 0 => if idx < Config.clusters ∧ !(d.score U_CLUSTER idx).prob then
          (d.updScore U_CLUSTER idx (fun s => { s with prob := true })).ev (pgCLU idx) EV_SLUB_PROB else d
      | 1 => if idx < Config.computeDies then note d (slubKey U_DIE idx) else d
      | 8 => note d (slubKey U_PANEL j)
      | _ => d
    d.ack j 8))

/-- BEAT (R244, R245): to a worker, and to the standby's slot. -/
def execBeat (src w0 w1 : Word) (s : State) : Host.Outcome State Fault Refusal :=
  msgRow 0x09 src w0 w1 s (fun d src job k =>
    let js := d.enrolled src job true
    let stby := decide (d.mst job = 3)
    if js = [] ∧ !stby then d.msgDrop
    else
      let d := if stby then
          let gt := d.gt
          let same := decide (d.mstep job = k)
          (d.setf (pgMGR job) TUB_MGR_STATUS_STEP k).updMg job (fun m => { m with
            beatAt := gt, old := src, done := if same then m.done else [], fault := if same then m.fault else [] })
        else d
      (forL js (fun j d => d.ack j 9) d).msgOk)

/-- TAKEOVER (R245, R340): the standby becomes the manager; its ACK names the last committed step. -/
def execTakeover (src w0 w1 : Word) (s : State) : Host.Outcome State Fault Refusal :=
  msgRow 0x0A src w0 w1 s (fun d src job _ => d.toWorkers src job true (fun j d =>
    let t := pgTUB 0
    let d := if d.f t TUB_JOBp_MGR j = src then d
      else
        let d := ((d.setf t TUB_JOBp_MGR (d.f t TUB_JOBp_STBY j) j).setf t TUB_JOBp_STBY 0xFFF j).ev t EV_TUB_TAKEOVER
        if d.panelShadow j then d.setf (pgPART j) PART_SPL_ROLE 0 else d
    d.ack j (d.f (pgPART j) PART_CMT_LASTCMT)))

/-- NEWSTBY (R241). -/
def execNewstby (src w0 w1 : Word) (s : State) : Host.Outcome State Fault Refusal :=
  msgRow 0x0B src w0 w1 s (fun d src job a => d.toWorkers src job false (fun j d =>
    (d.setf (pgTUB 0) TUB_JOBp_STBY (a % 4096) j).ack j 0x0B))

/-! Messages to the manager and its standby. -/

/-- DONE (R244, R338): a worker, or the shadow panel of a splice, has completed step k. -/
def execDone (src w0 w1 : Word) (s : State) : Host.Outcome State Fault Refusal :=
  msgRow 0x02 src w0 w1 s (fun d src job k =>
    match d.splicedTo src job with
    | j :: _ => (d.updPt j (fun q => { q with fwd := setDel q.fwd k })).msgOk
    | [] =>
      if !d.mgrOn job then d.msgDrop
      else
        -- DONE of the step after the next tells a standby that the next one is committed
        let d := if 3 ≤ d.mst job ∧ k = d.mstep job + 2 then
            (d.setf (pgMGR job) TUB_MGR_STATUS_STEP (k - 1)).updMg job (fun m => { m with done := [], fault := [] })
          else d
        if k ≠ d.mstep job + 1 then d.msgOk
        else
          let m := d.mg job
          match (d.workers job).find? (fun i => d.rosterPanel job i = some src && !m.done.contains i) with
          | none => d.msgOk
          | some i =>
            let d := d.updMg job (fun m => { m with done := setIns m.done i })
            (if d.mst job = 4 then d.takeCheck job else d.doneCheck job).msgOk)

/-- FAULT (R243, R330): a worker's step has failed; `repl` are the units the manager fences and the logical clusters it swaps
(log entry 35). -/
def execFault (srcW w0 w1 : Word) (repl : List (Nat × Nat)) (s : State) : Host.Outcome State Fault Refusal :=
  msgRow 0x05 srcW w0 w1 s (fun d src job slot =>
    if d.splicedTo src job ≠ [] then d.msgOk
    else if !d.mgrOn job then d.msgDrop
    else
      match (d.workers job).find? (fun i => d.rosterPanel job i = some src), d.fresh srcW w0 w1 with
      | none, _ => d.msgDrop
      | some _, none => d.msgOk
      | some i, some d =>
        let pg := pgMGR job
        let a := d.f pg TUB_MGR_RING_ADDR * 64 + 64 * slot
        let stale := slot ≠ 0 ∧ fld (d.tier2Word a) 47 0 ≠ d.mstep job + 1
        let ph := (d.mg job).phase
        if 3 ≤ d.mst job then
          ((d.updMg job (fun m => { m with fault := setIns m.fault i })).takeCheck job).msgOk
        else
          let d := if slot ≠ 0 then d.panelFault job src else d
          if stale ∨ d.mst job = 5 ∨ !(ph = .start || ph = .abort) then d.msgOk
          else
            let d := d.updMg job (fun m => { m with
              fault := setIns m.fault i, repl := m.repl ++ repl.map (fun r => (i, r.1, r.2)) })
            (if ph = .start then d.mgrRecover job else d).msgOk)

/-- ACK (R241): what its phase awaits. -/
def execAck (srcW w0 w1 : Word) (s : State) : Host.Outcome State Fault Refusal :=
  msgRow 0x0E srcW w0 w1 s (fun d src job a =>
    if d.splicedTo src job ≠ [] then d.msgOk
    else if !d.mgrOn job then d.msgDrop
    else
      let m := d.mg job
      let mine (i : Nat) : Bool := d.rosterPanel job i = some src
      let less (d : Dev) : Dev := d.updMg job (fun m => { m with left := dropFirst mine m.left })
      match m.phase with
      | .start => (if a % 256 = 1 then less d else d).msgOk
      | .commit => (if a % 256 = 3 then (less d).ackCheck job else d).msgOk
      | .catchup => (if a % 256 = 3 then (less d).ackCheck job else d).msgOk
      | .abort => (if a % 256 = 4 then (less d).ackCheck job else d).msgOk
      | .take =>
        let d := match m.left.find? mine with
          | some i => (less d).updMg job (fun m => { m with last := SMap.ins m.last i a })
          | none => d
        (d.ackCheck job).msgOk
      | .repair =>
        if a % 256 = 9 ∨ a % 256 = 8 ∨ a % 256 = 0x0B then d.msgOk
        else match d.fresh srcW w0 w1 with
          | none => d.msgOk
          | some d => ((d.updMg job (fun m => { m with acks := m.acks - 1 })).repairCheck job).msgOk
      | _ => d.msgOk)

/-- REMAPDONE (R230). -/
def execRemapdone (src w0 w1 : Word) (s : State) : Host.Outcome State Fault Refusal :=
  msgRow 0x0D src w0 w1 s (fun d src job a =>
    if src ≠ d.f (pgTUB 0) TUB_DOMAIN_LEAD ∨ !d.mgrOn job then d.msgDrop
    else
      let l := a / 2 ^ 12 % 4096
      ((d.updMg job (fun m => { m with awaited := dropFirst (· = l) m.awaited })).repairCheck job).msgOk)

/-! Messages to and from the lead. -/

/-- REMAP (R230): logical 0 is refused. -/
def execRemap (src w0 w1 : Word) (s : State) : Host.Outcome State Fault Refusal :=
  msgRow 0x0C src w0 w1 s (fun d src job a =>
    let l := a / 2 ^ 12 % 4096
    let r : Remap := { src := src, job := job, l := l, q := a % 4096 }
    if !d.isLead ∨ !d.inDomain src ∨ l = 0 then d.msgDrop
    else if d.fab.remaps.contains r ∨ d.fab.serving.contains r then d.msgOk
    else ({ d with fab := { d.fab with remaps := d.fab.remaps ++ [r] } }.prepareFlip).msgOk)

/-- BUNDLE (R226): the lead notes a bundle lost or regained, and with AUTOFIX makes new RING tables for its ring. -/
def execBundle (srcW w0 w1 : Word) (s : State) : Host.Outcome State Fault Refusal :=
  msgRow 0x20 srcW w0 w1 s (fun d src _ a =>
    if !d.isLead ∨ !d.inDomain src then d.msgDrop
    else match d.fresh srcW w0 w1 with
      | none => d.msgOk
      | some d =>
        let k := a % 4096 * 8 + a / 2 ^ 12 % 8
        let d : Dev := { d with fab := { d.fab with lost := if a / 2 ^ 15 % 2 = 1 then setIns d.fab.lost k else setDel d.fab.lost k } }
        (if d.fb (pgTUB 0) TUB_CTL_AUTOFIX then
          { d with fab := { d.fab with affected := setIns d.fab.affected k } }.prepareFlip
        else d).msgOk)

/-- FTBL (R227): half a word of a fabric table; the other half is kept. -/
def execFtbl (src w0 w1 : Word) (s : State) : Host.Outcome State Fault Refusal :=
  msgRow 0x21 src w0 w1 s (fun d src _ a =>
    if src ≠ d.f (pgTUB 0) TUB_DOMAIN_LEAD then d.msgDrop
    else
      let bank := a / 2 ^ 47 % 2
      let table := a / 2 ^ 44 % 4
      let idx := a / 2 ^ 32 % 1024
      let hi := a / 2 ^ 46 % 2
      (d.fabWrite bank table idx (setFld (d.fabWord bank table idx) (32 * hi + 31) (32 * hi) (a % 2 ^ 32))).msgOk)

/-- FFLIP (R229 step 2): the panel switches its fabric injection epoch; its reply acknowledges. -/
def execFflip (src w0 w1 : Word) (s : State) : Host.Outcome State Fault Refusal :=
  msgRow 0x22 src w0 w1 s (fun d src _ a =>
    let t := pgTUB 0
    if src ≠ d.f t TUB_DOMAIN_LEAD then d.msgDrop
    else if a % 2 = d.fepoch then d.msgOk
    else
      let d := (d.setf t TUB_FEPOCH_OLD d.fepoch).setf t TUB_FEPOCH_E (a % 2)
      (if d.isLead then d else d.setf t TUB_FEPOCH_STATE 2).msgOk)

/-- FSWEEP (R229 step 3): COUNT and TOUCH of the old epoch are answered; sweep 1 clears TOUCH. A panel other than the lead reads
STABLE again after a sweep 2 whose check its own counters pass, and DRAINING while the lead sweeps on (log entry 131). -/
def execFsweep (srcW w0 w1 : Word) (s : State) : Host.Outcome State Fault Refusal :=
  msgRow 0x23 srcW w0 w1 s (fun d src _ a =>
    let t := pgTUB 0
    let lead := d.f t TUB_DOMAIN_LEAD
    if src ≠ lead then d.msgDrop
    else match d.fresh srcW w0 w1 with
      | none => d.msgOk
      | some d =>
        let ep := a % 2
        let n := d.fabCount ep
        let touched := d.fab.touch.contains ep
        let d := d.sendMsg lead (msgWord 0x24 0 (b2n touched * 2 ^ 32 + n % 2 ^ 32))
        let first := a / 2 % 2 = 0
        let clean := decide (n = 0 ∧ d.fab.count1 = 0) && !touched
        let d : Dev := if first then { d with fab := { d.fab with touch := setDel d.fab.touch ep, count1 := n } } else d
        (if d.isLead then d else d.setf t TUB_FEPOCH_STATE (if first ∨ !clean then 2 else 0)).msgOk)

/-- FRESID (R229): a sweep's answer reaches the lead. -/
def execFresid (srcW w0 w1 : Word) (s : State) : Host.Outcome State Fault Refusal :=
  msgRow 0x24 srcW w0 w1 s (fun d src _ a =>
    if !d.isLead ∨ !d.inDomain src then d.msgDrop
    else match d.fresh srcW w0 w1 with
      | none => d.msgOk
      | some d =>
        if !d.fab.sweepLeft.contains src then d.msgOk
        else
          let seen := decide (a % 2 ^ 32 ≠ 0) || (decide (d.fab.sweep = 2) && decide (a / 2 ^ 32 % 2 = 1))
          let d : Dev := { d with fab := { d.fab with
            sweepLeft := d.fab.sweepLeft.filter (· ≠ src), dirty := d.fab.dirty || seen } }
          (d.sweepAnswered d.flipWho).msgOk)

/-! Messages without a good reply (R239). -/

/-- A message has failed for good: its target counts as lost. -/
def Dev.msgFails (d : Dev) (m : Msg) (shadow : Option Nat) : Dev :=
  let c := fld m.w0 63 56
  let n := fld m.w0 55 52
  if c = 0x21 then (d.dropPanel m.panel).flipReady
  else if c = 0x22 ∨ c = 0x23 then d.dropPanel m.panel
  else if 0x20 ≤ c ∨ c = 2 ∨ c = 5 ∨ c = 0x0C ∨ c = 0x0D ∨ c = 0x0E ∨ !d.mgrOn n then d
  else
    let d := if (c = 6 ∨ c = 7 ∨ (c = 0x0A ∧ (d.mg n).phase = .repair)) ∧ 0 < (d.mg n).acks then
        d.updMg n (fun m => { m with acks := m.acks - 1 }) else d
    d.panelLost n m.panel shadow

/-- MSG_RESEND_TIMEOUT (R239): message `i` had no reply within FTMO, or one that is not OK: it is sent again up to 3 times; then
its target is lost. `shadow` is the READY shadow panel that takes the lost panel's place, if any (log entry 35). -/
def execMsgResendTimeout (i : Nat) (shadow : Option Nat) (s : State) : Host.Outcome State Fault Refusal :=
  s.run true (fun _ d =>
    match d.fab.out[i]? with
    | none => d
    | some m =>
      if !m.bad ∧ d.gt < m.sentAt + 400000 * d.f (pgTUB 0) TUB_CTL_FTMO then d
      else if m.tries < 3 then
        let m' : Msg := { m with tries := m.tries + 1, sentAt := d.gt, bad := false }
        let d : Dev := { d with fab := { d.fab with out := d.fab.out.map (fun x => if x.id = m.id then m' else x) } }
        d.emitMsg m'
      else
        let d : Dev := { d with fab := { d.fab with out := d.fab.out.filter (fun x => x.id ≠ m.id) } }
        d.msgFails m shadow)

/-! Slots (R244, R245, R248). -/

/-- GO: the slot manages its job, or stands by for another panel. -/
def Dev.mgrGo (d : Dev) (n : Nat) : Dev :=
  let pg := pgMGR n
  let t := pgTUB 0
  let gt := d.gt
  if d.mst n ≠ 0 ∧ d.mst n ≠ 5 then d
  else
    let standby := d.f pg TUB_MGR_CTL_STBY = d.self ∨ (List.range Config.partitions).any (fun j =>
      d.fb t TUB_JOBp_EN j && d.f t TUB_JOBp_JSLOT j = n && d.f t TUB_JOBp_STBY j = d.self && d.f t TUB_JOBp_MGR j != d.self)
    let d : Dev := d.updMg n (fun _ => { beatAt := gt })
    let p := d.f pg TUB_MGR_CTL_PART
    let d := if p = 15 then d else d.setf pg TUB_MGR_STATUS_STEP (d.f (pgPART p) PART_CMT_LASTCMT)
    if standby then d.setMst n 3
    else
      let st := d.f pg TUB_MGR_CTL_STBY
      let d := if st = 0xFFF then d else d.mgrSendAll n (d.workers n) 0x0B st
      d.mgrNext n

/-- STOP: after the step in progress commits; at once between steps. -/
def Dev.mgrStop (d : Dev) (n : Nat) : Dev :=
  if d.mst n = 1 ∨ d.mst n = 2 then
    let d := d.updMg n (fun m => { m with stop := true })
    if (d.mg n).phase = .rest then d.mgrNext n else d
  else d

/-- The action bits of a write of TUB_MGR_CTL. -/
def Dev.mgrActs (d : Dev) (n : Nat) (a : Word) : Dev :=
  let d := if bit a 0 then d.mgrGo n else d
  if bit a 1 then d.mgrStop n else d

/-- A write of TUB_MGR_CTL. -/
def Dev.mgrCtlWrite (d : Dev) (port n : Nat) (v : Word) : Dev :=
  d.onWrite port (pgMGR n + 0x80) v (fun d a => d.mgrActs n a)

/-- A write of TUB_MGR_STEP: a manager between steps goes on when LIMIT allows. -/
def Dev.mgrStepWrite (d : Dev) (port n : Nat) (v : Word) : Dev :=
  d.onWrite port (pgMGR n + 0x98) v (fun d _ => if d.mst n = 1 ∧ (d.mg n).phase = .rest then d.mgrNext n else d)

/-- The fields of TUB_MGR_CTL as they stand, and an action bit. -/
def Dev.mgrCtlWord (d : Dev) (n b : Nat) : Word := setFld (setFld (d.reg (pgMGR n + 0x80)) 1 0 0) b b 1

/-- MGR_GO (R248). -/
def execMgrGo (port n : Nat) (s : State) : Host.Outcome State Fault Refusal :=
  s.run (decide (port < 2 ∧ n < Config.managerSlots)) (fun _ d => d.mgrCtlWrite port n (d.mgrCtlWord n 0))

/-- MGR_STOP (R248). -/
def execMgrStop (port n : Nat) (s : State) : Host.Outcome State Fault Refusal :=
  s.run (decide (port < 2 ∧ n < Config.managerSlots)) (fun _ d => d.mgrCtlWrite port n (d.mgrCtlWord n 1))

/-- A BEAT period of a slot in GT counts. -/
def Dev.beatPeriod (d : Dev) (n : Nat) : Nat := d.f (pgMGR n) TUB_MGR_CTL_BEATMS * 4000000

/-- BEAT_TIMER (R244): BEAT goes to the standby and to every worker. -/
def execBeatTimer (n : Nat) (s : State) : Host.Outcome State Fault Refusal :=
  s.run (decide (n < Config.managerSlots)) (fun _ d =>
    if (d.mst n = 1 ∨ d.mst n = 2) ∧ (d.mg n).beatAt + d.beatPeriod n ≤ d.gt then
      let gt := d.gt
      let d := d.updMg n (fun m => { m with beatAt := gt })
      let st := d.f (pgMGR n) TUB_MGR_CTL_STBY
      let d := if st = 0xFFF then d else d.mgrSend n st 9 (d.mstep n)
      d.mgrSendAll n (d.workers n) 9 (d.mstep n)
    else d)

/-- MANAGER_LOST (R245): LOSTN periods without a BEAT. `lost` are the roster entries found lost so far. -/
def execManagerLost (n : Nat) (lost : List Nat) (s : State) : Host.Outcome State Fault Refusal :=
  s.run (decide (n < Config.managerSlots)) (fun _ d =>
    if d.mst n = 3 ∧ (d.mg n).beatAt + d.f (pgMGR n) TUB_MGR_CTL_LOSTN * d.beatPeriod n ≤ d.gt then
      let d := (d.setMst n 4).ev (pgTUB 0) EV_TUB_MGRLOST
      let d := d.updMg n (fun m => { m with phase := .wait, fault := lost.foldl setIns m.fault })
      d.takeCheck n
    else d)

end Sys2Proof.Machine
end

