-- ==== Sys2Proof/Machine/Scores.lean ====
section
/-!
DEFINITION. Slub scores over time (R298 to R306, R309): the decay tick, retirements that leave the window of 60 minutes, and the
host's writes of scores, weights and thresholds.
-/

namespace Sys2Proof.Machine

/-! Decay (R300). -/

/-- The greatest number of `[0, hi)` for which a test that holds up to a point holds, by halving an interval. -/
def searchMax : Nat → Nat → Nat → (Nat → Bool) → Nat
  | 0, lo, _, _ => lo
  | n + 1, lo, hi, f =>
    let m := (lo + hi) / 2
    if f m then searchMax n m hi f else searchMax n lo m f

/-- DK = round(2^32·(1 − 2^(−60 / (3,600·HLH)))) (R300), exactly: k ≤ DK when k − 1/2 ≤ 2^32·(1 − 2^(−1/n)), n = 60·HLH, that
is 2^(33n − 1) ≤ (2^33 + 1 − 2k)^n. -/
def decayK (hlh : Nat) : Nat :=
  let n := 60 * hlh
  if n = 0 then 0
  else searchMax 32 0 (2 ^ 32) (fun k => decide (2 ^ (33 * n - 1) ≤ (2 ^ 33 + 1 - 2 * k) ^ n))

/-- A score after one tick. -/
def decayed (k s : Nat) : Nat := s - cdiv (s * k) (2 ^ 32)

/-- Every score is evaluated. A die that a message put on probation leaves it when the scores of its clusters are all below 3/4 of
RETIRE (R306; log entry 134). -/
def Dev.evalAll (d : Dev) : Dev :=
  let d := forL d.slub.sc (fun e d =>
    let kind := e.1 / 2 ^ 40
    let idx := e.1 % 2 ^ 40
    if kind = U_PANEL then d.panelEval (idx / 4096) (idx % 4096) else d.evalScore kind idx) d
  let low (k : Nat) : Bool := k / 2 ^ 40 = U_DIE && (diesClusters (k % 2 ^ 40)).all (fun p =>
    decide (4 * (d.score U_CLUSTER p).s < 3 * (d.retireThr U_CLUSTER * 65536)))
  { d with slub := { d.slub with msgProb := d.slub.msgProb.filter (fun k => !low k) } }

/-- The panel's scores after one tick, each evaluated; HLH 0 stops the decay alone. -/
def Dev.decayTick (d : Dev) : Dev :=
  let k := decayK (d.f pgWHL WHL_SLUBCTL_HLH)
  let d : Dev := { d with slub := { d.slub with
    sc := (d.slub.sc.map (fun e => (e.1, { e.2 with s := decayed k e.2.s }))).filter (fun e => e.2 ≠ {}) } }
  d.evalAll

/-- `SLUB_DECAY_TICK` (R300). -/
def execSlubDecayTick (s : State) : Host.Outcome State Fault Refusal := s.run true (fun _ d => d.decayTick)

/-- 60 minutes in counts. -/
abbrev HOUR : Nat := 14400000000000

/-- Retirements older than 60 minutes leave the window; probation units are looked at again (R305, R306). -/
def Dev.windowExpiry (d : Dev) : Dev :=
  let young (t : Nat) : Bool := decide (d.gt < t + HOUR)
  let d : Dev := { d with slub := { d.slub with
    rets := d.slub.rets.filter young, panelRets := d.slub.panelRets.filter (fun x => young x.2) } }
  forN Config.managerSlots (fun n d => d.panelRescan n) d.brakeRescan

/-- `RET1H_WINDOW_EXPIRY` (R305). -/
def execRet1hWindowExpiry (s : State) : Host.Outcome State Fault Refusal := s.run true (fun _ d => d.windowExpiry)

/-! Host access (R309). -/

/-- The scored unit that WHL_SLUBSEL names (Tables 8.7, 10.6, 10.16). -/
def Dev.slubSel (d : Dev) : Option (Nat × Nat) :=
  let kind := d.f pgWHL WHL_SLUBSEL_KIND
  let i := d.f pgWHL WHL_SLUBSEL_INDEX
  let n := d.f pgWHL WHL_SLUBSEL_JSLOT
  let ok : Bool := match kind with
    | 0 => decide (i < Config.clusters)
    | 2 => decide (i < Config.dabinLinks)
    | 3 => decide (i / 256 < i % 256) && decide (i % 256 < Config.endpoints)
    | 4 => decide (i < 32 * Config.baseDies)
    | 5 => decide (i < 4 * Config.iods)
    | 7 => decide (i < Config.fabricPorts)
    | 8 => (d.rosterAll n).any (fun e => d.rosterPanel n e = some i)
    | 9 => decide (i < Config.clusters)
    | _ => false
  if !ok then none else some (kind, if kind = U_PANEL then panIdx n i else i)

/-- WHL_SLUBVAL as it reads. -/
def Dev.slubVal (d : Dev) : Word :=
  match d.slubSel with
  | none => BitVec.ofNat 64 (2 ^ 58)
  | some (k, i) =>
    let s := d.score k i
    BitVec.ofNat 64 (b2n s.prob * 2 ^ 63 + (if k = U_CLUSTER then d.f (pgCLU i) CLU_SLUB_MSTEP else 0) * 2 ^ 60 +
      b2n (d.isRetired k i) * 2 ^ 59 + s.s)

/-- A score is loaded and evaluated at once (R298). -/
def Dev.slubLoad (d : Dev) (v : Nat) : Dev :=
  match d.slubSel with
  | none => d
  | some (k, i) =>
    let d := d.updScore k i (fun s => { s with s := v })
    if k = U_PANEL then d.panelEval (i / 4096) (i % 4096) else d.evalScore k i

/-- A write of WHL_SLUBVAL. -/
def Dev.slubvalWrite (d : Dev) (port : Nat) (v : Word) : Dev :=
  let (ok, d) := d.hostMay port (pgWHL + 0x390) v
  if ok then d.slubLoad (fld v 31 0) else d

/-- `SLUBVAL_WRITE` (R298, R309). -/
def execSlubvalWrite (port : Nat) (v : Word) (s : State) : Host.Outcome State Fault Refusal :=
  s.run (decide (port < 2)) (fun _ d => d.slubvalWrite port v)

/-- A write of WHL_SLUBW: the weight of a code that Table 10.5 assigns (R299). -/
def Dev.slubwWrite (d : Dev) (port : Nat) (v : Word) : Dev :=
  d.onWrite port (pgWHL + 0x398) v (fun d _ =>
    let c := fld v 39 32
    if c < 21 then { d with slub := { d.slub with weights := SMap.set (defWeight c) d.slub.weights c (fld v 15 0) } } else d)

/-- `SLUBW_WRITE` (R299, R309). -/
def execSlubwWrite (port : Nat) (v : Word) (s : State) : Host.Outcome State Fault Refusal :=
  s.run (decide (port < 2)) (fun _ d => d.slubwWrite port v)

/-- M1 < M2 < M3 < M4 < CLRET (R309). -/
def Dev.thrOrder (d : Dev) : Bool :=
  decide (d.f pgWHL WHL_SLUBTHR0_M1 < d.f pgWHL WHL_SLUBTHR0_M2) && decide (d.f pgWHL WHL_SLUBTHR0_M2 < d.f pgWHL WHL_SLUBTHR0_M3) &&
    decide (d.f pgWHL WHL_SLUBTHR0_M3 < d.f pgWHL WHL_SLUBTHR0_M4) && decide (d.f pgWHL WHL_SLUBTHR0_M4 < d.f pgWHL WHL_SLUBTHR1_CLRET)

/-- A write of WHL_SLUBTHRi, discarded when it breaks the order (R309); the scores are evaluated by what it sets (R301). -/
def Dev.slubthrWrite (d : Dev) (port i : Nat) (v : Word) : Dev :=
  d.onWrite port (pgWHL + 0x3A0 + 8 * i) v (fun d' _ => if d'.thrOrder then d'.evalAll else d)

/-- `SLUBTHR_WRITE` (R301, R309). -/
def execSlubthrWrite (port i : Nat) (v : Word) (s : State) : Host.Outcome State Fault Refusal :=
  s.run (decide (port < 2) && decide (i < 4)) (fun _ d => d.slubthrWrite port i v)

end Sys2Proof.Machine
end

