-- ==== Sys2Proof/Machine/Bringup.lean ====
section
/-!
DEFINITION. Bring-up (R401 to R408), firmware download (R409 to R413, R440 to R443) and self-test (R418).
-/

namespace Sys2Proof.Machine

/-! The hardware stage (R401, R402). -/

/-- The panel as the hardware stage leaves it, with whorl die `wd` active: nothing but the base group, that die and IOD 0 and 8
is powered. Free values go on from `free`. -/
def stageDev (fu : Fuses) (wd free : Nat) : Dev :=
  let d : Dev := { free := free }
  let d : Dev := { d with net := { d.net with present := [168, 176, 184 + wd] }, pwr := { d.pwr with edge := [0, 8] } }
  let d : Dev := { d with sec := { d.sec with presence := fu.sealBlown, idKey := Config.mldsaPublic fu.seed } }
  (d.setf pgWHL WHL_CLKSTAT_WD wd).setf pgWHL WHL_PCAP_HOST fu.cap

/-- The panel after 12 V enters range: the log starts with POWERUP (R444). With no good whorl die nothing comes up (R402). -/
def hardwareStage (fu : Fuses) (ok0 ok1 : Bool) (free : Nat) : Dev :=
  let d := (stageDev fu (if ok0 then 0 else 1) free).logAppend 0 0 0 fu.serial.toNat
  if ok0 || ok1 then d else { d with stopped := true }

/-- HARDWARE_STAGE (R401, R402): 12 V enters range; what the panel held before is gone. `wd0ok`: whorl die 0 is marked good and
passes its power-on self-test; `wd1ok`: die 1 (log entry 8). -/
def execHardwareStage (wd0ok wd1ok : Bool) (s : State) : Host.Outcome State Fault Refusal :=
  .next { s with dev := hardwareStage s.fuse wd0ok wd1ok s.dev.free }

/-! Steps (R403 to R405). -/

/-- A unit's number in a fuse map or test list. -/
def unitNo (kind idx : Nat) : Nat := kind * 2 ^ 32 + idx

/-- A start is refused. -/
def Dev.bootErr (d : Dev) (c : Nat) : Dev := d.setf pgWHL WHL_BOOT_ERRC c

/-- A step ends (R403). -/
def Dev.stepEnds (d : Dev) (s : Nat) : Dev :=
  let d := (d.setf pgWHL WHL_BOOT_BSTEP s).setf pgWHL WHL_BOOT_BSTATE (if s = 11 then 2 else 0)
  { d with boot := { d.boot with step := none } }.ev pgWHL EV_BOOT_STEP

/-- Step 3 begins (R404): masked hanks and edge groups are powered. -/
def Dev.powerUp (d : Dev) : Dev :=
  let hm := d.f pgWHL WHL_BOOTMASK_HANKM
  let im := d.f pgWHL WHL_BOOTMASK_IODM
  let d : Dev := { d with pwr := { d.pwr with edge := (List.range Config.iods).filter (fun k => k = 0 || k = 8 || im.testBit k) } }
  forN Config.hanks (fun h d => if hm.testBit h then d.setHst h H_POWERING 0 else d.setf (pgHNK h) HNK_PSTATE_CAUSE 4) d

/-- Base dies and IODs that are present. -/
def Dev.memDies (d : Dev) : List Nat := ((List.range Config.endpoints).filter (fun e => isMB e || isIOD e)).filter d.present

/-- Step 5 begins (R205, R208, R499): the masks of earlier runs are taken, and stacks and packages train. -/
def Dev.memTrain (d : Dev) (fu : Fuses) : Dev :=
  forL d.memDies (fun e d =>
    if isMB e then
      let m := e - 112
      let pg := pgMBD m
      let rows := (fu.hardRows.filter (fun x => x.1 = m)).map (·.2)
      let d := d.updMbd m (fun b =>
        { b with rows := rows, holes := [], wait := [], migrating := none, bands := [], trained := true, firstDone := false })
      (d.setf pg MBD_STATE_CHRET (d.f pg MBD_CTL_RETMASK)).setf pg MBD_STATE_TSTATE 3
    else
      let k := e - 168
      let rows := (fu.hardRows.filter (fun x => x.1 = 64 + k)).map (·.2)
      (d.updMbd (64 + k) (fun b => { b with rows := rows })).setf (pgIOD k) IOD_LPSTATE_RET (d.f (pgIOD k) IOD_LPCTL_RETMASK)) d

/-- Rows repaired in hard form by step 5: listed by the host, at a die whose HARDEN is set (R205). -/
def Dev.hardened (d : Dev) (rows : List (Nat × Nat)) : List (Nat × Nat) :=
  rows.filter (fun x =>
    if x.1 < 56 then d.present (112 + x.1) && d.fb (pgMBD x.1) MBD_CTL_HARDEN
    else 64 ≤ x.1 && x.1 < 80 && d.present (104 + x.1) && d.fb (pgIOD (x.1 - 64)) IOD_LPCTL_HARDEN)

/-- Step 6 begins: every powered cluster is tested. -/
def Dev.testAll (d : Dev) : Dev :=
  forN Config.clusters (fun p d =>
    if (d.cl p).on then
      ((d.updCl p (fun c => { c with stRun := true })).setf (pgCLU p) CLU_STEST_RESULT 1).setf (pgCLU p) CLU_STEST_FAILBLK 0
    else d) d

/-! Reconciliation (R406, Table 14.2). -/

/-- Bad by test. -/
def Dev.testBad (d : Dev) (kind idx : Nat) : Bool := d.boot.tbad.contains (unitNo kind idx)
/-- A unit is disabled by its own fuse or its own test. -/
def Dev.ownBad (d : Dev) (kind idx : Nat) : Bool := d.fusedBad kind idx || d.testBad kind idx
/-- A cluster is disabled, by itself or with its die. -/
def Dev.cluBad (d : Dev) (p : Nat) : Bool := d.ownBad U_CLUSTER p || d.ownBad U_DIE (dieOf p)

/-- Links that failed to train are bad by test (Table 6.7). -/
def Dev.linksBad (d : Dev) : List Nat :=
  (List.range Config.dabinLinks).filter (fun n =>
    d.linkEnds n && d.linkState n = 8 && decide (1 ≤ d.f (pgLink n) DBL_STATE_CAUSE ∧ d.f (pgLink n) DBL_STATE_CAUSE ≤ 5))

/-- A discrepancy is recorded. -/
def Dev.discrepancy (d : Dev) (u : Nat) : Dev :=
  let d : Dev := { d with boot := { d.boot with disc := setIns d.boot.disc u } }
  (d.addSat pgWHL WHL_RECON_DISCN).ev pgWHL EV_BOOT_DISCREP

/-- The clusters in SPARE after reconciliation that R29 places: `lcmap`. -/
def canonicalMap (good : List Nat) : List Nat :=
  let g := good.length
  let s := g - 800
  let keep := (List.range s).map (fun k => ((2 * k + 1) * g) / (2 * s))
  (good.zipIdx.filter (fun x => !keep.contains x.2)).map (·.1) |>.take 800

/-- The XLATE words of a map: logical cluster i on `m[i]` (R26). -/
def mapWords (m : List Nat) : SMap Word :=
  (List.range 200).filterMap (fun w =>
    let v := (List.range 4).foldl (fun (v : Word) i => match m[4 * w + i]? with
      | some p => setFld v (16 * i + 15) (16 * i) (2 ^ 15 + p % 8 * 256 + p / 8)
      | none => v) 0
    if v = 0 then none else some (w, v))

/-- Step 7 (R406, R28, R29): fuses and tests are put together, bad units are disabled, and the canonical map goes into the
inactive bank. -/
def Dev.reconcile (d : Dev) : Dev :=
  let d : Dev := { d with boot := { d.boot with tbad := (d.linksBad.map (unitNo U_LINK)).foldl setIns d.boot.tbad } }
  let fused (u : Nat) : Bool := d.boot.fmap.contains u
  let inBadDie (u : Nat) : Bool := u / 2 ^ 32 = U_CLUSTER && fused (unitNo U_DIE (dieOf (u % 2 ^ 32)))
  let d := forL (d.boot.tbad.filter (fun u => !fused u && !inBadDie u)) (fun u d => d.discrepancy u) d
  -- clusters
  let d := forN Config.clusters (fun p d =>
    let st := if d.cluBad p then PS_DISABLED else PS_SPARE
    if d.present (dieOf p) then d.setf (pgCLU p) CLU_STATE_PSTATE st
    else (d.updCl p (fun c => { c with keptState := st })).setf (pgCLU p) CLU_STATE_PSTATE PS_OFF) d
  -- links, own or of a disabled die
  let dies := (List.range Config.computeDies).filter (fun e => d.ownBad U_DIE e)
  let gone := (List.range Config.allLinks).filter (fun n =>
    (decide (n < 600) && d.ownBad U_LINK n) || dies.contains (linkEps n).1 || dies.contains (linkEps n).2)
  let d := forL gone (fun n d => (d.updLink n (fun l => { l with discBad := true })).linkAbsent n 6) d
  -- channels and packages
  let d := forN (32 * Config.baseDies) (fun i d =>
    if d.ownBad U_CHAN i then
      let pg := pgMBD (i / 32)
      let d := d.updMbd (i / 32) (fun b => { b with holes := setIns b.holes (i % 32) })
      (d.setf pg MBD_STATE_CHRET (d.f pg MBD_STATE_CHRET ||| 2 ^ (i % 32))).setf pg MBD_STATE_MIG 3
    else d) d
  let d := forN (4 * Config.iods) (fun i d =>
    if d.ownBad U_PKG i then d.setf (pgIOD (i / 4)) IOD_LPSTATE_RET (d.f (pgIOD (i / 4)) IOD_LPSTATE_RET ||| 2 ^ (i % 4)) else d) d
  -- counts and the canonical map
  let good := (List.range Config.clusters).filter (fun p => d.pstate p = PS_SPARE)
  let fbad := ((List.range Config.clusters).filter (fun p => fused (unitNo U_CLUSTER p) || fused (unitNo U_DIE (dieOf p)))).length
  let d := (d.setf pgWHL WHL_RECON_GOODC good.length).setf pgWHL WHL_RECON_FBADC fbad
  let bank := 1 - d.f pgWHL WHL_RTEPOCH_E
  let xl := mapWords (canonicalMap good)
  let eps := (List.range 184).filter d.present
  let isX (x : Nat × Word) : Bool := eps.contains (keyEp x.1) && keyTab x.1 = 0
  let rest := (d.bankTbl bank).filter (fun x => !isX x)
  d.setBank bank (forL (eps.flatMap (fun e => xl.map (fun x => (tblKey 0 e 0 0 x.1, x.2)))) (fun x m => SMap.ins m x.1 x.2) rest)

/-! Starting and ending a step. -/

/-- GO with STEP = s (R403, R405). -/
def Dev.bootGo (d : Dev) (fu : Fuses) (s : Nat) : Dev :=
  if !([1, 2, 3, 5, 6, 7, 11].contains s) then d.bootErr 1
  else if d.f pgWHL WHL_BOOT_BSTATE = 1 then d.bootErr 2
  else if d.f pgWHL WHL_BOOT_BSTEP ≠ s - 1 then d.bootErr 1
  else if s = 11 then
    if !((List.range 3).all (fun t => d.boot.loaded.any (fun x => x.1 = t))) then d.bootErr 3
    else if d.gens.cur.num = 0 then d.bootErr 4
    else (d.bootErr 0).stepEnds 11
  else
    let d := (d.bootErr 0).setf pgWHL WHL_BOOT_BSTATE 1
    let d : Dev := { d with boot := { d.boot with step := some s } }
    match s with
    | 1 => { d with boot := { d.boot with fmap := fu.bad } }
    | 2 => { d with clk := { d.clk with started := true } }
    | 3 => d.powerUp
    | 5 => d.memTrain fu
    | 6 => d.testAll
    | _ => d.reconcile

/-- A write of WHL_BOOT. -/
def Dev.bootWrite (d : Dev) (fu : Fuses) (port : Nat) (v : Word) : Dev :=
  d.onWrite port (pgWHL + 0x500) v (fun d a => if bit a 0 then d.bootGo fu (fld v 11 8) else d)

/-- WHL_BOOT with STEP and GO. -/
def goWord (s : Nat) : Word := BitVec.ofNat 64 (s * 256 + 1)

/-- BOOT_ENUMERATE (R403): GO 1. -/
def execBootEnumerate (port : Nat) (s : State) : Host.Outcome State Fault Refusal :=
  s.run (decide (port < 2)) (fun fu d => d.bootWrite fu port (goWord 1))

/-- BOOT_CLOCK_START (R403, R345): GO 2. -/
def execBootClockStart (port : Nat) (s : State) : Host.Outcome State Fault Refusal :=
  s.run (decide (port < 2)) (fun fu d => d.bootWrite fu port (goWord 2))

/-- BOOT_POWER (R404): GO 3. -/
def execBootPower (port : Nat) (s : State) : Host.Outcome State Fault Refusal :=
  s.run (decide (port < 2)) (fun fu d => d.bootWrite fu port (goWord 3))

/-- The fuses of stacks and packages after GO 5. -/
def Dev.hardFuses (d : Dev) (fu : Fuses) (hard : List (Nat × Nat)) : Fuses := { fu with hardRows := fu.hardRows ++ d.hardened hard }

/-- BOOT_MEMORY_TRAIN (R403, R208): GO 5. `hard` is what the repair list registers, whose layout the spec does not give, name:
memory endpoint and row (log entry 28). -/
def execBootMemoryTrain (port : Nat) (hard : List (Nat × Nat)) (s : State) : Host.Outcome State Fault Refusal :=
  s.runAll (decide (port < 2)) (fun fu d =>
    let d' := d.bootWrite fu port (goWord 5)
    if d.boot.step ≠ some 5 ∧ d'.boot.step = some 5 then
      let fu' := d.hardFuses fu hard
      (fu', d.bootWrite fu' port (goWord 5))
    else (fu, d'))

/-- BOOT_SELF_TEST (R403): GO 6. -/
def execBootSelfTest (port : Nat) (s : State) : Host.Outcome State Fault Refusal :=
  s.run (decide (port < 2)) (fun fu d => d.bootWrite fu port (goWord 6))

/-- BOOT_RECONCILE (R406): GO 7. -/
def execBootReconcile (port : Nat) (s : State) : Host.Outcome State Fault Refusal :=
  s.run (decide (port < 2)) (fun fu d => d.bootWrite fu port (goWord 7))

/-- BOOT_RELEASE (R405): GO 11. -/
def execBootRelease (port : Nat) (s : State) : Host.Outcome State Fault Refusal :=
  s.run (decide (port < 2)) (fun fu d => d.bootWrite fu port (goWord 11))

/-- The completion condition of a step that GO started (Table 14.1). -/
def Dev.stepHolds (d : Dev) (s : Nat) : Bool :=
  match s with
  | 2 => d.gstate 168 = 2 && d.gstate 176 = 2
  | 3 => d.unlocked = 0 && (List.range Config.clusters).all (fun p => (d.cl p).on || !d.wantOn p)
  | 6 => (List.range Config.clusters).all (fun p => !(d.cl p).stRun)
  | _ => true

/-- Step 5 ends: stacks and packages are READY, or ABSENT with their die; `bad` names the channels and packages that did not
train; masked hanks are ON (R404). -/
def Dev.memReady (d : Dev) (bad : List Nat) : Dev :=
  let mine := bad.filter (fun u => u / 2 ^ 32 = U_CHAN || u / 2 ^ 32 = U_PKG)
  let d : Dev := { d with boot := { d.boot with tbad := mine.foldl setIns d.boot.tbad } }
  let d := forN Config.baseDies (fun m d =>
    if d.present (112 + m) then d.stackInit m else d.setf (pgMBD m) MBD_STATE_TSTATE 2) d
  let d := forN Config.iods (fun k d =>
    if d.present (168 + k) then
      (forN 4 (fun j d => d.zero (t2Key (4 * k + j) 0) (2 ^ 36)) d).setf (pgIOD k) IOD_LPSTATE_TSTATE 0x55
    else d.setf (pgIOD k) IOD_LPSTATE_TSTATE 0xAA) d
  forN Config.hanks (fun h d => if d.hst h = H_POWERING then d.setHst h H_ON 0 else d) d

/-- BOOT_STEP_DONE (R403): the completion condition of the step that runs holds. `bad` is what the step finds bad (log entry 8).
Steps 4, 9 and 10 are started by registers of their own. -/
def execBootStepDone (bad : List Nat) (s : State) : Host.Outcome State Fault Refusal :=
  s.run true (fun _ d =>
    match d.boot.step with
    | some n =>
      if d.stepHolds n then (if n = 5 then d.memReady bad else d).stepEnds n else d
    | none =>
      let b := d.f pgWHL WHL_BOOT_BSTEP
      if b = 3 ∧ d.f pgWHL WHL_DISC_DSTATE = 2 then (d.setLive true).stepEnds 4
      else if b = 8 ∧ (List.range 3).all (fun t => d.boot.loaded.any (fun x => x.1 = t)) then d.stepEnds 9
      else if b = 9 ∧ (d.f pgWHL WHL_OPTCTL_CSTATE = 2 ∨ d.f pgWHL WHL_OPTCTL_CSTATE = 3) then d.stepEnds 10
      else d)

/-! The fuse map (R407, R408). -/

/-- The unit WHL_FUSESEL names (Table 14.9). -/
def Dev.fuseSel (d : Dev) : Option (Nat × Nat) :=
  let k := d.f pgWHL WHL_FUSESEL_KIND
  let i := d.f pgWHL WHL_FUSESEL_INDEX
  let n := match k with
    | 0 => Config.clusters
    | 1 => Config.computeDies
    | 2 => Config.dabinLinks
    | 4 => 32 * Config.baseDies
    | 5 => 4 * Config.iods
    | _ => 0
  if i < n then some (k, i) else none

/-- WHL_FUSEVAL as it reads. -/
def Dev.fuseVal (d : Dev) : Word :=
  match d.fuseSel with
  | none => BitVec.ofNat 64 (2 ^ 63)
  | some (k, i) =>
    let u := unitNo k i
    BitVec.ofNat 64 (b2n (d.boot.fmap.contains u) * 2 ^ 62 + b2n (d.boot.tbad.contains u) * 2 ^ 61 +
      b2n (d.boot.disc.contains u) * 2 ^ 60 + b2n (d.boot.ovr.contains u) * 2 ^ 59)

/-- The step that tests a kind of unit has not begun (R407). -/
def Dev.ovrInTime (d : Dev) (kind : Nat) : Bool :=
  let b := d.f pgWHL WHL_BOOT_BSTEP
  if kind = U_DIE ∨ kind = U_LINK then b < 4 && d.f pgWHL WHL_DISC_DSTATE = 0
  else if kind = U_CHAN ∨ kind = U_PKG then b < 5 && d.boot.step ≠ some 5
  else b < 6 && d.boot.step ≠ some 6

/-- A write of WHL_FUSECMD (R407, R408, R449). -/
def Dev.fuseWrite (d : Dev) (fu : Fuses) (port : Nat) (v : Word) : Fuses × Dev :=
  let w := d.hostWrite port (pgWHL + 0x520) v
  let d := w.d
  let ovr := bit w.acts 0
  let add := bit w.acts 1
  if !ovr && !add then (fu, d)
  else match d.fuseSel with
    | none => (fu, d.setf pgWHL WHL_FUSECMD_RESULT ST_DENIED)
    | some (k, i) =>
      let late := ovr && !d.ovrInTime k
      let d := if ovr && !late then { d with boot := { d.boot with ovr := setIns d.boot.ovr (unitNo k i) } } else d
      let fu := if add then { fu with bad := setIns fu.bad (unitNo k i) } else fu
      let d := if add || !late then d.rwpLog 0x520 v else d
      (fu, d.setf pgWHL WHL_FUSECMD_RESULT (if late then ST_DENIED else ST_OK))

/-- FUSE_OVR (R407). -/
def execFuseOvr (port : Nat) (s : State) : Host.Outcome State Fault Refusal :=
  s.runAll (decide (port < 2)) (fun fu d => d.fuseWrite fu port 1)

/-- FUSE_ADD (R408). -/
def execFuseAdd (port : Nat) (s : State) : Host.Outcome State Fault Refusal :=
  s.runAll (decide (port < 2)) (fun fu d => d.fuseWrite fu port 2)

/-! Firmware (R409 to R413, R440 to R443, R492). -/

/-- FSTATE and CAUSE. -/
def Dev.fwState (d : Dev) (st cause : Nat) : Dev := (d.setf pgWHL WHL_FWSTAT_FSTATE st).setf pgWHL WHL_FWSTAT_CAUSE cause

/-- Bytes of the staging buffer. -/
abbrev FWBUF : Nat := 0x2000000

/-- FW_STAGING_WRITE (R492): bytes are written through the staging window of a port. -/
def execFwStagingWrite (port off : Nat) (data : List Byte) (s : State) : Host.Outcome State Fault Refusal :=
  s.run (decide (port < 2 ∧ off + data.length ≤ FWBUF)) (fun _ d =>
    let st := d.f pgWHL WHL_FWSTAT_FSTATE
    if !d.hostUp port then d
    else if !d.owns port then d.ev pgWHL EV_OWN_DENIED
    else if st = 1 ∨ st = 3 then d
    else
      let d : Dev := { d with mem := memWrite d.mem (fwKey off) data }
      if st = 2 ∨ st = 5 then d.fwState 0 0 else d)

/-- A KEYSEL names a usable key: its hash (R441). -/
def Fuses.keyHash (fu : Fuses) (ks : Nat) : Option (BitVec 512) :=
  if ks = 0 then some fu.releaseKey
  else if ks ≤ 4 ∧ fu.enrolled.contains (ks - 1) ∧ !fu.revoked.contains (ks - 1) then some (SMap.get 0 fu.slots (ks - 1))
  else none

/-- The checks of an image (R441): 0 VERIFIED, 1 SIGNATURE, 2 LENGTH, 3 TYPE, as the IMAGE entry codes them (Table 15.2). -/
def imageCheck (fu : Fuses) (typ len : Nat) (b : List Byte) : Nat :=
  let at_ (i n : Nat) : List Byte := (b.drop i).take n
  let zero (i n : Nat) : Bool := (at_ i n).all (· = 0)
  let body := leNat (at_ 16 8)
  let pk := at_ (64 + body) 2592
  if leNat (at_ 0 4) ≠ 0x46574946 ∨ leNat (at_ 4 1) ≠ 1 ∨ leNat (at_ 5 1) ≠ typ ∨ !zero 7 1 ∨ !zero 12 4 ∨ !zero 24 40 then 3
  else if len ≠ body + 7283 then 2
  else match fu.keyHash (leNat (at_ 6 1)) with
    | none => 1
    | some h =>
      if Config.sha3 pk ≠ h then 1
      else if Config.mldsaVerify pk [70, 69, 82, 82, 65, 84, 72, 45, 70, 87, 45, 49] (at_ 0 (64 + body)) (at_ (2656 + body) 4627) then 0
      else 1

/-- The staged image as read with a length. -/
def Dev.imageBytes (d : Dev) (len : Nat) : List Byte := d.bytes (fwKey 0) (min len FWBUF)

/-- MEASURE (R410, R441): the digest is taken and the IMAGE entry appended. -/
def Dev.fwMeasure (d : Dev) (fu : Fuses) : Dev :=
  let st := d.f pgWHL WHL_FWSTAT_FSTATE
  if st = 1 ∨ st = 3 then d.setf pgWHL WHL_FWSTAT_CAUSE 4
  else
    let typ := d.f pgWHL WHL_FWCTL_TYPE
    let len := d.f pgWHL WHL_FWCTL_LEN
    let b := d.imageBytes len
    let dig := Config.sha3 b
    let svn := leNat ((b.drop 8).take 4)
    let ks := leNat ((b.drop 6).take 1)
    let c := imageCheck fu typ len b
    let d := (d.fwState 1 0).logAppend 1 typ svn (ks * 256 + c) dig
    { d with boot := { d.boot with staged := some { typ := typ, svn := svn, keysel := ks, digest := dig }, outcome := c } }

/-- The cause a failed check reads as (Table 14.10). -/
def fwCause (c : Nat) : Nat := if c = 3 then 5 else c

/-- The loading image is LOADED when every powered cluster has confirmed it or been removed (R411). -/
def Dev.loadCheck (d : Dev) : Dev :=
  match d.boot.staged with
  | none => d
  | some im =>
    if d.f pgWHL WHL_FWSTAT_FSTATE ≠ 3 ∨ (d.boot.confirm.filter (fun p => (d.cl p).on)) ≠ [] then d
    else
      let d : Dev := { d with boot := { d.boot with loaded := SMap.ins d.boot.loaded im.typ im, confirm := [] } }
      let d := (d.fwState 4 0).setf pgWHL WHL_FWSTAT_LOADEDM (d.f pgWHL WHL_FWSTAT_LOADEDM ||| 2 ^ im.typ)
      (d.logAppend 2 im.typ im.svn (d.f pgWHL WHL_FWSTAT_FAILN) im.digest).ev pgWHL EV_FW_DONE

/-- LOAD (R403, R411, R413, R443). -/
def Dev.fwLoad (d : Dev) (fu : Fuses) : Dev :=
  if d.f pgWHL WHL_BOOT_BSTEP < 8 then d.bootErr 1
  else if d.f pgWHL WHL_BOOT_BSTATE = 2 ∧ !(List.range Config.partitions).all (fun j =>
      (d.pst j = P_IDLE || d.pst j = P_ABORTED || d.pst j = P_STUCK) && !d.fb (pgPART j) PART_STEP_SUSPD) then
    d.setf pgWHL WHL_FWSTAT_CAUSE 4
  else match d.boot.staged with
    | none => d
    | some im =>
      if d.f pgWHL WHL_FWSTAT_FSTATE ≠ 2 then d
      else if (fu.keyHash im.keysel).isNone then d.fwState 5 1
      else
        let d := if d.f pgWHL WHL_BOOT_BSTEP = 8 then d.bootErr 0 else d
        let ps := if im.typ < 3 then (List.range Config.clusters).filter (fun p => (d.cl p).on) else []
        let d : Dev := { d with boot := { d.boot with confirm := ps } }
        let d := forL ps (fun p d => d.updCl p (fun c => { c with fwGot := setDel c.fwGot im.typ, fwTries := 0 })) d
        ((d.fwState 3 0).setf pgWHL WHL_FWSTAT_CONFN 0).loadCheck

/-- DROP (R409): the buffer is emptied. -/
def Dev.fwDrop (d : Dev) : Dev :=
  let st := d.f pgWHL WHL_FWSTAT_FSTATE
  if st = 1 ∨ st = 3 then d
  else
    let d : Dev := { d with mem := d.mem.filter (fun c => c.1 < fwKey 0 ∨ fwKey FWBUF ≤ c.1), boot := { d.boot with staged := none } }
    d.fwState 0 0

/-- A write of WHL_FWCTL: its actions in the order DROP, MEASURE, LOAD. -/
def Dev.fwWrite (d : Dev) (fu : Fuses) (port : Nat) (v : Word) : Dev :=
  d.onWrite port (pgWHL + 0x530) v (fun d a =>
    let d := if bit a 61 then d.fwDrop else d
    let d := if bit a 63 then d.fwMeasure fu else d
    if bit a 62 then d.fwLoad fu else d)

/-- WHL_FWCTL with TYPE and LEN as they stand. -/
def Dev.fwWord (d : Dev) (b : Nat) : Word :=
  BitVec.ofNat 64 (2 ^ b + d.f pgWHL WHL_FWCTL_TYPE * 2 ^ 56 + d.f pgWHL WHL_FWCTL_LEN)

/-- FW_MEASURE (R410). -/
def execFwMeasure (port typ len : Nat) (s : State) : Host.Outcome State Fault Refusal :=
  s.run (decide (port < 2 ∧ typ < 16 ∧ len < 2 ^ 26)) (fun fu d =>
    d.fwWrite fu port (BitVec.ofNat 64 (2 ^ 63 + typ * 2 ^ 56 + len)))

/-- FW_MEASURE_DONE (R410, R441). -/
def execFwMeasureDone (s : State) : Host.Outcome State Fault Refusal :=
  s.run true (fun _ d =>
    if d.f pgWHL WHL_FWSTAT_FSTATE ≠ 1 then d
    else if d.boot.outcome = 0 then d.fwState 2 0
    else d.fwState 5 (fwCause d.boot.outcome))

/-- FW_LOAD (R411). -/
def execFwLoad (port : Nat) (s : State) : Host.Outcome State Fault Refusal :=
  s.run (decide (port < 2)) (fun fu d => d.fwWrite fu port (d.fwWord 62))

/-- FW_DROP (R409). -/
def execFwDrop (port : Nat) (s : State) : Host.Outcome State Fault Refusal :=
  s.run (decide (port < 2)) (fun fu d => d.fwWrite fu port (d.fwWord 61))

/-- A cluster whose digest differs twice is removed (R411): DISABLED before release, RETIRED after it, unbraked. -/
def Dev.fwRemove (d : Dev) (p : Nat) : Dev :=
  let d := (d.addSat pgWHL WHL_FWSTAT_FAILN).ev pgWHL EV_FW_FAIL
  if d.f pgWHL WHL_BOOT_BSTATE = 2 then d.retireUnit U_CLUSTER p
  else (d.retireCluster p).setf (pgCLU p) CLU_STATE_PSTATE PS_DISABLED |>.discrepancy (unitNo U_CLUSTER p)

/-- FW_CONFIRM (R411): a cluster's digest agrees, or differs; the first time it differs the image is sent once more. -/
def execFwConfirm (p : Nat) (ok : Bool) (s : State) : Host.Outcome State Fault Refusal :=
  s.run (decide (p < Config.clusters)) (fun _ d =>
    match d.boot.staged with
    | none => d
    | some im =>
      if d.f pgWHL WHL_FWSTAT_FSTATE ≠ 3 ∨ !d.boot.confirm.contains p then d
      else
        let drop (d : Dev) : Dev := { d with boot := { d.boot with confirm := setDel d.boot.confirm p } }
        -- a cluster that has gone off meanwhile confirms nothing
        if !(d.cl p).on then (drop d).loadCheck
        else if ok then
          ((drop (d.updCl p (fun c => { c with fwGot := setIns c.fwGot im.typ }))).addSat pgWHL WHL_FWSTAT_CONFN).loadCheck
        else if (d.cl p).fwTries = 0 then d.updCl p (fun c => { c with fwTries := 1 })
        else ((drop d).fwRemove p).loadCheck)

/-- FW_CLUSTER_COPY_DONE (R412): a cluster powered later has copied the loaded images and confirms them, or fails twice. -/
def execFwClusterCopyDone (p : Nat) (ok : Bool) (s : State) : Host.Outcome State Fault Refusal :=
  s.run (decide (p < Config.clusters)) (fun _ d =>
    if !(d.cl p).on ∨ d.hasFw p ∨ d.boot.confirm.contains p then d
    else if ok then
      (d.updCl p (fun c => { c with fwGot := (d.boot.loaded.map (·.1)).foldl setIns c.fwGot, fwTries := 0 })).commitGo
    else if (d.cl p).fwTries = 0 then d.updCl p (fun c => { c with fwTries := 1 })
    else (d.fwRemove p).commitGo)

/-! Self-test in service (R418). -/

/-- A cluster is drained. -/
def Dev.drained (d : Dev) (p : Nat) : Bool :=
  let st := d.pstate p
  let j := d.partOf p
  st = PS_SPARE || st = PS_RETIRED || j = 15 ||
    ((d.pst j = P_IDLE || d.pst j = P_ABORTED || d.pst j = P_STUCK) && !d.fb (pgPART j) PART_STEP_SUSPD)

/-- A test begins. -/
def Dev.stestStart (d : Dev) (p : Nat) : Dev :=
  let d := d.updCl p (fun c => { c with stRun := true, stDefer := false })
  (d.setf (pgCLU p) CLU_STEST_RESULT 1).setf (pgCLU p) CLU_STEST_FAILBLK 0

/-- GO of CLU_STEST. -/
def Dev.stestGo (d : Dev) (p : Nat) : Dev :=
  if (d.cl p).stRun then d
  else if d.drained p then d.stestStart p
  else if d.fb (pgCLU p) CLU_STEST_DEFER then (d.updCl p (fun c => { c with stDefer := true })).setf (pgCLU p) CLU_STEST_RESULT 5
  else (d.updCl p (fun c => { c with stDefer := false })).setf (pgCLU p) CLU_STEST_RESULT 4

/-- A write of CLU_STEST. -/
def Dev.stestWrite (d : Dev) (port p : Nat) (v : Word) : Dev :=
  d.onWrite port (pgCLU p + 0x388) v (fun d a => if bit a 0 then d.stestGo p else d)

/-- CLU_STEST_GO (R418). -/
def execCluStestGo (port p : Nat) (dfr : Bool) (s : State) : Host.Outcome State Fault Refusal :=
  s.run (decide (port < 2 ∧ p < Config.clusters)) (fun _ d => d.stestWrite port p (BitVec.ofNat 64 (2 * b2n dfr + 1)))

/-- STEST_DEFERRED_START (R418). -/
def execStestDeferredStart (p : Nat) (s : State) : Host.Outcome State Fault Refusal :=
  s.run (decide (p < Config.clusters)) (fun _ d => if (d.cl p).stDefer ∧ d.drained p then d.stestStart p else d)

/-- A test ends with the first failing block, 0 for PASS. -/
def Dev.stestEnd (d : Dev) (p blk : Nat) : Dev :=
  let pg := pgCLU p
  let d := (d.updCl p (fun c => { c with stRun := false, needSeed := true })).areasIdle (fun a => a.key / 2 ^ 25 = csKey p 0 / 2 ^ 25)
  let d := d.zero (csKey p 0) STORE_END
  let d := ((d.setf pg CLU_STEST_RESULT (if blk = 0 then 2 else 3)).setf pg CLU_STEST_FAILBLK blk).ev pg EV_STEST_DONE
  if blk = 0 then d
  else if d.boot.step = some 6 then { d with boot := { d.boot with tbad := setIns d.boot.tbad (unitNo U_CLUSTER p) } }
  else if d.pstate p = PS_MAPPED ∨ d.pstate p = PS_SPLICE ∨ d.pstate p = PS_SPARE then (d.retireUnit U_CLUSTER p).commitGo
  else d

/-- STEST_DONE (R418): `blk` is the first failing test block, 0 when the cluster passes (log entry 8). -/
def execStestDone (p blk : Nat) (s : State) : Host.Outcome State Fault Refusal :=
  s.run (decide (p < Config.clusters ∧ blk < 65536)) (fun _ d => if (d.cl p).stRun ∧ (d.cl p).on then d.stestEnd p blk else d)

end Sys2Proof.Machine
end

