-- ==== Sys2Proof/Machine/Resets.lean ====
section
/-!
DEFINITION. Reset scopes and the panel freeze (R419, R420, R423).
-/

namespace Sys2Proof.Machine

/-! Clusters. -/

/-- A partition reset runs over a cluster. -/
def Dev.inPartReset (d : Dev) (p : Nat) : Bool := d.partOf p < 15 && d.pst (d.partOf p) = P_RESETTING

/-- A reset ends a self-test that runs: it reads FAIL (R420). Its store has been overwritten. -/
def Dev.stestCut (d : Dev) (p : Nat) : Dev :=
  if !(d.cl p).stRun then d
  else
    let d := (d.updCl p (fun c => { c with stRun := false, needSeed := true })).zero (csKey p 0) STORE_END
    (d.setf (pgCLU p) CLU_STEST_RESULT 3).ev (pgCLU p) EV_STEST_DONE

/-- A sequencer reset; within a wider reset that runs it is merged (R420). Draft engines stop as DSTOP with DRAIN = 1 (Table 4.4). -/
def Dev.seqScope (d : Dev) (p : Nat) : Dev :=
  let d := d.setf (pgCLU p) CLU_RST_RESULT ST_OK
  if (d.cl p).resetting || d.inPartReset p then d
  else d.seqReset p |> forN 4 (fun n d => d.dftStop p n true)

/-- A cluster reset begins; a MAPPED cluster of a step in RUN or DONE fails the step (R419). -/
def Dev.cluScope (d : Dev) (p : Nat) : Dev :=
  let d := d.setf (pgCLU p) CLU_RST_RESULT ST_OK
  if (d.cl p).resetting || d.inPartReset p then d
  else ((if d.pstate p = PS_MAPPED then d.unitLost p (unitWord U_CLUSTER p) (pgCLU p) else d).stestCut p).clusterReset p

/-- A write of CLU_RST: a wider request goes before a narrower one. -/
def Dev.cluRstWrite (d : Dev) (port p : Nat) (v : Word) : Dev :=
  d.onWrite port (pgCLU p + 0x380) v (fun d a => if bit a 1 then d.cluScope p else if bit a 0 then d.seqScope p else d)

/-- CLU_SEQ_RESET (R419). -/
def execCluSeqReset (port p : Nat) (s : State) : Host.Outcome State Fault Refusal :=
  s.run (decide (port < 2 ∧ p < Config.clusters)) (fun _ d =>
    d.cluRstWrite port p (BitVec.ofNat 64 (d.f (pgCLU p) CLU_RST_SCRUB * 256 + 1)))

/-- CLU_RESET (R419). -/
def execCluReset (port p : Nat) (scrub : Bool) (s : State) : Host.Outcome State Fault Refusal :=
  s.run (decide (port < 2 ∧ p < Config.clusters)) (fun _ d =>
    d.cluRstWrite port p (BitVec.ofNat 64 (b2n scrub * 256 + 2)))

/-- Transfers of a cluster's scope: its units', and those of the areas in its store. -/
def Dev.cluXfers (d : Dev) (p : Nat) : Bool :=
  d.net.xfers.any (fun x => Own.ofCluster p x.owner || (match x.owner with
    | .area k => k / 2 ^ 25 = csKey p 0 / 2 ^ 25
    | _ => false))

/-- A cluster reset ends: the fence is lifted unless the cluster is RETIRED. -/
def Dev.cluResetEnd (d : Dev) (p : Nat) (scrub : Bool) : Dev :=
  let pg := pgCLU p
  let d := if scrub then (d.zero (csKey p 0) STORE_END).updCl p (fun c => { c with needSeed := true }) else d
  let d := d.updCl p (fun c => { c with resetting := false, fenced := decide (d.pstate p = PS_RETIRED) })
  (d.setf pg CLU_RST_CLU 0).setf pg CLU_RST_RESULT ST_OK

/-- CLU_RESET_DONE (R419): every outstanding transfer of the scope is over. -/
def execCluResetDone (p : Nat) (s : State) : Host.Outcome State Fault Refusal :=
  s.run (decide (p < Config.clusters)) (fun _ d =>
    if !(d.cl p).resetting || d.inPartReset p || d.cluXfers p then d
    else d.cluResetEnd p (d.fb (pgCLU p) CLU_RST_SCRUB))

/-! Memory ranges. -/

/-- The local address of a memory key, by the band modes in force (R192, R194). -/
def Dev.keyAddr (d : Dev) (k : Nat) : Option Nat :=
  if k < 2 ^ 43 then
    let m := k / 2 ^ 37
    let y := k % 2 ^ 37
    let b := y / 2 ^ 30
    let q := y % 2 ^ 30 / 4096
    let o := match d.t1Mode b with
      | 0 => some ((q * 56 + (m + 112 - fold6 q) % 56) * 4096)
      | 1 => some (m / 2 * 2 ^ 31 + (2 * q + m % 2) * 4096)
      | 2 => some (m * 2 ^ 30 + q * 4096)
      | _ => none
    o.map (fun o => b * (56 * 2 ^ 30) + o + y % 4096)
  else if k < 2 ^ 44 then
    let p := (k - 2 ^ 43) / 2 ^ 36
    let z := (k - 2 ^ 43) % 2 ^ 36
    let b := z / 2 ^ 30
    let q := z % 2 ^ 30 / 4096
    let o := match d.t2Mode b with
      | 0 => (q * 64 + (p ^^^ fold6 q)) * 4096
      | 1 => p / 4 * 2 ^ 32 + (4 * q + p % 4) * 4096
      | _ => p * 2 ^ 30 + q * 4096
    some (2 ^ 48 + b * 2 ^ 36 + o + z % 4096)
  else none

/-- Memory whose local address meets a test reads zero and is clean. -/
def Dev.zeroWhere (d : Dev) (f : Nat → Bool) : Dev :=
  let hit (k : Nat) : Bool := match d.keyAddr k with
    | some a => f a
    | none => false
  let lines := d.sour.flatMap (fun x =>
    ((List.range (2 ^ 31)).map (fun l => t1Key (x / 32) (64 * l))).filter (fun g => t1Channel (g % 2 ^ 37) = x % 32 && hit g))
  let d := forL (d.pois.filter (fun g => hit g && !d.sourAt g)) (fun g d => d.setPois g false) d
  let d := forL lines (fun g d => d.setPois g false) d
  { d with mem := d.mem.filter (fun c => !hit c.1), upsets := d.upsets.filter (fun u => !hit u.1) }

/-- The address lies in a valid PART_MEMi range of a partition (R415). -/
def Dev.inLimits (d : Dev) (j a : Nat) : Bool :=
  (List.range 8).any (fun i => d.effF (pgPART j) PART_MEMi_SIZE_V i = 1 &&
    decide (d.effF (pgPART j) PART_MEMi_BASE_BASE i * 4096 ≤ a ∧
      a < (d.effF (pgPART j) PART_MEMi_BASE_BASE i + d.effF (pgPART j) PART_MEMi_SIZE_NPG i) * 4096))

/-! Partitions. -/

/-- A partition reset begins (R310, R419): skeins first, then every cluster in parallel; one that runs already takes a further
request in (R420). -/
def Dev.partReset (d : Dev) (j : Nat) : Dev :=
  let pg := pgPART j
  let d := d.setf pg PART_RST_RESULT ST_OK
  if d.pst j = P_RESETTING then d
  else
    let ms := d.members j
    let fs := d.followers j
    let d := d.skPartReset j
    let d := forL ms (fun p d => (d.stestCut p).clusterReset p) d
    let d := forL fs (fun p d =>
      ((forN 4 (fun n d => d.dftAbort p n true) ((d.seqReset p).absorb (Own.ofCluster p))).dropPly p).updCl p (fun c => { c with rlog := [] })) d
    let d := (d.areasIdle (fun a => d.areaPart a = j)).absorb (fun o => o = .mirror j)
    let d := (d.setf pg PART_CMT_STATE P_RESETTING).setf pg PART_RST_RST 1
    d.updPt j (fun q => { q with phase := .reset, replay := false, flags := [], fwd := [], digs := [],
                                 scrub := d.f pg PART_RST_SCRUB })

/-- A write of PART_RST. -/
def Dev.rstWrite (d : Dev) (port j : Nat) (v : Word) : Dev :=
  d.onWrite port (pgPART j + 0x908) v (fun d a => if bit a 0 then d.partReset j else d)

/-- PART_RESET (R419). -/
def execPartReset (port j scrub : Nat) (s : State) : Host.Outcome State Fault Refusal :=
  s.run (decide (port < 2 ∧ j < Config.partitions ∧ scrub < 4)) (fun _ d =>
    d.rstWrite port j (BitVec.ofNat 64 (scrub * 256 + 1)))

/-- A partition reset ends: IDLE (Table 14.4); the job key and VALID are cleared (R470). -/
def Dev.partResetEnd (d : Dev) (j : Nat) : Dev :=
  let pg := pgPART j
  let sc := (d.pt j).scrub
  let d := forL (d.members j) (fun p d => d.cluResetEnd p (decide (1 ≤ sc))) d
  let d := if sc = 2 then d.zeroWhere (fun a => d.inLimits j a) else d
  let d := ((d.setReg (pg + 0x80) 0).setReg (pg + 0x88) 0).setf pg PART_JKCTL_VALID 0
  let d := d.updPt j (fun q => { q with k0 := 0, k1 := 0 })
  let d : Dev := { d with slub := { d.slub with msgProb := setDel d.slub.msgProb (slubKey U_PANEL j) } }
  let d := ((d.setf pg PART_CMT_STATE P_IDLE).setf pg PART_CMT_FAILC 0).setf pg PART_CMTST_RPLN 0
  ((d.setf pg PART_STEP_SUSPD 0).setf pg PART_RST_RST 0).setf pg PART_RST_RESULT ST_OK

/-- PART_RESET_DONE (R419, R315): when the transfers of the scope are over the drain flip is run, and after it the reset ends. -/
def execPartResetDone (j : Nat) (s : State) : Host.Outcome State Fault Refusal :=
  s.run (decide (j < Config.partitions)) (fun _ d =>
    if d.pst j ≠ P_RESETTING then d
    else match (d.pt j).phase with
      | .reset =>
        if d.partXfers j || (d.members j).any (fun p => d.cluXfers p) then d
        else (d.updPt j (fun q => { q with phase := .resetFlip })).drainFlip j
      | .none => d.partResetEnd j
      | _ => d)

/-! The panel. -/

/-- A panel reset (Table 14.4): as after the hardware stage. Kept: links of the host ports and their configuration space, the
active whorl die, the log, presence, what is remembered since power-up (R444, R447, R450), and what stands at the input and the
coolant (R366, R396). -/
def Dev.panelReset (d : Dev) (fu : Fuses) : Dev :=
  let d := d.logAppend 7 0 0 0
  let n := stageDev fu (d.f pgWHL WHL_CLKSTAT_WD) d.free
  let n : Dev := { n with
    ports := d.ports.map (fun x => (x.1, { x.2 with vmap := [], logLatch := [], derrAt := none }))
    sec := { d.sec with keyCmd := none, draft := [], report := [], leaseEnd := 0 }
    pwr := { n.pwr with underV := d.pwr.underV, coolCrit := d.pwr.coolCrit } }
  ((n.setf pgWHL WHL_SECST_FORCED (d.f pgWHL WHL_SECST_FORCED)).setf pgWHL WHL_SECST_LOOP (d.f pgWHL WHL_SECST_LOOP)).setf
    pgWHL WHL_SECST_INPUT (d.f pgWHL WHL_SECST_INPUT) |>.setf pgWHL WHL_DBG_SEEN (d.f pgWHL WHL_DBG_SEEN)

/-- The panel freezes (R423): ncap is held at 1, and a frequency change that is pending is cancelled. -/
def Dev.freeze (d : Dev) : Dev :=
  let d := forN Config.hanks (fun h d => d.setNcap h 1) d
  let d := if d.f pgWHL WHL_FREQ_FSTATE = 1 then
      { d with clk := { d.clk with ramped := [] } }.setf pgWHL WHL_FREQ_FSTATE 0
    else d
  d.setf pgWHL WHL_PRST_FROZEN 1

/-- A write of WHL_PRST: PANEL and FREEZE act with KEY 0xA5 only. -/
def Dev.prstWrite (d : Dev) (fu : Fuses) (port : Nat) (v : Word) : Dev :=
  d.onWrite port (pgWHL + 0x540) v (fun d a =>
    if fld v 63 56 ≠ 0xA5 then d
    else if bit a 0 then d.panelReset fu
    else if bit a 1 && !d.frozen then d.freeze
    else d)

/-- WHL_PRST with the key and an action bit. -/
def prstWord (b : Nat) : Word := BitVec.ofNat 64 (0xA5 * 2 ^ 56 + 2 ^ b)

/-- PANEL_RESET (R419). -/
def execPanelReset (port : Nat) (s : State) : Host.Outcome State Fault Refusal :=
  s.runFrozen (decide (port < 2)) (fun fu d => d.prstWrite fu port (prstWord 0))

/-- PANEL_FREEZE (R423). -/
def execPanelFreeze (port : Nat) (s : State) : Host.Outcome State Fault Refusal :=
  s.runFrozen (decide (port < 2)) (fun fu d => d.prstWrite fu port (prstWord 1))

end Sys2Proof.Machine
end

