-- ==== Sys2Proof/Machine/Security.lean ====
section
/-!
DEFINITION. Control ownership (R432), physical presence (R447 to R449), owner keys (R442), debug mode (R450) and
attestation reports (R446).
-/

namespace Sys2Proof.Machine

/-! Ownership (R432). -/

/-- The lease in counts of GT: 2 s. -/
def LEASE : Nat := 8000000000

/-- OWNER becomes a port's code, with a new lease; a change raises EV_OWN_CHANGE. -/
def Dev.setOwner (d : Dev) (o : Nat) (always : Bool) : Dev :=
  let changed := always || d.f pgWHL WHL_OWN_OWNER != o
  let d := (d.setf pgWHL WHL_OWN_OWNER o).setf pgWHL WHL_OWN_EXPIRED 0
  let d : Dev := { d with sec := { d.sec with leaseEnd := d.gt + LEASE } }
  if changed then d.ev pgWHL EV_OWN_CHANGE else d

/-- RESULT of WHL_OWN. -/
def Dev.ownResult (d : Dev) (st : Nat) : Dev := d.setf pgWHL WHL_OWN_RESULT st

/-- CAS by a port. -/
def Dev.ownCas (d : Dev) (port expect new : Nat) : Dev :=
  let w := port + 1
  let owner := d.f pgWHL WHL_OWN_OWNER
  let may := owner = expect ∧ (expect = 0 ∨ expect = w ∨ d.fb pgWHL WHL_OWN_EXPIRED)
  if may ∧ (new = w ∨ owner = w) then (d.setOwner new false).ownResult ST_OK else d.ownResult ST_DENIED

/-- RENEW by a port: its lease restarts. -/
def Dev.ownRenew (d : Dev) (port : Nat) : Dev :=
  if d.owns port then (d.setOwner (port + 1) false).ownResult ST_OK else d.ownResult ST_DENIED

/-- FORCE by a port, under presence. -/
def Dev.ownForce (d : Dev) (port : Nat) (v : Word) : Dev :=
  ((d.setOwner (port + 1) true).setf pgWHL WHL_SECST_FORCED 1).rwpLog 0x548 v |>.ownResult ST_OK

/-- A write of WHL_OWN: its actions in the order CAS, RENEW, FORCE. -/
def Dev.ownWrite (d : Dev) (port : Nat) (v : Word) : Dev :=
  d.onWrite port (pgWHL + 0x548) v (fun d a =>
    let d := if bit a 55 then d.ownCas port (fld v 59 58) (fld v 57 56) else d
    let d := if bit a 54 then d.ownRenew port else d
    if bit a 53 then d.ownForce port v else d)

/-- OWN_CAS. -/
def execOwnCas (port expect new : Nat) (s : State) : Host.Outcome State Fault Refusal :=
  s.runFrozen (decide (port < 2 ∧ expect < 4 ∧ new < 4)) (fun _ d =>
    d.ownWrite port (BitVec.ofNat 64 (expect * 2 ^ 58 + new * 2 ^ 56 + 2 ^ 55)))

/-- WHL_OWN with EXPECT and NEW as they stand, and one action. -/
def Dev.ownWord (d : Dev) (b : Nat) : Word :=
  BitVec.ofNat 64 (d.f pgWHL WHL_OWN_EXPECT * 2 ^ 58 + d.f pgWHL WHL_OWN_NEW * 2 ^ 56 + 2 ^ b)

/-- OWN_RENEW. -/
def execOwnRenew (port : Nat) (s : State) : Host.Outcome State Fault Refusal :=
  s.runFrozen (decide (port < 2)) (fun _ d => d.ownWrite port (d.ownWord 54))

/-- OWN_FORCE. -/
def execOwnForce (port : Nat) (s : State) : Host.Outcome State Fault Refusal :=
  s.runFrozen (decide (port < 2)) (fun _ d => d.ownWrite port (d.ownWord 53))

/-- What is left of the lease, in µs. -/
def Dev.leaseLeft (d : Dev) : Nat := if d.f pgWHL WHL_OWN_OWNER = 0 then 0 else (d.sec.leaseEnd - d.gt) / 4000

/-- OWN_LEASE_EXPIRY: the lease has reached zero; OWNER stays. -/
def execOwnLeaseExpiry (s : State) : Host.Outcome State Fault Refusal :=
  s.runFrozen true (fun _ d =>
    if d.f pgWHL WHL_OWN_OWNER ≠ 0 ∧ d.sec.leaseEnd ≤ d.gt then d.setf pgWHL WHL_OWN_EXPIRED 1 else d)

/-! Presence (R447, R448). -/

/-- Presence becomes active or inactive: an event and a log entry; `sub` 1: by the seal fuse. -/
def Dev.setPresence (d : Dev) (on : Bool) : Dev :=
  if d.sec.presence = on then d
  else ({ d with sec := { d.sec with presence := on } }.logAppend 4 0 (b2n on) 0).ev pgWHL EV_PRES_CHANGE

/-- PRESENCE_ASSERT_HELD (R447): the input has been asserted for 2.0 s. -/
def execPresenceAssertHeld (s : State) : Host.Outcome State Fault Refusal :=
  s.runFrozen true (fun _ d => (d.setf pgWHL WHL_SECST_INPUT 1).setPresence true)

/-- PRESENCE_RELEASE (R447): the input has been released for 10 ms; a blown seal fuse keeps presence active. -/
def execPresenceRelease (s : State) : Host.Outcome State Fault Refusal :=
  s.runFrozen true (fun fu d => (d.setf pgWHL WHL_SECST_INPUT 0).setPresence fu.sealBlown)

/-- SEAL_LOOP_OPEN (R448): the open loop blows the seal fuse. One PRES entry tells it, and that presence is active. -/
def execSealLoopOpen (s : State) : Host.Outcome State Fault Refusal :=
  s.runAllFrozen true (fun fu d =>
    let d := d.setf pgWHL WHL_SECST_LOOP 1
    if fu.sealBlown then (fu, d)
    else
      let was := d.sec.presence
      let d := { d with sec := { d.sec with presence := true } }.logAppend 4 1 1 0
      ({ fu with sealBlown := true }, if was then d else d.ev pgWHL EV_PRES_CHANGE))

/-! Owner keys (R442). -/

/-- The hash in a port's WHL_KEYHASH0..7. -/
def Dev.keyHashReg (d : Dev) (port : Nat) : BitVec 512 :=
  BitVec.ofNat 512 ((List.range 8).foldl (fun a i => a + (d.reg (portReg port (0x740 + 8 * i))).toNat * 2 ^ (64 * i)) 0)

/-- RESULT of WHL_KEYCMD. -/
def Dev.keyResult (d : Dev) (st : Nat) : Dev := d.setf pgWHL WHL_KEYCMD_RESULT st

/-- ENROL: accepted, or refused. -/
def Dev.keyEnrol (d : Dev) (fu : Fuses) (port : Nat) (v : Word) : Dev :=
  let s := d.f pgWHL WHL_KEYCMD_SLOT
  if d.sec.keyCmd.isSome then d.keyResult ST_BUSY
  else if fu.enrolled.contains s ∨ fu.revoked.contains s then d.keyResult ST_DENIED
  else
    let h := d.keyHashReg port
    { d with sec := { d.sec with keyCmd := some (true, s, h) } }.rwpLog 0x610 v h

/-- REVOKE: accepted, or refused while a command runs. -/
def Dev.keyRevoke (d : Dev) (v : Word) : Dev :=
  if d.sec.keyCmd.isSome then d.keyResult ST_BUSY
  else { d with sec := { d.sec with keyCmd := some (false, d.f pgWHL WHL_KEYCMD_SLOT, 0) } }.rwpLog 0x610 v

/-- A write of WHL_KEYCMD: ENROL before REVOKE. -/
def Dev.keyWrite (d : Dev) (fu : Fuses) (port : Nat) (v : Word) : Dev :=
  d.onWrite port (pgWHL + 0x610) v (fun d a =>
    let d := if bit a 0 then d.keyEnrol fu port v else d
    if bit a 1 then d.keyRevoke v else d)

/-- KEY_ENROL. -/
def execKeyEnrol (port slot : Nat) (s : State) : Host.Outcome State Fault Refusal :=
  s.run (decide (port < 2 ∧ slot < 4)) (fun fu d => d.keyWrite fu port (BitVec.ofNat 64 (slot * 16 + 1)))

/-- KEY_REVOKE. -/
def execKeyRevoke (port slot : Nat) (s : State) : Host.Outcome State Fault Refusal :=
  s.run (decide (port < 2 ∧ slot < 4)) (fun fu d => d.keyWrite fu port (BitVec.ofNat 64 (slot * 16 + 2)))

/-- The fuses after a key command. -/
def Fuses.keyBlow (fu : Fuses) (enrol : Bool) (slot : Nat) (h : BitVec 512) : Fuses :=
  if enrol then { fu with slots := SMap.set 0 fu.slots slot h, enrolled := setIns fu.enrolled slot }
  else { fu with revoked := setIns fu.revoked slot }

/-- KEYCMD_DONE: the fuses are blown. -/
def execKeycmdDone (s : State) : Host.Outcome State Fault Refusal :=
  s.runAllFrozen true (fun fu d =>
    match d.sec.keyCmd with
    | none => (fu, d)
    | some (enrol, slot, h) =>
      (fu.keyBlow enrol slot h, { d with sec := { d.sec with keyCmd := none } }.keyResult ST_OK))

/-! Debug mode (R450). -/

/-- Debug mode is entered. -/
def Dev.dbgEnter (d : Dev) (v : Word) : Dev :=
  let was := d.fb pgWHL WHL_DBG_EN
  let d := d.rwpLog 0x618 v
  if was then d else ((d.setf pgWHL WHL_DBG_EN 1).setf pgWHL WHL_DBG_SEEN 1).logAppend 6 1 0 0

/-- Debug mode is left. -/
def Dev.dbgLeave (d : Dev) : Dev :=
  if d.fb pgWHL WHL_DBG_EN then (d.setf pgWHL WHL_DBG_EN 0).logAppend 6 0 0 0 else d

/-- A write of WHL_DBG: EN before EXIT. -/
def Dev.dbgWrite (d : Dev) (port : Nat) (v : Word) : Dev :=
  d.onWrite port (pgWHL + 0x618) v (fun d a =>
    let d := if bit a 0 then d.dbgEnter v else d
    if bit a 2 then d.dbgLeave else d)

/-- DBG_ENTER. -/
def execDbgEnter (port : Nat) (s : State) : Host.Outcome State Fault Refusal :=
  s.run (decide (port < 2)) (fun _ d => d.dbgWrite port 1)

/-- DBG_EXIT. -/
def execDbgExit (port : Nat) (s : State) : Host.Outcome State Fault Refusal :=
  s.run (decide (port < 2)) (fun _ d => d.dbgWrite port 4)

/-! Attestation (R446). -/

/-- The generation that WHL_GENNUM calls current, and the one before it: until a commit's flip is over, those before it. -/
def Dev.genNow (d : Dev) : Gen :=
  match d.gens.job with
  | some (.commit old _ _) => old
  | _ => d.gens.cur

/-- FLAGS of the report. -/
def Dev.attFlags (d : Dev) (fu : Fuses) : Nat :=
  b2n d.sec.presence + 2 * b2n fu.sealBlown + 4 * d.f pgWHL WHL_DBG_SEEN + 8 * d.f pgWHL WHL_DBG_EN +
    16 * b2n (d.boot.ovr != []) + 32 * d.f pgWHL WHL_SECST_FORCED

/-- A port's nonce. -/
def Dev.nonce (d : Dev) (port : Nat) : List Byte :=
  (List.range 8).flatMap (fun i => leBytes 8 (d.reg (portReg port (0x700 + 8 * i))).toNat)

/-- The loaded image of a type. -/
def Dev.imageOf (d : Dev) (t : Nat) : Option Image := (d.boot.loaded.find? (fun x => x.1 = t)).map (·.2)

/-- Bits of a set of slots. -/
def slotBits (l : List Nat) : Nat := l.foldl (fun a s => a + 2 ^ s) 0

/-- Bytes 0..831 of the report (Table 15.4). -/
def Dev.attBody (d : Dev) (fu : Fuses) (port : Nat) : List Byte :=
  let imgs := (List.range 4).map d.imageOf
  leBytes 4 0x41545446 ++ leBytes 1 1 ++ leBytes 1 (d.attFlags fu) ++ leBytes 2 fu.code ++ leBytes 8 fu.serial.toNat ++
    leBytes 8 d.gt ++ leBytes 8 d.sec.count ++ d.nonce port ++ hashBytes (Config.sha3 d.sec.idKey) ++ hashBytes d.sec.chain ++
    leBytes 4 (d.f pgWHL WHL_GENNUM_CUR) ++ leBytes 4 (d.f pgWHL WHL_GENNUM_PREV) ++ hashBytes d.genNow.hash ++
    imgs.flatMap (fun i => hashBytes ((i.map (·.digest)).getD 0)) ++
    imgs.flatMap (fun i => leBytes 4 ((i.map (·.svn)).getD 0)) ++
    imgs.flatMap (fun i => leBytes 1 ((i.map (·.keysel)).getD 0xFF)) ++
    leBytes 4 (slotBits fu.enrolled + 16 * slotBits fu.revoked) ++
    (List.range 4).flatMap (fun s => hashBytes (if fu.enrolled.contains s then SMap.get 0 fu.slots s else 0))

/-- REQ by a port: taken, or refused while a report is built. -/
def Dev.attReq (d : Dev) (fu : Fuses) (port : Nat) : Dev :=
  if d.f pgWHL WHL_ATTCTL_STATE = 1 then d.setf pgWHL WHL_ATTCTL_RESULT ST_BUSY
  else
    let d := { d with sec := { d.sec with draft := d.attBody fu port } }
    (d.setf pgWHL WHL_ATTCTL_STATE 1).setf pgWHL WHL_ATTCTL_RESULT ST_OK

/-- A write of WHL_ATTCTL. -/
def Dev.attWrite (d : Dev) (fu : Fuses) (port : Nat) (v : Word) : Dev :=
  d.onWrite port (pgWHL + 0x6B0) v (fun d a => if bit a 0 then d.attReq fu port else d)

/-- ATT_REQ. -/
def execAttReq (port : Nat) (s : State) : Host.Outcome State Fault Refusal :=
  s.run (decide (port < 2)) (fun fu d => d.attWrite fu port 1)

/-- The context string of the report's signature. -/
def attContext : List Byte := [70, 69, 82, 82, 65, 84, 72, 45, 65, 84, 45, 49]

/-- ATT_DONE: the report is signed. -/
def execAttDone (s : State) : Host.Outcome State Fault Refusal :=
  s.runFrozen true (fun fu d =>
    if d.f pgWHL WHL_ATTCTL_STATE ≠ 1 then d
    else
      let b := d.sec.draft
      let d : Dev := { d with sec := { d.sec with report := b ++ Config.mldsaSign fu.seed attContext b, draft := [] } }
      ((d.setf pgWHL WHL_ATTCTL_STATE 2).addWrap pgWHL WHL_ATTCTL_SEQ).ev pgWHL EV_ATT_DONE)

end Sys2Proof.Machine
end

