-- ==== Sys2Proof/Machine/Reads.lean ====
section
/-!
DEFINITION. What a host reads (R21, R452 to R462, R473, R475): the header of every page, the registers whose value is
computed from the state, and the reads that latch or step (R93, R280, R451).
-/

namespace Sys2Proof.Machine

/-! The common header (R455, R456). -/

/-- CLASS of a page (Table 16.1). -/
def classCode : Cls → Nat
  | .whl => 1
  | .hnk => 2
  | .die => 3
  | .part => 4
  | .dist => 5
  | .rtr => 6
  | .dbl => 7
  | .opt => 8
  | .mbd => 9
  | .iod => 10
  | .clu => 11
  | .skn => 12
  | .tub => 13
  | .tubp => 13
  | .tubm => 13
  | .none => 0

/-- ERR_LOG words that the blocks of a class write: six where a chapter gives them a record (R60, R291, Table 16.9). -/
def nlog : Cls → Nat
  | .whl => 6
  | .clu => 6
  | _ => 0

/-- CAUSE and not MASK is non-zero. -/
def Dev.pend (d : Dev) (page : Nat) : Bool := (d.reg (page + 0x20) &&& ~~~ d.reg (page + 0x28)) != 0

/-- The header word at an offset below 0x80. ID and VERSION are read together at 0. -/
def Dev.hdrRead (d : Dev) (fu : Fuses) (c : Cls) (n page o : Nat) : Word :=
  let on := d.pageOn c n
  match o with
  | 0x00 => BitVec.ofNat 64 (classCode c * 2 ^ 24 + n + 0x03200100 * 2 ^ 32)
  | 0x08 =>
    let bcap := if c = .whl then fu.cap * 2 ^ 32 + fu.ceiling * 2 ^ 24 + fu.code * 2 ^ 16 else 0
    if on then BitVec.ofNat 64 (bcap + nlog c * 2 ^ 8 + nevt c n) else 0
  | 0x18 => BitVec.ofNat 64 (b2n on + (if on then 2 * b2n (d.pend page) + 4 * d.f page HDR_STATUS_LOGV else 0))
  | 0x30 => 0
  | _ => if on then d.reg (page + o) else 0

/-! Computed registers. -/

/-- CLU_DFTn_STATUS (Table 4.12). -/
def Draft.status (e : Draft) : Word :=
  let st : Nat := match e.st with
    | .idle => 0
    | .run => 1
    | .full => 2
    | .done => 3
    | .stopped => 4
    | .suspended => 5
  BitVec.ofNat 64 (e.first % 16 * 2 ^ 48 + sat 16 e.errs * 2 ^ 32 + e.descOff % 2 ^ 25 / 64 * 2 ^ 6 + e.cause % 8 * 2 ^ 3 + st)

/-- CLU_DFTn_COUNT. -/
def Draft.countWord (e : Draft) : Word := BitVec.ofNat 64 (sat 16 e.rwd * 2 ^ 48 + e.signalled % 2 ^ 48)

/-- The accumulator element that CLU_ACC_SEL names, and the META word (R93, Table 3.12). -/
def Dev.accView (d : Dev) (p : Nat) : BitVec 96 × Word :=
  let pg := pgCLU p
  let c := d.cl p
  let set := d.f pg CLU_ACC_SEL_SET
  let s := if set = 0 then c.acc0 else c.acc1
  let k := d.f pg CLU_ACC_SEL_ROW * 256 + d.f pg CLU_ACC_SEL_COL
  let busy := match c.pass with
    | some x => x.set = set
    | none => false
  (SMap.get 0 s.a k, BitVec.ofNat 64 (b2n busy * 2 ^ 23 + b2n s.wrapped * 2 ^ 22 + s.rtry % 8 * 2 ^ 19 +
    (SMap.get 0 s.spec k).toNat * 2 ^ 16 + wrap 12 s.l))

/-- A CLU register (chapters 02, 03, 04, 10). -/
def Dev.cluRead (d : Dev) (p o : Nat) : Word :=
  let pg := pgCLU p
  let w := d.reg (pg + o)
  let c := d.cl p
  match o with
  | 0x90 => seqStatus c.seq
  | 0xC8 =>
    -- the time gated so far counts (R281)
    let now := match c.gatedAt with
      | some g => (d.gt - g) / 4000
      | none => 0
    setFld w CLU_PARK_PARKUS.hi CLU_PARK_PARKUS.lo ((d.f pg CLU_PARK_PARKUS + now) % 2 ^ 48)
  | 0x100 => if d.fb pgWHL WHL_DBG_EN then w else 0
  | 0x108 => if d.fb pgWHL WHL_DBG_EN then BitVec.ofNat 64 (d.accView p).1.toNat else 0
  | 0x110 => if d.fb pgWHL WHL_DBG_EN then w else 0
  | 0x118 => if d.fb pgWHL WHL_DBG_EN then w else 0
  | 0x200 => (c.eng 0).status
  | 0x208 => (c.eng 0).countWord
  | 0x210 => (c.eng 1).status
  | 0x218 => (c.eng 1).countWord
  | 0x220 => (c.eng 2).status
  | 0x228 => (c.eng 2).countWord
  | 0x230 => (c.eng 3).status
  | 0x238 => (c.eng 3).countWord
  | 0x310 => let s := d.score U_CLUSTER p; setFld (setFld w 31 0 s.s) 63 63 (b2n s.prob)
  | 0x318 => setFld w 31 0 (d.score U_CHECKER p).s
  | _ => w

/-- A PART register (R470, Table 10.14). -/
def Dev.partRead (d : Dev) (j o : Nat) : Word :=
  let w := d.reg (pgPART j + o)
  match o with
  | 0x80 => 0
  | 0x88 => 0
  | 0x508 => setFld w (PART_PLYSTAT_OPEN.hi) (PART_PLYSTAT_OPEN.lo) (sat (PART_PLYSTAT_OPEN.hi + 1 - PART_PLYSTAT_OPEN.lo) (d.plyOpen j))
  | _ => w

/-- Telemetry as RTR_TPKTS and its fellows read: packets, bytes, depth, high-water mark, stall cycles (Table 5.16). -/
def Dev.telView (d : Dev) (e : Nat) : Nat × Nat × Nat × Nat × Nat :=
  let pg := pgRTR e
  let i := d.f pg RTR_TSEL_ROUTER * 32 + d.f pg RTR_TSEL_PORT * 4 + d.f pg RTR_TSEL_VC
  if d.fb pg RTR_TSEL_SNAP then SMap.get (0, 0, 0, 0, 0) d.net.telSnap (e * 256 + i)
  else
    let t := SMap.get {} d.net.tel (e * 256 + i)
    (t.pkts, t.bytes, d.telDepth e i, t.hwm, t.stall)

/-- RTR_RESID of an epoch (Table 5.14). -/
def Dev.residView (d : Dev) (e ep : Nat) : Word :=
  BitVec.ofNat 64 (b2n (d.net.touch.contains (2 * e + ep)) * 2 ^ 63 + d.residue e ep % 2 ^ 32)

/-- An RTR register (chapter 05). -/
def Dev.rtrRead (d : Dev) (e o : Nat) : Word :=
  let w := d.reg (pgRTR e + o)
  match o with
  | 0x80 => BitVec.ofNat 64 (e * 2 ^ 8 + 2 * d.f pgWHL WHL_RTCTL_OPTRDY + d.inje e)
  | 0x90 => d.tblRead e
  | 0x98 => BitVec.ofNat 64 (d.bankSum 1 e * 2 ^ 32 + d.bankSum 0 e)
  | 0xB0 => d.residView e 0
  | 0xB8 => d.residView e 1
  | 0xD0 => BitVec.ofNat 64 ((d.telView e).1 % 2 ^ 48)
  | 0xD8 => BitVec.ofNat 64 ((d.telView e).2.1 % 2 ^ 48)
  | 0xE0 => let t := d.telView e; BitVec.ofNat 64 (sat 16 t.2.2.2.1 * 2 ^ 16 + sat 16 t.2.2.1)
  | 0xE8 => BitVec.ofNat 64 ((d.telView e).2.2.2.2 % 2 ^ 48)
  | _ => w

/-- Planes in service at an endpoint: one channel of the plane at least is in service with a present peer. -/
def Dev.planeHere (d : Dev) (e pl : Nat) : Bool :=
  !d.opt.outPlanes.contains pl && (List.range Config.endpoints).any (fun b => (d.planeList e b).contains pl)

/-- Bits of a test over 0..n − 1. -/
def maskOf (n : Nat) (f : Nat → Bool) : Nat := (List.range n).foldl (fun a i => if f i then a + 2 ^ i else a) 0

/-- An OPT register (R187, Tables 6.11 to 6.14). -/
def Dev.optRead (d : Dev) (e o : Nat) : Word :=
  let pg := pgOPT e
  let w := d.reg (pg + o)
  let b := d.f pg OPT_PSEL_PEER
  let pl := d.f pg OPT_PSEL_PLANE
  let cnt := SMap.get {} d.opt.cnt (dirKey e b * 16 + pl)
  let none_ := decide (Config.endpoints ≤ b) || b = e
  match o with
  | 0x80 => setFld (setFld w 47 32 (maskOf 16 (d.planeHere e))) 31 16 (maskOf 16 (fun p => d.opt.relock = some p))
  | 0x90 =>
    if none_ then 0
    else
      let c := SMap.get (d.chanDef e b) d.opt.chan (pairKey e b * 16 + pl)
      let lat := if d.opt.cal.contains e ∧ d.opt.cal.contains b then d.pairLat e b else 0
      BitVec.ofNat 64 (lat % 256 * 2 ^ 48 + c.cls % 4 * 2 ^ 46 + sat 40 cnt.corr)
  | 0x98 => if none_ then 0 else BitVec.ofNat 64 (sat 32 cnt.uncorr * 2 ^ 32 + sat 32 cnt.resend)
  | _ => w

/-- A host port's HP_STAT (Table 17.9). -/
def HostPort.stat (h : HostPort) : Word :=
  if h.up then BitVec.ofNat 64 (h.width % 32 * 2 ^ 8 + h.speed % 8 * 2 ^ 4 + 2) else 0

/-- An IOD register. -/
def Dev.iodRead (d : Dev) (k o : Nat) : Word :=
  if o = 0x200 ∧ (k = 0 ∨ k = 8) then (d.hp (k / 8)).stat
  else if (o = 0x840 ∨ o = 0x8C0) ∧ !d.fb (pgIOD k + o - 0xC0) DBL_STATE_DBGV then 0
  else d.reg (pgIOD k + o)

/-- An HNK register (Tables 13.9, 13.11). -/
def Dev.hnkRead (d : Dev) (h o : Nat) : Word :=
  let w := d.reg (pgHNK h + o)
  match o with
  | 0x98 => setFld w (HNK_TEMP_HOTN.hi) (HNK_TEMP_HOTN.lo) (d.hotn h)
  | 0xC0 => BitVec.ofNat 64 (sat 32 (d.life h))
  | _ => w

/-- DIE_LOC (Table 16.13). -/
def Dev.dieRead (d : Dev) (fu : Fuses) (e o : Nat) : Word :=
  let w := d.reg (pgDIE e + o)
  match o with
  | 0x80 => setFld (setFld (setFld (setFld w 63 32 (fu.serialOf e).toNat) 20 16 (hankOf e)) 10 8 (dyOf e)) 3 0 (dxOf e)
  | _ => w

/-- A register of TUB page 0 (chapter 08). -/
def Dev.tubRead (d : Dev) (o : Nat) : Word :=
  let t := pgTUB 0
  let w := d.reg (t + o)
  match o with
  | 0xA0 =>
    let table := d.f t TUB_TBL_SEL_TABLE
    let idx := d.f t TUB_TBL_SEL_INDEX
    if fabWords table ≤ idx then 0 else d.fabWord (d.f t TUB_TBL_SEL_BANK) table idx
  | 0xA8 => BitVec.ofNat 64 (d.fabSum 1 * 2 ^ 32 + d.fabSum 0)
  | 0xB0 =>
    let t (i : Nat) : Nat := b2n (d.fab.touch.contains i) * 2 ^ 31 + d.fabCount i % 2 ^ 31
    BitVec.ofNat 64 (t 1 * 2 ^ 32 + t 0)
  | 0xC8 => 0
  | _ => w

/-! Skein views (R280, Tables 9.10 to 9.13). -/

/-- The skein that a page selects, if it can be reached. -/
def Dev.skSel (d : Dev) (page : Nat) : Option (Nat × Skein) :=
  let id := d.f (pgSKN page) SKN_SEL_SKID
  if d.skReach id = ST_OK then some (id, d.skein id) else none

/-- SKN_VALUE. -/
def Dev.skValue (d : Dev) (page : Nat) : Word :=
  match d.skSel page with
  | some (_, s) => BitVec.ofNat 64 (s.value % 2 ^ 48)
  | none => 0

/-- SKN_INFO. -/
def Dev.skInfo (d : Dev) (page : Nat) : Word :=
  match d.skSel page with
  | some (id, s) =>
    let st : Nat := match s.st with
      | .live => 0
      | .barrier => 1
      | .broken => 2
    let polls := (s.polls.filter (fun g => d.gt < g + 4000000)).length
    BitVec.ofNat 64 (2 ^ 63 + b2n s.sat * 2 ^ 62 + st * 2 ^ 60 + d.skOwner id % 32 * 2 ^ 48 + s.pm1 % 64 * 2 ^ 40 +
      s.attached.length % 128 * 2 ^ 32 + (s.waiters.filter (·.det)).length % 4096 * 2 ^ 16 + sat 16 polls)
  | none => 0

/-- The words that a read of SKN_VALUE latches, by offset. -/
def Dev.skLatch (d : Dev) (page o : Nat) : Word :=
  match d.skSel page with
  | none => 0
  | some (_, s) =>
    match o with
    | 0x90 => d.skInfo page
    | 0x98 => s.mask
    | 0xA0 => s.early
    | 0xA8 => s.lastSrc
    | 0xB0 => BitVec.ofNat 64 s.lastGt
    | _ => 0

/-- The waiter that WIDX names: hardware waiters first, then detached ones. -/
def Dev.skWaiter (d : Dev) (page : Nat) : Option Waiter :=
  match d.skSel page with
  | some (_, s) => (s.attached ++ s.waiters.filter (·.det))[d.f (pgSKN page) SKN_SEL_WIDX]?
  | none => none

/-- SKN_WAITER. -/
def Dev.skWaiterWord (d : Dev) (page : Nat) : Word :=
  match d.skWaiter page with
  | none => 0
  | some w =>
    let left : Nat := match w.due with
      | none => 0xFFFFFFFF
      | some t => sat 32 ((if w.det then t else t - d.gt) / 4000)
    BitVec.ofNat 64 (2 ^ 63 + b2n w.det * 2 ^ 62 + w.kind % 4 * 2 ^ 60 + w.part % 16 * 2 ^ 56 + w.ep % 256 * 2 ^ 48 +
      w.c % 8 * 2 ^ 45 + left)

/-- The block that SKN_OWNSEL names, where there is one. -/
def Dev.ownBlock (d : Dev) (page : Nat) : Option Nat :=
  let e := d.f (pgSKN page) SKN_OWNSEL_EP
  let b := d.f (pgSKN page) SKN_OWNSEL_BLOCK
  if (isCD e ∧ b < 32) ∨ (isMB e ∧ b < 16) then some (e * 32 + b) else none

/-- An SKN register. -/
def Dev.sknRead (d : Dev) (page o : Nat) : Word :=
  let w := d.reg (pgSKN page + o)
  match o with
  | 0x88 => d.skValue page
  | 0xB8 => d.skWaiterWord page
  | 0xC0 => match d.skWaiter page with
    | some x => BitVec.ofNat 64 (x.n % 2 ^ 48)
    | none => 0
  | 0xE0 => match d.ownBlock page with
    | some b => BitVec.ofNat 64 (SMap.get 16 d.skn.ownStaged b)
    | none => 0
  | _ => if 0x90 ≤ o ∧ o ≤ 0xB0 then SMap.get 0 d.skn.latch (page * 4096 + o) else w

/-! WHL views. -/

/-- WHL_POSTVAL of the selected post (Table 13.13). -/
def Dev.postVal (d : Dev) : Word :=
  let i := d.f pgWHL WHL_POSTSEL_POST
  if 192 ≤ i then 0
  else BitVec.ofNat 64 (sat 16 (SMap.get 0 d.pwr.ratio i) * 2 ^ 48 + sat 4 (susN (SMap.get [] d.pwr.susp i)) * 2 ^ 44 +
    b2n (d.pwr.pers.contains i) * 2 ^ 43 + sat 32 (SMap.get 0 d.pwr.amps i))

/-- The log entry that a port selects, while it is retained (R445). -/
def Dev.logEntry (d : Dev) (port : Nat) : Option (List Word) :=
  let n := fld (d.reg (portReg port 0x620)) 47 0
  if n < d.sec.count ∧ d.sec.count ≤ n + 1024 then d.sec.log[d.sec.count - 1 - n]? else none

/-- The word of the report, or of the public key, that a port's index names. -/
def Dev.attWord (d : Dev) (port : Nat) (idk : Bool) : Word :=
  let i := fld (d.reg (portReg port (if idk then 0x6C8 else 0x6B8))) 9 0
  BitVec.ofNat 64 (leNat (((if idk then d.sec.idKey else d.sec.report).drop (8 * i)).take 8))

/-- WHL_OWN as a port reads it (Table 14.11). -/
def Dev.ownView (d : Dev) (port : Nat) : Word :=
  setFld (setFld (d.reg (pgWHL + 0x548)) 60 60 port) 31 0 (d.leaseLeft)

/-- WHL_SECST (Table 15.6). -/
def Dev.secst (d : Dev) (fu : Fuses) : Word :=
  let w := d.reg (pgWHL + 0x608)
  setFld (setFld (setFld (setFld w 15 12 (slotBits fu.revoked)) 11 8 (slotBits fu.enrolled)) 2 2 (b2n fu.sealBlown)) 0 0 (b2n d.sec.presence)

/-- The hash that HSEL selects, as a number. -/
def Dev.genHashSel (d : Dev) : Nat :=
  if d.f pgWHL WHL_GENCTL_HSEL = 0 then d.genNow.hash.toNat
  else match d.gens.prev with
    | some g => g.hash.toNat
    | none => 0

/-- A WHL register as a port reads it. -/
def Dev.whlRead (d : Dev) (fu : Fuses) (port o : Nat) : Word :=
  let w := d.reg (portReg port o)
  let s := d.reg (pgWHL + o)
  match o with
  | 0x98 => w
  | 0xA0 => SMap.get 0 d.dsum (2 * fld (d.reg (portReg port 0x98)) 7 0)
  | 0xA8 => SMap.get 0 d.dsum (2 * fld (d.reg (portReg port 0x98)) 7 0 + 1)
  | 0xB0 => w
  | 0xB8 => BitVec.ofNat 64 (SMap.get 256 (d.hp port).vmap (fld (d.reg (portReg port 0xB0)) 7 0))
  | 0xC0 => w
  | 0xC8 => w
  | 0xD0 => w
  | 0xD8 => w
  | 0x200 => setFld s (WHL_CLKSTAT_UNLOCKED.hi) (WHL_CLKSTAT_UNLOCKED.lo) d.unlocked
  | 0x218 => BitVec.ofNat 64 d.gt
  | 0x310 => setFld s 31 16 (maskOf 16 (fun p => (d.eps).all (fun e => d.planeHere e p)))
  | 0x380 => setFld (setFld s 31 24 (sat 8 ((List.range Config.clusters).filter (fun p => d.pstate p = PS_SPARE)).length)) 23 16
      (sat 8 d.slub.rets.length)
  | 0x390 => d.slubVal
  | 0x428 => d.postVal
  | 0x518 => d.fuseVal
  | 0x548 => d.ownView port
  | 0x600 => fu.serial
  | 0x608 => d.secst fu
  | 0x620 => setFld w 63 63 (b2n (d.logEntry port).isSome)
  | 0x628 => BitVec.ofNat 64 d.sec.count
  | 0x6B8 => w
  | 0x6C0 => d.attWord port false
  | 0x6C8 => w
  | 0x6D0 => d.attWord port true
  | _ =>
    if 0x560 ≤ o ∧ o < 0x5A0 then BitVec.ofNat 64 (d.genHashSel / 2 ^ (8 * (o - 0x560)))
    else if 0x630 ≤ o ∧ o < 0x6B0 then (d.hp port).logLatch.getD ((o - 0x630) / 8) 0
    else if 0x700 ≤ o ∧ o < 0x780 then w
    else s

/-- An eight-byte read of BAR0 by a port (R453, R455, R462, R475): what it returns. -/
def Dev.hostRead (d : Dev) (fu : Fuses) (port a : Nat) : Word :=
  let (c, n, o) := pageOf a
  let page := a - o
  if c = .none then 0
  else if c = .rtr ∧ n = 511 then 0
  else if o < 0x80 then (if o % 8 = 0 then d.hdrRead fu c n page o else 0)
  else if !d.pageOn c n then 0
  else match c with
    | .whl => if (regDef? c n o).isSome then d.whlRead fu port o else 0
    | .hnk => d.hnkRead n o
    | .die => d.dieRead fu n o
    | .part => d.partRead n o
    | .rtr => d.rtrRead n o
    | .dbl => if o = 0xC0 ∧ !d.fb page DBL_STATE_DBGV then 0 else d.reg a
    | .opt => d.optRead n o
    | .iod => d.iodRead n o
    | .clu => d.cluRead n o
    | .skn => d.sknRead n o
    | .tub => d.tubRead o
    | _ => d.reg a

/-! Reads that latch or step. -/

/-- A read of a port with what it leaves behind: INDEX of a table window steps with AUTO (Tables 5.9 and 8.15; log entry 135). -/
def Dev.hostReads (d : Dev) (fu : Fuses) (port a : Nat) : Word × Dev :=
  let (c, n, o) := pageOf a
  let v := d.hostRead fu port a
  if c = .tub ∧ n = 0 ∧ o = 0xA0 then (v, d.stepFab)
  else if c = .rtr ∧ o = 0x90 ∧ d.pageOn c n then (v, d.stepIndex n)
  else (v, d)

/-- ACC_LO_READ (R93): in debug mode the element's other words are latched with it. -/
def execAccLoRead (port p : Nat) (s : State) : Host.Outcome State Fault Refusal :=
  s.runFrozen (decide (port < 2 ∧ p < Config.clusters)) (fun fu d =>
    let a := pgCLU p + 0x108
    if !d.hostUp port then d
    else
      let v := d.hostRead fu port a
      let d := if d.present (dieOf p) && d.fb pgWHL WHL_DBG_EN then
          let (x, m) := d.accView p
          (d.setReg (a + 8) (BitVec.ofNat 64 (x.toNat / 2 ^ 64))).setReg (a + 16) m
        else d
      d.answer port v)

/-- SKN_VALUE_READ (R280). -/
def execSknValueRead (port page : Nat) (s : State) : Host.Outcome State Fault Refusal :=
  s.runFrozen (decide (port < 2 ∧ page < 2)) (fun _ d =>
    if !d.hostUp port then d
    else
      let v := d.skValue page
      let l := [0x90, 0x98, 0xA0, 0xA8, 0xB0].foldl (fun m o => SMap.set 0 m (page * 4096 + o) (d.skLatch page o)) d.skn.latch
      { d with skn := { d.skn with latch := l } }.answer port v)

/-- ATT_WORD_READ (R451): a word of the report, or of the public key; the port's index steps with AUTO. -/
def execAttWordRead (port : Nat) (idk : Bool) (s : State) : Host.Outcome State Fault Refusal :=
  s.runFrozen (decide (port < 2)) (fun _ d =>
    if !d.hostUp port then d
    else
      let a := portReg port (if idk then 0x6C8 else 0x6B8)
      let r := d.reg a
      let d := d.answer port (d.attWord port idk)
      if bit r 63 then d.setReg a (setFld r 9 0 (fld r 9 0 + 1)) else d)

/-- Sixteen free words: what an entry that is not retained reads (log entry 4). -/
def Dev.freeWords (d : Dev) : Nat → List Word × Dev
  | 0 => ([], d)
  | n + 1 =>
    let (v, d) := d.freeVal 64
    let (vs, d) := d.freeWords n
    (BitVec.ofNat 64 v :: vs, d)

/-- LOGDATA_READ (R445, R451): a read of WHL_LOGDATA0 latches the entry for the port. -/
def execLogdataRead (port : Nat) (s : State) : Host.Outcome State Fault Refusal :=
  s.runFrozen (decide (port < 2)) (fun _ d =>
    if !d.hostUp port then d
    else
      let (ws, d) := match d.logEntry port with
        | some ws => (ws, d)
        | none => d.freeWords 16
      (d.updHp port (fun h => { h with logLatch := ws })).answer port (ws.headD 0))

end Sys2Proof.Machine
end

