-- ==== Sys2Proof/Machine/Vectors.lean ====
section
/-!
DEFINITION. The event funnel (R455 to R467), the host ports' links and windows (R487 to R495), and the identity bus and
outputs of the management connector (R481, R482).
-/

namespace Sys2Proof.Machine

/-! Summaries (R464, R465). -/

/-- The pages of an endpoint's die summary, by slot of WHL_DSUM0 (0..63) and WHL_DSUM1 (64..) (Table 16.7). -/
def dsumPages (wd e : Nat) : List (Nat × Nat) :=
  if isCD e then
    let x := dxOf e
    let y := dyOf e
    [(0, pgDIE e), (9, pgRTR e), (10, pgOPT e)] ++ (List.range 8).map (fun c => (1 + c, pgCLU (8 * e + c))) ++
      (if x ≤ 12 then [(11, pgDBL (2 * y * 13 + x)), (12, pgDBL ((2 * y + 1) * 13 + x))] else []) ++
      (if y ≤ 6 then (List.range 4).map (fun i => (13 + i, pgDBL (208 + y * 56 + 4 * x + i))) else [])
  else if isMB e then [(0, pgMBD (e - 112)), (1, pgRTR e), (2, pgOPT e)]
  else if isIOD e then
    let k := e - 168
    [(0, pgIOD k), (1, pgRTR e), (2, pgOPT e), (3, pgTUB (2 * k + 1)), (4, pgTUB (2 * k + 2))]
  else if e = wd then
    [(0, pgWHL), (45, pgDIST 0), (46, pgSKN 0), (47, pgSKN 1), (48, pgTUB 0), (49, pgRTR e), (50, pgOPT e)] ++
      (List.range 28).map (fun h => (1 + h, pgHNK h)) ++ (List.range 16).map (fun j => (29 + j, pgPART j)) ++
      (List.range 16).map (fun n => (64 + n, pgTUB (64 + n)))
  else []

/-- An endpoint's die summary as its pages stand now; nothing where it is absent (R465). -/
def Dev.dsumNow (d : Dev) (e : Nat) : Word × Word :=
  if !d.present e then (0, 0)
  else
    let ps := (dsumPages d.wdEp e).filter (fun x => d.pend x.2)
    let word (lo : Nat) : Word := BitVec.ofNat 64 (maskOf 64 (fun i => ps.any (fun x => x.1 = lo + i)))
    (word 0, word 64)

/-- An endpoint's summary bit, as WHL_EVSUM holds it. -/
def Dev.evsum (d : Dev) (e : Nat) : Bool := bit (d.reg (pgWHL + 0x80 + 8 * (e / 64))) (e % 64)

/-- The vector that a port's map gives an endpoint, where V = 1 (R466). -/
def Dev.vecOf (d : Dev) (port e : Nat) : Option Nat :=
  let x := SMap.get 256 (d.hp port).vmap e
  if 256 ≤ x then some (x % 256) else none

/-- The condition of a vector holds on a port. -/
def Dev.vecHolds (d : Dev) (port v : Nat) : Bool :=
  (List.range 192).any (fun e => d.evsum e && d.vecOf port e = some v)

/-- The latch of a vector. -/
def Dev.latched (d : Dev) (port v : Nat) : Bool := bit (d.reg (portReg port (0xC0 + 8 * (v / 64)))) (v % 64)

/-- Every vector whose latch is clear and whose condition holds is latched and sent (R466). -/
def Dev.pumpPort (d : Dev) (port : Nat) : Dev :=
  forN 256 (fun v d =>
    if d.vecHolds port v && !d.latched port v then
      let a := portReg port (0xC0 + 8 * (v / 64))
      (d.setReg a (d.reg a ||| wbit (v % 64))).msix port v
    else d) d

/-- The same on both ports. -/
def Dev.pumpVectors (d : Dev) : Dev := (d.pumpPort 0).pumpPort 1

/-- EVENT_SUMMARY_PROPAGATE (R465, R466): an endpoint's causes and masks reach its die summary, the panel summary and the vectors. -/
def execEventSummaryPropagate (e : Nat) (s : State) : Host.Outcome State Fault Refusal :=
  s.runFrozen (decide (e < 192)) (fun _ d =>
    let (w0, w1) := d.dsumNow e
    let d : Dev := { d with dsum := SMap.set 0 (SMap.set 0 d.dsum (2 * e) w0) (2 * e + 1) w1 }
    let a := pgWHL + 0x80 + 8 * (e / 64)
    (d.setReg a (setFld (d.reg a) (e % 64) (e % 64) (b2n (w0 != 0 || w1 != 0)))).pumpVectors)

/-- VPEND_CLEAR (R466): latches are cleared; a vector whose condition still holds is sent again. -/
def Dev.vpendWrite (d : Dev) (port i : Nat) (v : Word) : Dev :=
  d.onWrite port (pgWHL + 0xC0 + 8 * i) v (fun d _ => d.pumpPort port)

/-- VPEND_CLEAR. -/
def execVpendClear (port i : Nat) (v : Word) (s : State) : Host.Outcome State Fault Refusal :=
  s.runFrozen (decide (port < 2 ∧ i < 4)) (fun _ d => d.vpendWrite port i v)

/-- A write of WHL_VMAP: the entry that the port's VMAPSEL names. -/
def Dev.vmapWrite (d : Dev) (port : Nat) (v : Word) : Dev :=
  d.onWrite port (pgWHL + 0xB8) v (fun d _ =>
    let e := fld (d.reg (portReg port 0xB0)) 7 0
    let d := d.setReg (portReg port 0xB8) (resetAt 0xB8)
    if 192 ≤ e then d
    else (d.updHp port (fun h => { h with vmap := SMap.set 256 h.vmap e (fld v 8 0) })).pumpPort port)

/-- MSIX_VECTOR_UNMASK (R466): a pending vector is sent. -/
def execMsixVectorUnmask (port v : Nat) (s : State) : Host.Outcome State Fault Refusal :=
  s.runFrozen (decide (port < 2 ∧ v < 256)) (fun _ d =>
    if !d.hostUp port then d
    else
      let was := (d.hp port).pba.contains v
      let d := d.updHp port (fun h => { h with unmasked := setIns h.unmasked v, pba := setDel h.pba v })
      if was then d.msix port v else d)

/-! Causes and logs (R455 to R457). -/

/-- The address of a BAR0 page. -/
def barPage (page : Nat) : Nat := page * 4096

/-- EVT_CAUSE_CLEAR: a W1C write of EVT_CAUSE. -/
def execEvtCauseClear (port page : Nat) (v : Word) (s : State) : Host.Outcome State Fault Refusal :=
  s.run (decide (port < 2 ∧ page < 16384)) (fun _ d => (d.hostWrite port (barPage page + 0x20) v).d)

/-- A write of EVT_FORCE: the CAUSE bits are set and nothing else. -/
def Dev.forceWrite (d : Dev) (port base : Nat) (v : Word) : Dev :=
  d.onWrite port (base + 0x30) v (fun d a => d.setReg (base + 0x20) (d.reg (base + 0x20) ||| a))

/-- EVT_FORCE (R456). -/
def execEvtForce (port page : Nat) (v : Word) (s : State) : Host.Outcome State Fault Refusal :=
  s.run (decide (port < 2 ∧ page < 16384)) (fun _ d => d.forceWrite port (barPage page) v)

/-- A write of CTRL: LOGCLR clears ERR_LOG0..8 and LOGV. -/
def Dev.ctrlWrite (d : Dev) (port base : Nat) (v : Word) : Dev :=
  d.onWrite port (base + 0x10) v (fun d a =>
    if bit a 1 then (forN 9 (fun i d => d.setReg (base + 0x38 + 8 * i) 0) d).setf base HDR_STATUS_LOGV 0 else d)

/-- LOGCLR (R455), with LOGHOLD as it stands. -/
def execLogclr (port page : Nat) (s : State) : Host.Outcome State Fault Refusal :=
  s.run (decide (port < 2 ∧ page < 16384)) (fun _ d =>
    d.ctrlWrite port (barPage page) (BitVec.ofNat 64 (2 + d.f (barPage page) HDR_CTRL_LOGHOLD)))

/-! Links of the host ports (R485 to R488). -/

/-- Vectors that are latched and whose condition holds are sent again. -/
def Dev.resendLatched (d : Dev) (port : Nat) : Dev :=
  forN 256 (fun v d => if d.latched port v && d.vecHolds port v then d.msix port v else d) d

/-- HP_LINK_UP (R485, R487): the link reaches L0 with a speed and width, and the host has assigned the BARs and enabled MSI-X
(log entry 9). -/
def execHpLinkUp (port speed width : Nat) (s : State) : Host.Outcome State Fault Refusal :=
  s.runFrozen (decide (port < 2 ∧ 1 ≤ speed ∧ speed ≤ 5) && [1, 2, 4, 8, 16].contains width) (fun _ d =>
    let was := (d.hp port).up
    let d := d.updHp port (fun h => { h with up := true, speed := speed, width := width, memOn := true, msixOn := true })
    (if was then d else d.resendLatched port).pumpPort port)

/-- HP_LINK_DOWN (R487): the link is lost in service. -/
def execHpLinkDown (port : Nat) (s : State) : Host.Outcome State Fault Refusal :=
  s.runFrozen (decide (port < 2)) (fun _ d =>
    if !(d.hp port).up then d
    else
      let pg := pgIOD (8 * port)
      ((d.updHp port (fun h => { h with up := false })).addSat pg HP_ERR_LDOWN).ev pg EV_HP_LINK)

/-- HP_PERST (R488): the port's configuration space and its vector latches return to their reset values. -/
def execHpPerst (port : Nat) (s : State) : Host.Outcome State Fault Refusal :=
  s.runFrozen (decide (port < 2)) (fun _ d =>
    let d := d.updHp port (fun h => { h with memOn := false, msixOn := false, dwBase := 0, unmasked := [], pba := [] })
    forN 4 (fun i d => d.setReg (portReg port (0xC0 + 8 * i)) 0) d)

/-! BAR0 accesses that end otherwise (R462, R463, R493). -/

/-- An access that R462 allows. -/
def barAllowed (addr len : Nat) : Bool :=
  ((len = 4 || len = 8) && addr % len = 0) ||
    (decide (8 ≤ len ∧ len ≤ 64) && len % 8 = 0 && addr % 8 = 0 && addr / 4096 = (addr + len - 1) / 4096)

/-- BAR0_BAD_ACCESS (R493). -/
def execBar0BadAccess (port : Nat) (wr : Bool) (addr len : Nat) (s : State) : Host.Outcome State Fault Refusal :=
  s.runFrozen (decide (port < 2 ∧ 0 < len ∧ addr + len ≤ 2 ^ 26)) (fun _ d =>
    if !d.hostUp port || barAllowed addr len then d
    else
      let d := (d.addSat (pgIOD (8 * port)) HP_ERR_BADACC).hpDerr port
      if wr then d else d.updHp port (fun h => { h with rdata := [], rstat := 16 }))

/-- An operation of Table 14.5, which the leader ring carries within 20 µs (R422). -/
def leaderRing (addr : Nat) (wr : Bool) : Bool :=
  let (c, _, o) := pageOf addr
  let o := o / 8 * 8
  match c with
  | .clu => (!wr && decide (o < 0x28)) || o = 0x380
  | .part => (!wr && decide (o < 0x28)) || o = 0x908
  | .hnk => (!wr && decide (o < 0x28)) || (wr && o = 0x88)
  | .whl => (!wr && (decide (o < 0x28) || decide (0x80 ≤ o ∧ o < 0xB0))) || o = 0x98 || o = 0x540 || o = 0x548 ||
      decide (0x600 ≤ o ∧ o < 0x780)
  | _ => !wr && decide (o < 0x28)

/-- MGT_TIMEOUT (R463): an MGT access of a host port completes without a response; a read returns all ones. -/
def execMgtTimeout (port : Nat) (wr : Bool) (addr : Nat) (s : State) : Host.Outcome State Fault Refusal :=
  s.runFrozen (decide (port < 2 ∧ addr < 2 ^ 26)) (fun _ d =>
    if !d.hostUp port || leaderRing addr wr then d
    else
      let d := d.addSat pgWHL WHL_MGTTMO_COUNT
      if wr then d else d.updHp port (fun h => { h with rdata := List.replicate 8 0xFF, rstat := 0 }))

/-! The data window (R434, R490, R491). -/

/-- PART_CFG.HOSTP names a port or both. -/
def Dev.hostpNames (d : Dev) (j port : Nat) : Bool :=
  d.effF (pgPART j) PART_CFG_HOSTP = port || d.effF (pgPART j) PART_CFG_HOSTP = 2

/-- The port may reach `n` bytes at a local address without owning control: they lie in a range, or in the store slot of a
logical cluster, of a partition that names it (R434). -/
def Dev.dwMay (d : Dev) (port a n : Nat) : Bool :=
  (List.range Config.partitions).any (fun j => d.hostpNames j port &&
    ((List.range 8).any (fun i => d.effF (pgPART j) PART_MEMi_SIZE_V i = 1 &&
        (let b := d.effF (pgPART j) PART_MEMi_BASE_BASE i * 4096
         decide (b ≤ a ∧ a + n ≤ b + d.effF (pgPART j) PART_MEMi_SIZE_NPG i * 4096))) ||
      (decide (2 ^ 49 ≤ a ∧ a + n ≤ 2 ^ 49 + 800 * 2 ^ 25) && (a - 2 ^ 49) / 2 ^ 25 = (a + n - 1 - 2 ^ 49) / 2 ^ 25 &&
        d.gens.cur.partOf ((a - 2 ^ 49) / 2 ^ 25) = j)))

/-- Runs of enabled bytes of an access of `n` bytes at `a`, none across a 256-byte boundary: place in the access, length. -/
def enabledRuns (a n : Nat) (en : Nat → Bool) : List (Nat × Nat) :=
  ((List.range n).foldl (fun (rs : List (Nat × Nat)) i =>
    if !en i then rs
    else match rs with
      | (s, l) :: t => if s + l = i ∧ (a + i) % 256 ≠ 0 then (s, l + 1) :: t else (i, 1) :: rs
      | [] => [(i, 1)]) []).reverse

/-- A host access to the local address space: refused with DENIED, or sent as RD or WR packets. -/
def Dev.dwAccess (d : Dev) (port : Nat) (wr : Bool) (a n : Nat) (data : List Byte) (dis : List Nat) : Dev :=
  if !(d.owns port || d.dwMay port a n) || d.resolve a = .aperture then d.dwEnds port (!wr) ST_DENIED [] n
  else
    let rs := enabledRuns a n (fun i => !wr || !dis.contains i)
    let reqs : List Req := rs.map (fun x => { addr := a + x.1, len := x.2, data := if wr then slice data x.1 x.2 else [] })
    if reqs = [] then d.dwEnds port (!wr) ST_OK [] n
    else d.request (168 + 8 * port) 0 (.host port n) (if wr then T_WR else T_RD) 15 0 true true none reqs

/-- DATA_WINDOW_ACCESS (R434, R490, R491): with DWBASE.BASE `base`, a read of `len` bytes or a write of `data` at a window
offset; `dis` are the places of the bytes that the byte enables leave out. -/
def execDataWindowAccess (port : Nat) (wr : Bool) (base off len : Nat) (data : List Byte) (dis : List Nat) (s : State) :
    Host.Outcome State Fault Refusal :=
  let n := if wr then data.length else len
  s.run (decide (port < 2 ∧ base < 2 ^ 18 ∧ 0 < n ∧ n ≤ 4096 ∧ off + n ≤ 2 ^ 34)) (fun _ d =>
    if !d.hostUp port then d
    else (d.updHp port (fun h => { h with dwBase := base })).dwAccess port wr (base * 2 ^ 34 + off) n data dis)

/-! The management connector (R481, R482). -/

/-- PANEL_OK is high. -/
def Dev.panelOk (d : Dev) : Bool := !d.stopped

/-- ALERT_N is low. -/
def Dev.alert (d : Dev) : Bool :=
  d.frozen || d.pwr.coolCrit || d.pwr.underV ||
    (List.range Config.hanks).any (fun h => d.hst h = H_TRIPPED || d.hst h = H_LOCKED)

/-- The identity block (Table 17.3). -/
def Dev.idBlock (d : Dev) (fu : Fuses) : List Byte :=
  leBytes 8 fu.serial.toNat ++ leBytes 1 fu.code ++ leBytes 1 (d.f pgWHL WHL_CLKSTAT_WD) ++ leBytes 1 (d.f pgWHL WHL_BOOT_BSTEP) ++
    leBytes 1 (b2n d.panelOk + 2 * b2n d.alert + 4 * b2n d.frozen + 8 * b2n fu.sealBlown) ++ List.replicate 4 0 ++
    hashBytes (Config.sha3 d.sec.idKey) ++ List.replicate 16 0

/-- IDENTITY_BUS_READ (R482): bytes of the block from an offset on, wrapping at byte 95. What an offset beyond the block reads
is open: free bytes. -/
def execIdentityBusRead (off len : Nat) (s : State) : Host.Outcome State Fault Refusal :=
  s.runFrozen (decide (off < 256)) (fun fu d =>
    if off < 96 then
      let b := d.idBlock fu
      { d with idBus := (List.range len).map (fun i => b.getD ((off + i) % 96) 0) }
    else
      let (vs, d) := d.freeWords len
      { d with idBus := vs.map (fun w => w.setWidth 8) })

end Sys2Proof.Machine
end

