-- ==== Sys2Proof/Machine/Registers.lean ====
section
/-!
DEFINITION. A host's write of any register of BAR0 (R424, R452 to R462, R475): each register's write does what the register's
own row does, and the others take their fields.
-/

namespace Sys2Proof.Machine

/-- A write that only leaves its fields in the register. -/
def Dev.plain (d : Dev) (port a : Nat) (v : Word) : Dev := (d.hostWrite port a v).d

/-- A write of a register whose bits are handed on when the register takes it. -/
def Dev.ifTaken (d : Dev) (port a : Nat) (v : Word) (act : Dev → Dev) : Dev :=
  let (ok, d) := d.hostMay port a v
  if ok then act d else d

/-! Registers whose write does more than store, and that no other row writes. -/

/-- WHL_BOOTMASK: bits 0 and 8 of IODM read 1 (Table 14.8). -/
def Dev.bootmaskWrite (d : Dev) (port : Nat) (v : Word) : Dev :=
  d.onWrite port (pgWHL + 0x508) v (fun d _ =>
    d.setf pgWHL WHL_BOOTMASK_IODM (d.f pgWHL WHL_BOOTMASK_IODM ||| 0x101))

/-- WHL_RTCTL: LBSCAN (R143); a change of ESC is one of the distance table (R34). -/
def Dev.rtctlWrite (d : Dev) (port : Nat) (v : Word) : Dev :=
  let esc := d.f pgWHL WHL_RTCTL_ESC
  d.onWrite port (pgWHL + 0x300) v (fun d a =>
    let d := if d.f pgWHL WHL_RTCTL_ESC = esc then d else d.distChange
    if bit a 16 then d.setLive true else d)

/-- WHL_OPTCTL: RLREQ and CALSTART (R169, R173). -/
def Dev.optctlWrite (d : Dev) (port : Nat) (v : Word) : Dev :=
  d.onWrite port (pgWHL + 0x310) v (fun d a =>
    let d := if bit a 11 then d.rlReq else d
    if bit a 0 then d.calStart else d)

/-- WHL_DISC: DSTART. -/
def Dev.discWrite (d : Dev) (port : Nat) (v : Word) : Dev :=
  d.onWrite port (pgWHL + 0x318) v (fun d a => if bit a 2 then d.discStart else d)

/-- PART_JKEY_LO, HI: staged, and counted in KWR (R470). -/
def Dev.jkeyWrite (d : Dev) (port j o : Nat) (v : Word) : Dev :=
  d.onWrite port (pgPART j + o) v (fun d _ => d.addWrap (pgPART j) PART_JKCTL_KWR)

/-- PART_SPL: a splice set up anew begins IDLE with no clean step (R337; log entry 40). -/
def Dev.splWrite (d : Dev) (port j : Nat) (v : Word) : Dev :=
  d.onWrite port (pgPART j + 0x630) v (fun d _ =>
    ((d.setf (pgPART j) PART_SPL_STATE 0).setf (pgPART j) PART_SPL_CLEAN 0).updPt j (fun q => { q with fwd := [], digs := [] }))

/-- RTR_TDEPTH: HWM becomes the current depth (Table 5.18). -/
def Dev.tdepthWrite (d : Dev) (port e : Nat) (v : Word) : Dev :=
  let pg := pgRTR e
  d.onWrite port (pg + 0xE0) v (fun d a =>
    let i := d.f pg RTR_TSEL_ROUTER * 32 + d.f pg RTR_TSEL_PORT * 4 + d.f pg RTR_TSEL_VC
    if bit a 16 then d.updNet (fun n => { n with tel := SMap.upd {} n.tel (e * 256 + i) (fun t => { t with hwm := d.telDepth e i }) })
    else d)

/-- OPT_PCNT: the counts of the selected channel are cleared (Table 6.14). -/
def Dev.pcntWrite (d : Dev) (port e : Nat) (v : Word) : Dev :=
  let pg := pgOPT e
  d.onWrite port (pg + 0x98) v (fun d a =>
    let b := d.f pg OPT_PSEL_PEER
    let p := d.f pg OPT_PSEL_PLANE
    if Config.endpoints ≤ b ∨ b = e then d
    else
      let d := if bit a 32 then d.updCnt e b p (fun c => { c with uncorr := 0 }) else d
      if bit a 0 then d.updCnt e b p (fun c => { c with resend := 0 }) else d)

/-- SKN_OWN: the staged owner of the selected block (R255). -/
def Dev.sknOwnWrite (d : Dev) (port page : Nat) (v : Word) : Dev :=
  d.ifTaken port (pgSKN page + 0xE0) v (fun d =>
    match d.ownBlock page with
    | some b => { d with skn := { d.skn with ownStaged := SMap.set 16 d.skn.ownStaged b (fld v 4 0) } }
    | none => d)

/-- CLU_ACC_SEL takes writes in debug mode only (R93). -/
def Dev.accSelWrite (d : Dev) (port p : Nat) (v : Word) : Dev :=
  if d.fb pgWHL WHL_DBG_EN then d.plain port (pgCLU p + 0x100) v else d

/-! The pages. -/

/-- A header register (Table 16.2). -/
def Dev.hdrWrite (d : Dev) (port base o : Nat) (v : Word) : Dev :=
  if o = 0x10 then d.ctrlWrite port base v
  else if o = 0x30 then d.forceWrite port base v
  else d.plain port (base + o) v

/-- A WHL register. -/
def Dev.whlWrite (d : Dev) (fu : Fuses) (port o : Nat) (v : Word) : Dev :=
  match o with
  | 0xB8 => d.vmapWrite port v
  | 0xC0 => d.vpendWrite port 0 v
  | 0xC8 => d.vpendWrite port 1 v
  | 0xD0 => d.vpendWrite port 2 v
  | 0xD8 => d.vpendWrite port 3 v
  | 0x208 => d.freqWrite fu port v
  | 0x210 => d.fapplyWrite port v
  | 0x300 => d.rtctlWrite port v
  | 0x308 => d.rtepochWrite port v
  | 0x310 => d.optctlWrite port v
  | 0x318 => d.discWrite port v
  | 0x390 => d.slubvalWrite port v
  | 0x398 => d.slubwWrite port v
  | 0x3A0 => d.slubthrWrite port 0 v
  | 0x3A8 => d.slubthrWrite port 1 v
  | 0x3B0 => d.slubthrWrite port 2 v
  | 0x3B8 => d.slubthrWrite port 3 v
  | 0x400 => d.pcapWrite fu port v
  | 0x500 => d.bootWrite fu port v
  | 0x508 => d.bootmaskWrite port v
  | 0x530 => d.fwWrite fu port v
  | 0x540 => d.prstWrite fu port v
  | 0x548 => d.ownWrite port v
  | 0x550 => d.genctlWrite port v
  | 0x610 => d.keyWrite fu port v
  | 0x618 => d.dbgWrite port v
  | 0x6B0 => d.attWrite fu port v
  | _ => d.plain port (pgWHL + o) v

/-- A PART register. -/
def Dev.partWrite (d : Dev) (port j o : Nat) (v : Word) : Dev :=
  let a := pgPART j + o
  if o = 0x80 ∨ o = 0x88 then d.jkeyWrite port j o v
  else if 0x400 ≤ o ∧ o < 0x500 ∧ o % 16 = 8 then d.sprWrite port j ((o - 0x400) / 16) v
  else if 0x700 ≤ o ∧ o < 0x800 ∧ o % 16 = 8 then d.mirWrite port j ((o - 0x700) / 16) v
  else match o with
    | 0x610 => d.cmtWrite port j v
    | 0x630 => d.splWrite port j v
    | 0x800 => d.rotWrite port j v
    | 0x900 => d.stepWrite port j v
    | 0x908 => d.rstWrite port j v
    | _ => d.plain port a v

/-- An RTR register, or the broadcast page. -/
def Dev.rtrWrite (d : Dev) (port e o : Nat) (v : Word) : Dev :=
  if e = 511 then d.broadcast port o v
  else match o with
    | 0x90 => d.ifTaken port (pgRTR e + 0x90) v (fun d => d.tblWrite e v)
    | 0xC8 => d.tselWrite port e v
    | 0xE0 => d.tdepthWrite port e v
    | _ => d.plain port (pgRTR e + o) v

/-- The control register of a link. -/
def Dev.linkCtlWrite (d : Dev) (port n : Nat) (v : Word) : Dev := d.onWrite port (pgLink n + 0x88) v (fun d a => d.dblCtl n a)

/-- A CLU register. -/
def Dev.cluWrite (d : Dev) (port p o : Nat) (v : Word) : Dev :=
  match o with
  | 0x100 => d.accSelWrite port p v
  | 0x380 => d.cluRstWrite port p v
  | 0x388 => d.stestWrite port p v
  | _ => d.plain port (pgCLU p + o) v

/-- An IOD register. -/
def Dev.iodWrite (d : Dev) (port k o : Nat) (v : Word) : Dev :=
  match o with
  | 0x108 => d.onWrite port (pgIOD k + 0x108) v (fun d a => if bit a 0 then d.retreqIod k else d)
  | 0x808 => d.linkCtlWrite port (600 + 2 * k) v
  | 0x888 => d.linkCtlWrite port (601 + 2 * k) v
  | _ => d.plain port (pgIOD k + o) v

/-- An SKN register. -/
def Dev.sknWrite (d : Dev) (port page o : Nat) (v : Word) : Dev :=
  if o = 0xD0 then d.onWrite port (pgSKN page + 0xD0) v (fun d a => d.sknCmd page a)
  else if o = 0xE0 then d.sknOwnWrite port page v
  else if 0x100 ≤ o ∧ o < 0x500 ∧ o % 16 = 8 then
    d.onWrite port (pgSKN page + o) v (fun d a => if bit a 63 then d.armNotifier page ((o - 0x100) / 16) else d)
  else d.plain port (pgSKN page + o) v

/-- A register of TUB page 0. -/
def Dev.tubWrite (d : Dev) (port o : Nat) (v : Word) : Dev :=
  let t := pgTUB 0
  if 0x400 ≤ o ∧ o < 0x800 ∧ o % 16 = 8 then d.winWrite port ((o - 0x400) / 16) v
  else match o with
    | 0x80 => d.domainWrite port v
    | 0x88 => d.onWrite port (t + 0x88) v (fun d a => if bit a 0 then d.pStart else d)
    | 0x90 => d.ifTaken port (t + 0x90) v (fun d => d.fepochWrite (fld v 0 0))
    | 0xA0 => d.ifTaken port (t + 0xA0) v (fun d => d.fabDataWrite v)
    | 0xC0 => d.onWrite port (t + 0xC0) v (fun d _ => d.setReg (t + 0xC0) (d.hopq (fld v 11 0)))
    | 0xC8 => d.ifTaken port (t + 0xC8) v (fun d => d.ftblwWrite v)
    | _ => d.plain port (t + o) v

/-- A manager page's register. -/
def Dev.mgrWrite (d : Dev) (port n o : Nat) (v : Word) : Dev :=
  match o with
  | 0x80 => d.mgrCtlWrite port n v
  | 0x98 => d.mgrStepWrite port n v
  | _ => d.plain port (pgMGR n + o) v

/-- A host write of eight bytes at a BAR0 address, except of WHL_FUSECMD. -/
def Dev.regWrite (d : Dev) (fu : Fuses) (port a : Nat) (v : Word) : Dev :=
  let (c, n, o) := pageOf a
  if o < 0x80 then (if c = .rtr ∧ n = 511 then d else d.hdrWrite port (a - o) o v)
  else match c with
    | .whl => d.whlWrite fu port o v
    | .hnk => if o = 0x88 then d.pctlHank port n v else d.plain port a v
    | .part => d.partWrite port n o v
    | .rtr => d.rtrWrite port n o v
    | .dbl => if o = 0x88 then d.linkCtlWrite port n v else d.plain port a v
    | .opt => if o = 0x98 then d.pcntWrite port n v else d.plain port a v
    | .mbd => if o = 0x88 then d.onWrite port a v (fun d x => if bit x 0 then d.retreqMbd n else d) else d.plain port a v
    | .iod => d.iodWrite port n o v
    | .clu => d.cluWrite port n o v
    | .skn => d.sknWrite port n o v
    | .tub => d.tubWrite port o v
    | .tubp => if o = 0x88 then d.onWrite port a v (fun d x => d.pctl (n - 1) x) else d.plain port a v
    | .tubm => d.mgrWrite port (n - 64) o v
    | _ => d.plain port a v

/-- REGISTER_WRITE (R459, R460, R462): a write of eight bytes. An address that is not a multiple of eight is refused by the
port (R493). -/
def execRegisterWrite (port addr : Nat) (v : Word) (s : State) : Host.Outcome State Fault Refusal :=
  s.runAllFrozen (decide (port < 2 ∧ addr < 2 ^ 26)) (fun fu d =>
    if !d.hostUp port then (fu, d)
    else if addr % 8 ≠ 0 then (fu, (d.addSat (pgIOD (8 * port)) HP_ERR_BADACC).hpDerr port)
    else if addr = pgWHL + 0x520 then d.fuseWrite fu port v
    else (fu, d.regWrite fu port addr v))

end Sys2Proof.Machine
end

