-- ==== Sys2Proof/Machine/Dispatch.lean ====
section
/-!
DEFINITION. Which meaning runs each command: one arm per constructor.
-/

namespace Sys2Proof.Machine

def exec (i : Instr) (s : State) : Host.Outcome State Fault Refusal :=
  match i with
  | .nop p w => Sys2Proof.Machine.execNop p w s
  | .halt p w => Sys2Proof.Machine.execHalt p w s
  | .br p w => Sys2Proof.Machine.execBr p w s
  | .call p w => Sys2Proof.Machine.execCall p w s
  | .ret p w => Sys2Proof.Machine.execRet p w s
  | .loop p w => Sys2Proof.Machine.execLoop p w s
  | .bsk p w => Sys2Proof.Machine.execBsk p w s
  | .ldi p w => Sys2Proof.Machine.execLdi p w s
  | .addi p w => Sys2Proof.Machine.execAddi p w s
  | .alu p w => Sys2Proof.Machine.execAlu p w s
  | .lds p w => Sys2Proof.Machine.execLds p w s
  | .sts p w => Sys2Proof.Machine.execSts p w s
  | .gets p w => Sys2Proof.Machine.execGets p w s
  | .skslot p w => Sys2Proof.Machine.execSkslot p w s
  | .skop p w => Sys2Proof.Machine.execSkop p w s
  | .dstart p w => Sys2Proof.Machine.execDstart p w s
  | .dstop p w => Sys2Proof.Machine.execDstop p w s
  | .tmma p w => Sys2Proof.Machine.execTmma p w s
  | .tdrain p w => Sys2Proof.Machine.execTdrain p w s
  | .texport p w => Sys2Proof.Machine.execTexport p w s
  | .twin p w => Sys2Proof.Machine.execTwin p w s
  | .vld p w => Sys2Proof.Machine.execVld p w s
  | .vst p w => Sys2Proof.Machine.execVst p w s
  | .vop p w => Sys2Proof.Machine.execVop p w s
  | .vfn p w => Sys2Proof.Machine.execVfn p w s
  | .vred p w => Sys2Proof.Machine.execVred p w s
  | .put p w => Sys2Proof.Machine.execPut p w s
  | .get p w => Sys2Proof.Machine.execGet p w s
  | .atom p w => Sys2Proof.Machine.execAtom p w s
  | .notice p w => Sys2Proof.Machine.execNotice p w s
  | .seqWaitEnd p => Sys2Proof.Machine.execSeqWaitEnd p s
  | .unitCommandComplete p id => Sys2Proof.Machine.execUnitCommandComplete p id s
  | .tensorPassEnd p errs => Sys2Proof.Machine.execTensorPassEnd p errs s
  | .tensorOverflowRetry p => Sys2Proof.Machine.execTensorOverflowRetry p s
  | .tensorSlotConsumed p n => Sys2Proof.Machine.execTensorSlotConsumed p n s
  | .cstPatrolScrub p first count upsets => Sys2Proof.Machine.execCstPatrolScrub p first count upsets s
  | .draftDescAccept p n => Sys2Proof.Machine.execDraftDescAccept p n s
  | .draftReadResponse ix => Sys2Proof.Machine.execDraftReadResponse ix s
  | .draftRelease p n => Sys2Proof.Machine.execDraftRelease p n s
  | .draftChunkAcked p n => Sys2Proof.Machine.execDraftChunkAcked p n s
  | .draftWalkEnd p n => Sys2Proof.Machine.execDraftWalkEnd p n s
  | .packetHop ix => Sys2Proof.Machine.execPacketHop ix s
  | .combSlotFlush ix => Sys2Proof.Machine.execCombSlotFlush ix s
  | .responseArrival ix => Sys2Proof.Machine.execResponseArrival ix s
  | .transferTimeout ix => Sys2Proof.Machine.execTransferTimeout ix s
  | .dabinLinkLossReplay n fwd accepted => Sys2Proof.Machine.execDabinLinkLossReplay n fwd accepted s
  | .endpointAbsentCleanup e => Sys2Proof.Machine.execEndpointAbsentCleanup e s
  | .liveBlockUpdate => Sys2Proof.Machine.execLiveBlockUpdate s
  | .lbscan port => Sys2Proof.Machine.execLbscan port s
  | .rtrTblDataWrite port e v => Sys2Proof.Machine.execRtrTblDataWrite port e v s
  | .rtrTblDataRead port e => Sys2Proof.Machine.execRtrTblDataRead port e s
  | .rtrBroadcastWrite port off v => Sys2Proof.Machine.execRtrBroadcastWrite port off v s
  | .rtrTselSnap port e v => Sys2Proof.Machine.execRtrTselSnap port e v s
  | .epochWrite port ep => Sys2Proof.Machine.execEpochWrite port ep s
  | .epochSwitchAck e => Sys2Proof.Machine.execEpochSwitchAck e s
  | .epochDrainSweep => Sys2Proof.Machine.execEpochDrainSweep s
  | .distUpdate pair => Sys2Proof.Machine.execDistUpdate pair s
  | .optPacketReceive ix ok => Sys2Proof.Machine.execOptPacketReceive ix ok s
  | .optAckReceive a b lseq => Sys2Proof.Machine.execOptAckReceive a b lseq s
  | .optResendTimeout a b lseq => Sys2Proof.Machine.execOptResendTimeout a b lseq s
  | .optMarginWindow a b plane cls corr uncorr => Sys2Proof.Machine.execOptMarginWindow a b plane cls corr uncorr s
  | .optRetuneDone a b plane ok => Sys2Proof.Machine.execOptRetuneDone a b plane ok s
  | .planeRelockStart => Sys2Proof.Machine.execPlaneRelockStart s
  | .planeRelockEnd plane failed => Sys2Proof.Machine.execPlaneRelockEnd plane failed s
  | .rlreq port plane => Sys2Proof.Machine.execRlreq port plane s
  | .laserLockLoss die => Sys2Proof.Machine.execLaserLockLoss die s
  | .laserRestartDone die ok => Sys2Proof.Machine.execLaserRestartDone die ok s
  | .calstart port => Sys2Proof.Machine.execCalstart port s
  | .optCalDone bad classes lats => Sys2Proof.Machine.execOptCalDone bad classes lats s
  | .dabinFrameRefused n fwd frames => Sys2Proof.Machine.execDabinFrameRefused n fwd frames s
  | .dabinBudgetWindow n => Sys2Proof.Machine.execDabinBudgetWindow n s
  | .dabinTrainStateDone n bad => Sys2Proof.Machine.execDabinTrainStateDone n bad s
  | .dabinTrainTimeout n bad => Sys2Proof.Machine.execDabinTrainTimeout n bad s
  | .dabinCapExchange n cap => Sys2Proof.Machine.execDabinCapExchange n cap s
  | .dabinLaneParityWindow n fwd lane errs => Sys2Proof.Machine.execDabinLaneParityWindow n fwd lane errs s
  | .dabinRecalDone n good => Sys2Proof.Machine.execDabinRecalDone n good s
  | .dblRetrain port n => Sys2Proof.Machine.execDblRetrain port n s
  | .dblRecal port n => Sys2Proof.Machine.execDblRecal port n s
  | .dblHold port n hold => Sys2Proof.Machine.execDblHold port n hold s
  | .elasticRecentre n => Sys2Proof.Machine.execElasticRecentre n s
  | .discStart port => Sys2Proof.Machine.execDiscStart port s
  | .discovery reports => Sys2Proof.Machine.execDiscovery reports s
  | .memRead ix uncorr corr stack retries => Sys2Proof.Machine.execMemRead ix uncorr corr stack retries s
  | .memWrite ix uncorr corr stack retries => Sys2Proof.Machine.execMemWrite ix uncorr corr stack retries s
  | .memAtomic ix found => Sys2Proof.Machine.execMemAtomic ix found s
  | .memPatrolScrub e first count uncorr corr stack retries => Sys2Proof.Machine.execMemPatrolScrub e first count uncorr corr stack retries s
  | .mbdRetreq port m ch => Sys2Proof.Machine.execMbdRetreq port m ch s
  | .channelMigrationDone m bad => Sys2Proof.Machine.execChannelMigrationDone m bad s
  | .iodRetreq port k pkg => Sys2Proof.Machine.execIodRetreq port k pkg s
  | .tubPstart port => Sys2Proof.Machine.execTubPstart port s
  | .portTrainStateDone q bad => Sys2Proof.Machine.execPortTrainStateDone q bad s
  | .portTrainTimeout q bad => Sys2Proof.Machine.execPortTrainTimeout q bad s
  | .portCapExchange q cap cable => Sys2Proof.Machine.execPortCapExchange q cap cable s
  | .portLaneClassWindow q lane cls corr uncorr => Sys2Proof.Machine.execPortLaneClassWindow q lane cls corr uncorr s
  | .portFrameRefused q frames => Sys2Proof.Machine.execPortFrameRefused q frames s
  | .portRetrain port q => Sys2Proof.Machine.execPortRetrain port q s
  | .portHold port q hold => Sys2Proof.Machine.execPortHold port q hold s
  | .fabricIngress q hdr pre data px => Sys2Proof.Machine.execFabricIngress q hdr pre data px s
  | .fabricTimeout ix => Sys2Proof.Machine.execFabricTimeout ix s
  | .tubWinCtlWrite port w v => Sys2Proof.Machine.execTubWinCtlWrite port w v s
  | .tubHopqWrite port l => Sys2Proof.Machine.execTubHopqWrite port l s
  | .tubFepochWrite port ep => Sys2Proof.Machine.execTubFepochWrite port ep s
  | .tubFtblwWrite port v => Sys2Proof.Machine.execTubFtblwWrite port v s
  | .flipPanelTimeout panel => Sys2Proof.Machine.execFlipPanelTimeout panel s
  | .fabricBeaconSend q => Sys2Proof.Machine.execFabricBeaconSend q s
  | .fabricBeaconReceive q gt => Sys2Proof.Machine.execFabricBeaconReceive q gt s
  | .domainHoldover => Sys2Proof.Machine.execDomainHoldover s
  | .start src w0 w1 => Sys2Proof.Machine.execStart src w0 w1 s
  | .done src w0 w1 => Sys2Proof.Machine.execDone src w0 w1 s
  | .commit src w0 w1 => Sys2Proof.Machine.execCommit src w0 w1 s
  | .abort src w0 w1 => Sys2Proof.Machine.execAbort src w0 w1 s
  | .fault src w0 w1 repl => Sys2Proof.Machine.execFault src w0 w1 repl s
  | .fence src w0 w1 => Sys2Proof.Machine.execFence src w0 w1 s
  | .swap src w0 w1 => Sys2Proof.Machine.execSwap src w0 w1 s
  | .probation src w0 w1 => Sys2Proof.Machine.execProbation src w0 w1 s
  | .beat src w0 w1 => Sys2Proof.Machine.execBeat src w0 w1 s
  | .takeover src w0 w1 => Sys2Proof.Machine.execTakeover src w0 w1 s
  | .newstby src w0 w1 => Sys2Proof.Machine.execNewstby src w0 w1 s
  | .remap src w0 w1 => Sys2Proof.Machine.execRemap src w0 w1 s
  | .remapdone src w0 w1 => Sys2Proof.Machine.execRemapdone src w0 w1 s
  | .ack src w0 w1 => Sys2Proof.Machine.execAck src w0 w1 s
  | .bundle src w0 w1 => Sys2Proof.Machine.execBundle src w0 w1 s
  | .ftbl src w0 w1 => Sys2Proof.Machine.execFtbl src w0 w1 s
  | .fflip src w0 w1 => Sys2Proof.Machine.execFflip src w0 w1 s
  | .fsweep src w0 w1 => Sys2Proof.Machine.execFsweep src w0 w1 s
  | .fresid src w0 w1 => Sys2Proof.Machine.execFresid src w0 w1 s
  | .msgResendTimeout ix shadow => Sys2Proof.Machine.execMsgResendTimeout ix shadow s
  | .mgrGo port n => Sys2Proof.Machine.execMgrGo port n s
  | .mgrStop port n => Sys2Proof.Machine.execMgrStop port n s
  | .beatTimer n => Sys2Proof.Machine.execBeatTimer n s
  | .managerLost n lost => Sys2Proof.Machine.execManagerLost n lost s
  | .skeinRead ix => Sys2Proof.Machine.execSkeinRead ix s
  | .skeinAdd ix => Sys2Proof.Machine.execSkeinAdd ix s
  | .skeinWaitGe ix => Sys2Proof.Machine.execSkeinWaitGe ix s
  | .skeinAcquire ix => Sys2Proof.Machine.execSkeinAcquire ix s
  | .skeinSet ix => Sys2Proof.Machine.execSkeinSet ix s
  | .skeinArrive ix => Sys2Proof.Machine.execSkeinArrive ix s
  | .waiterTimeout sk ix => Sys2Proof.Machine.execWaiterTimeout sk ix s
  | .pollRetry ix => Sys2Proof.Machine.execPollRetry ix s
  | .sknHostSet port page sk v => Sys2Proof.Machine.execSknHostSet port page sk v s
  | .sknBreak port page sk => Sys2Proof.Machine.execSknBreak port page sk s
  | .notifierArm port page n sk v => Sys2Proof.Machine.execNotifierArm port page n sk v s
  | .dieAbsentWaiterWithdraw e => Sys2Proof.Machine.execDieAbsentWaiterWithdraw e s
  | .parkGate p => Sys2Proof.Machine.execParkGate p s
  | .areaArm ix => Sys2Proof.Machine.execAreaArm ix s
  | .areaDisarm ix => Sys2Proof.Machine.execAreaDisarm ix s
  | .areaZeroDone key => Sys2Proof.Machine.execAreaZeroDone key s
  | .winderLword ix => Sys2Proof.Machine.execWinderLword ix s
  | .areaOutputDone key => Sys2Proof.Machine.execAreaOutputDone key s
  | .areaTimeout key => Sys2Proof.Machine.execAreaTimeout key s
  | .staggerRelease p id => Sys2Proof.Machine.execStaggerRelease p id s
  | .plyTicketArrive p pri id => Sys2Proof.Machine.execPlyTicketArrive p pri id s
  | .plyPassRun p => Sys2Proof.Machine.execPlyPassRun p s
  | .plyPassEnd p errs pois => Sys2Proof.Machine.execPlyPassEnd p errs pois s
  | .plyDigestArrive p id by_ => Sys2Proof.Machine.execPlyDigestArrive p id by_ s
  | .plyTicketTimeout p id => Sys2Proof.Machine.execPlyTicketTimeout p id s
  | .slubDecayTick => Sys2Proof.Machine.execSlubDecayTick s
  | .ret1hWindowExpiry => Sys2Proof.Machine.execRet1hWindowExpiry s
  | .slubvalWrite port v => Sys2Proof.Machine.execSlubvalWrite port v s
  | .slubwWrite port v => Sys2Proof.Machine.execSlubwWrite port v s
  | .slubthrWrite port ix v => Sys2Proof.Machine.execSlubthrWrite port ix v s
  | .partStepStart port j step => Sys2Proof.Machine.execPartStepStart port j step s
  | .seedCopyDone j status => Sys2Proof.Machine.execSeedCopyDone j status s
  | .restoreDone j status lines => Sys2Proof.Machine.execRestoreDone j status lines s
  | .partSusp port j => Sys2Proof.Machine.execPartSusp port j s
  | .partResume port j => Sys2Proof.Machine.execPartResume port j s
  | .stepComplete j => Sys2Proof.Machine.execStepComplete j s
  | .partCommit port j => Sys2Proof.Machine.execPartCommit port j s
  | .partAbort port j => Sys2Proof.Machine.execPartAbort port j s
  | .abortDrainEnd j => Sys2Proof.Machine.execAbortDrainEnd j s
  | .partRestore port j => Sys2Proof.Machine.execPartRestore port j s
  | .partAckloss port j => Sys2Proof.Machine.execPartAckloss port j s
  | .spliceRecordCompare j => Sys2Proof.Machine.execSpliceRecordCompare j s
  | .partMirCtlWrite port j ix v => Sys2Proof.Machine.execPartMirCtlWrite port j ix v s
  | .partSprCtlWrite port j ix v => Sys2Proof.Machine.execPartSprCtlWrite port j ix v s
  | .partRotWrite port j v => Sys2Proof.Machine.execPartRotWrite port j v s
  | .refEdgeLoss e => Sys2Proof.Machine.execRefEdgeLoss e s
  | .holdoverStop e => Sys2Proof.Machine.execHoldoverStop e s
  | .replicaStretch p cycles slack => Sys2Proof.Machine.execReplicaStretch p cycles slack s
  | .rstepWindow p cycles low now => Sys2Proof.Machine.execRstepWindow p cycles low now s
  | .rstepDecay p => Sys2Proof.Machine.execRstepDecay p s
  | .gtBeaconSend => Sys2Proof.Machine.execGtBeaconSend s
  | .gtBeaconReceive e ofs => Sys2Proof.Machine.execGtBeaconReceive e ofs s
  | .gtBeaconMissing e => Sys2Proof.Machine.execGtBeaconMissing e s
  | .freqArm port => Sys2Proof.Machine.execFreqArm port s
  | .freqCancel port => Sys2Proof.Machine.execFreqCancel port s
  | .freqParamWrite port tgt t => Sys2Proof.Machine.execFreqParamWrite port tgt t s
  | .railRampStart h => Sys2Proof.Machine.execRailRampStart h s
  | .freqApply e => Sys2Proof.Machine.execFreqApply e s
  | .freqSwitchDone => Sys2Proof.Machine.execFreqSwitchDone s
  | .hardwareStage wd0ok wd1ok => Sys2Proof.Machine.execHardwareStage wd0ok wd1ok s
  | .inputUndervoltage mv => Sys2Proof.Machine.execInputUndervoltage mv s
  | .inputCriticalStop mv => Sys2Proof.Machine.execInputCriticalStop mv s
  | .hankOnreq port h => Sys2Proof.Machine.execHankOnreq port h s
  | .hankPowerOnDone h classes lats => Sys2Proof.Machine.execHankPowerOnDone h classes lats s
  | .hankOffreq port h => Sys2Proof.Machine.execHankOffreq port h s
  | .hankSwitchOff h => Sys2Proof.Machine.execHankSwitchOff h s
  | .hankClrflt port h => Sys2Proof.Machine.execHankClrflt port h s
  | .hankShort h => Sys2Proof.Machine.execHankShort h s
  | .hankThermalTrip h temp stk => Sys2Proof.Machine.execHankThermalTrip h temp stk s
  | .headerSwitchStaged p on => Sys2Proof.Machine.execHeaderSwitchStaged p on s
  | .budgetDivide pfix => Sys2Proof.Machine.execBudgetDivide pfix s
  | .hankNcapEval h pr pts => Sys2Proof.Machine.execHankNcapEval h pr pts s
  | .pcapHostWrite port cap => Sys2Proof.Machine.execPcapHostWrite port cap s
  | .noticePreposition p => Sys2Proof.Machine.execNoticePreposition p s
  | .issueRampStep p => Sys2Proof.Machine.execIssueRampStep p s
  | .hotspotSense p hot => Sys2Proof.Machine.execHotspotSense p hot s
  | .telemetryPublish readings model tin tout dp flow => Sys2Proof.Machine.execTelemetryPublish readings model tin tout dp flow s
  | .coolantCritical => Sys2Proof.Machine.execCoolantCritical s
  | .connectionMonitor readings => Sys2Proof.Machine.execConnectionMonitor readings s
  | .thermalForecast h tj tstk fcst => Sys2Proof.Machine.execThermalForecast h tj tstk fcst s
  | .thermalCycleCount h temp => Sys2Proof.Machine.execThermalCycleCount h temp s
  | .bootEnumerate port => Sys2Proof.Machine.execBootEnumerate port s
  | .bootClockStart port => Sys2Proof.Machine.execBootClockStart port s
  | .bootPower port => Sys2Proof.Machine.execBootPower port s
  | .bootMemoryTrain port hard => Sys2Proof.Machine.execBootMemoryTrain port hard s
  | .bootSelfTest port => Sys2Proof.Machine.execBootSelfTest port s
  | .bootReconcile port => Sys2Proof.Machine.execBootReconcile port s
  | .bootRelease port => Sys2Proof.Machine.execBootRelease port s
  | .bootStepDone bad => Sys2Proof.Machine.execBootStepDone bad s
  | .fuseOvr port => Sys2Proof.Machine.execFuseOvr port s
  | .fuseAdd port => Sys2Proof.Machine.execFuseAdd port s
  | .fwStagingWrite port off data => Sys2Proof.Machine.execFwStagingWrite port off data s
  | .fwMeasure port typ len => Sys2Proof.Machine.execFwMeasure port typ len s
  | .fwMeasureDone => Sys2Proof.Machine.execFwMeasureDone s
  | .fwLoad port => Sys2Proof.Machine.execFwLoad port s
  | .fwDrop port => Sys2Proof.Machine.execFwDrop port s
  | .fwConfirm p ok => Sys2Proof.Machine.execFwConfirm p ok s
  | .fwClusterCopyDone p ok => Sys2Proof.Machine.execFwClusterCopyDone p ok s
  | .cluStestGo port p dfr => Sys2Proof.Machine.execCluStestGo port p dfr s
  | .stestDeferredStart p => Sys2Proof.Machine.execStestDeferredStart p s
  | .stestDone p blk => Sys2Proof.Machine.execStestDone p blk s
  | .cluSeqReset port p => Sys2Proof.Machine.execCluSeqReset port p s
  | .cluReset port p scrub => Sys2Proof.Machine.execCluReset port p scrub s
  | .cluResetDone p => Sys2Proof.Machine.execCluResetDone p s
  | .partReset port j scrub => Sys2Proof.Machine.execPartReset port j scrub s
  | .partResetDone j => Sys2Proof.Machine.execPartResetDone j s
  | .panelReset port => Sys2Proof.Machine.execPanelReset port s
  | .panelFreeze port => Sys2Proof.Machine.execPanelFreeze port s
  | .genCommit port num => Sys2Proof.Machine.execGenCommit port num s
  | .genRevert port => Sys2Proof.Machine.execGenRevert port s
  | .genDiscard port => Sys2Proof.Machine.execGenDiscard port s
  | .ownCas port expect new_ => Sys2Proof.Machine.execOwnCas port expect new_ s
  | .ownRenew port => Sys2Proof.Machine.execOwnRenew port s
  | .ownForce port => Sys2Proof.Machine.execOwnForce port s
  | .ownLeaseExpiry => Sys2Proof.Machine.execOwnLeaseExpiry s
  | .dataWindowAccess port wr base off len data dis => Sys2Proof.Machine.execDataWindowAccess port wr base off len data dis s
  | .keyEnrol port slot => Sys2Proof.Machine.execKeyEnrol port slot s
  | .keyRevoke port slot => Sys2Proof.Machine.execKeyRevoke port slot s
  | .keycmdDone => Sys2Proof.Machine.execKeycmdDone s
  | .dbgEnter port => Sys2Proof.Machine.execDbgEnter port s
  | .dbgExit port => Sys2Proof.Machine.execDbgExit port s
  | .attReq port => Sys2Proof.Machine.execAttReq port s
  | .attDone => Sys2Proof.Machine.execAttDone s
  | .attWordRead port idk => Sys2Proof.Machine.execAttWordRead port idk s
  | .logdataRead port => Sys2Proof.Machine.execLogdataRead port s
  | .accLoRead port p => Sys2Proof.Machine.execAccLoRead port p s
  | .sknValueRead port page => Sys2Proof.Machine.execSknValueRead port page s
  | .presenceAssertHeld => Sys2Proof.Machine.execPresenceAssertHeld s
  | .presenceRelease => Sys2Proof.Machine.execPresenceRelease s
  | .sealLoopOpen => Sys2Proof.Machine.execSealLoopOpen s
  | .evtCauseClear port page v => Sys2Proof.Machine.execEvtCauseClear port page v s
  | .evtForce port page v => Sys2Proof.Machine.execEvtForce port page v s
  | .logclr port page => Sys2Proof.Machine.execLogclr port page s
  | .eventSummaryPropagate e => Sys2Proof.Machine.execEventSummaryPropagate e s
  | .vpendClear port ix v => Sys2Proof.Machine.execVpendClear port ix v s
  | .mgtTimeout port wr addr => Sys2Proof.Machine.execMgtTimeout port wr addr s
  | .bar0BadAccess port wr addr len => Sys2Proof.Machine.execBar0BadAccess port wr addr len s
  | .registerWrite port addr v => Sys2Proof.Machine.execRegisterWrite port addr v s
  | .hpLinkDown port => Sys2Proof.Machine.execHpLinkDown port s
  | .hpLinkUp port speed width => Sys2Proof.Machine.execHpLinkUp port speed width s
  | .hpPerst port => Sys2Proof.Machine.execHpPerst port s
  | .identityBusRead off len => Sys2Proof.Machine.execIdentityBusRead off len s
  | .referenceEdgeReturn e => Sys2Proof.Machine.execReferenceEdgeReturn e s
  | .undervoltageClear mv => Sys2Proof.Machine.execUndervoltageClear mv s
  | .msixVectorUnmask port v => Sys2Proof.Machine.execMsixVectorUnmask port v s

end Sys2Proof.Machine
end

