-- ==== Sys2Proof/Machine/Tick.lean ====
section
/-!
DEFINITION. What passes when no command waits: one cycle of the panel clock (R347, R352; log entry 41).
-/

namespace Sys2Proof.Machine

/-- The operating point the whorl die's clock runs at: the current one, or the one a running change has switched it to (R357,
R359). -/
def Dev.clockPoint (d : Dev) : Nat :=
  if d.f pgWHL WHL_FREQ_FSTATE = 2 ∧ !d.clk.switchLeft.contains d.wdEp then d.clk.tgt else d.f pgWHL WHL_FREQ_CUR

/-- The increment of GT in a cycle: 4,000 counts divided by the frequency in MHz, with 32 fraction bits (R352). -/
def gtIncrement (mhz : Nat) : Nat := 4000 * 2 ^ 32 / mhz

/-- One cycle: GT of the whorl die advances, slewed by the domain's rate correction (R355). -/
def Dev.tick (d : Dev) : Dev :=
  if d.stopped then d
  else
    let inc := gtIncrement (900 + 25 * d.clockPoint)
    let slew : Int := (inc : Int) * d.clk.adj / 40000
    let t := ((d.gt * 2 ^ 32 + d.gtFrac + inc : Nat) : Int) + slew
    let n := t.toNat % 2 ^ 96
    { d with gt := n / 2 ^ 32, gtFrac := n % 2 ^ 32 }

end Sys2Proof.Machine
end

