-- ==== Sys2Proof/Laws/State.lean ====
section
/-!
SUPPORT. What each elementary change of the panel leaves as it was, field by field.
-/

namespace Sys2Proof.Machine

variable (d : Dev)

/-! `setReg`. -/
@[simp] theorem Dev.setReg_gt (a : Nat) (v : Word) : (d.setReg a v).gt = d.gt := rfl
@[simp] theorem Dev.setReg_gtFrac (a : Nat) (v : Word) : (d.setReg a v).gtFrac = d.gtFrac := rfl
@[simp] theorem Dev.setReg_gtOfs (a : Nat) (v : Word) : (d.setReg a v).gtOfs = d.gtOfs := rfl
@[simp] theorem Dev.setReg_stopped (a : Nat) (v : Word) : (d.setReg a v).stopped = d.stopped := rfl
@[simp] theorem Dev.setReg_mem (a : Nat) (v : Word) : (d.setReg a v).mem = d.mem := rfl
@[simp] theorem Dev.setReg_pois (a : Nat) (v : Word) : (d.setReg a v).pois = d.pois := rfl
@[simp] theorem Dev.setReg_sour (a : Nat) (v : Word) : (d.setReg a v).sour = d.sour := rfl
@[simp] theorem Dev.setReg_upsets (a : Nat) (v : Word) : (d.setReg a v).upsets = d.upsets := rfl
@[simp] theorem Dev.setReg_clu (a : Nat) (v : Word) : (d.setReg a v).clu = d.clu := rfl
@[simp] theorem Dev.setReg_net (a : Nat) (v : Word) : (d.setReg a v).net = d.net := rfl
@[simp] theorem Dev.setReg_skn (a : Nat) (v : Word) : (d.setReg a v).skn = d.skn := rfl
@[simp] theorem Dev.setReg_areas (a : Nat) (v : Word) : (d.setReg a v).areas = d.areas := rfl
@[simp] theorem Dev.setReg_idleAreas (a : Nat) (v : Word) : (d.setReg a v).idleAreas = d.idleAreas := rfl
@[simp] theorem Dev.setReg_parts (a : Nat) (v : Word) : (d.setReg a v).parts = d.parts := rfl
@[simp] theorem Dev.setReg_gens (a : Nat) (v : Word) : (d.setReg a v).gens = d.gens := rfl
@[simp] theorem Dev.setReg_opt (a : Nat) (v : Word) : (d.setReg a v).opt = d.opt := rfl
@[simp] theorem Dev.setReg_lnk (a : Nat) (v : Word) : (d.setReg a v).lnk = d.lnk := rfl
@[simp] theorem Dev.setReg_mbd (a : Nat) (v : Word) : (d.setReg a v).mbd = d.mbd := rfl
@[simp] theorem Dev.setReg_fab (a : Nat) (v : Word) : (d.setReg a v).fab = d.fab := rfl
@[simp] theorem Dev.setReg_mgrs (a : Nat) (v : Word) : (d.setReg a v).mgrs = d.mgrs := rfl
@[simp] theorem Dev.setReg_slub (a : Nat) (v : Word) : (d.setReg a v).slub = d.slub := rfl
@[simp] theorem Dev.setReg_clk (a : Nat) (v : Word) : (d.setReg a v).clk = d.clk := rfl
@[simp] theorem Dev.setReg_pwr (a : Nat) (v : Word) : (d.setReg a v).pwr = d.pwr := rfl
@[simp] theorem Dev.setReg_boot (a : Nat) (v : Word) : (d.setReg a v).boot = d.boot := rfl
@[simp] theorem Dev.setReg_sec (a : Nat) (v : Word) : (d.setReg a v).sec = d.sec := rfl
@[simp] theorem Dev.setReg_ports (a : Nat) (v : Word) : (d.setReg a v).ports = d.ports := rfl
@[simp] theorem Dev.setReg_dsum (a : Nat) (v : Word) : (d.setReg a v).dsum = d.dsum := rfl
@[simp] theorem Dev.setReg_idBus (a : Nat) (v : Word) : (d.setReg a v).idBus = d.idBus := rfl
@[simp] theorem Dev.setReg_free (a : Nat) (v : Word) : (d.setReg a v).free = d.free := rfl

/-! `setf`. -/
@[simp] theorem Dev.setf_gt (pg : Nat) (x : Fld) (v i : Nat) : (d.setf pg x v i).gt = d.gt := rfl
@[simp] theorem Dev.setf_gtFrac (pg : Nat) (x : Fld) (v i : Nat) : (d.setf pg x v i).gtFrac = d.gtFrac := rfl
@[simp] theorem Dev.setf_gtOfs (pg : Nat) (x : Fld) (v i : Nat) : (d.setf pg x v i).gtOfs = d.gtOfs := rfl
@[simp] theorem Dev.setf_stopped (pg : Nat) (x : Fld) (v i : Nat) : (d.setf pg x v i).stopped = d.stopped := rfl
@[simp] theorem Dev.setf_mem (pg : Nat) (x : Fld) (v i : Nat) : (d.setf pg x v i).mem = d.mem := rfl
@[simp] theorem Dev.setf_pois (pg : Nat) (x : Fld) (v i : Nat) : (d.setf pg x v i).pois = d.pois := rfl
@[simp] theorem Dev.setf_sour (pg : Nat) (x : Fld) (v i : Nat) : (d.setf pg x v i).sour = d.sour := rfl
@[simp] theorem Dev.setf_upsets (pg : Nat) (x : Fld) (v i : Nat) : (d.setf pg x v i).upsets = d.upsets := rfl
@[simp] theorem Dev.setf_clu (pg : Nat) (x : Fld) (v i : Nat) : (d.setf pg x v i).clu = d.clu := rfl
@[simp] theorem Dev.setf_net (pg : Nat) (x : Fld) (v i : Nat) : (d.setf pg x v i).net = d.net := rfl
@[simp] theorem Dev.setf_skn (pg : Nat) (x : Fld) (v i : Nat) : (d.setf pg x v i).skn = d.skn := rfl
@[simp] theorem Dev.setf_areas (pg : Nat) (x : Fld) (v i : Nat) : (d.setf pg x v i).areas = d.areas := rfl
@[simp] theorem Dev.setf_idleAreas (pg : Nat) (x : Fld) (v i : Nat) : (d.setf pg x v i).idleAreas = d.idleAreas := rfl
@[simp] theorem Dev.setf_parts (pg : Nat) (x : Fld) (v i : Nat) : (d.setf pg x v i).parts = d.parts := rfl
@[simp] theorem Dev.setf_gens (pg : Nat) (x : Fld) (v i : Nat) : (d.setf pg x v i).gens = d.gens := rfl
@[simp] theorem Dev.setf_opt (pg : Nat) (x : Fld) (v i : Nat) : (d.setf pg x v i).opt = d.opt := rfl
@[simp] theorem Dev.setf_lnk (pg : Nat) (x : Fld) (v i : Nat) : (d.setf pg x v i).lnk = d.lnk := rfl
@[simp] theorem Dev.setf_mbd (pg : Nat) (x : Fld) (v i : Nat) : (d.setf pg x v i).mbd = d.mbd := rfl
@[simp] theorem Dev.setf_fab (pg : Nat) (x : Fld) (v i : Nat) : (d.setf pg x v i).fab = d.fab := rfl
@[simp] theorem Dev.setf_mgrs (pg : Nat) (x : Fld) (v i : Nat) : (d.setf pg x v i).mgrs = d.mgrs := rfl
@[simp] theorem Dev.setf_slub (pg : Nat) (x : Fld) (v i : Nat) : (d.setf pg x v i).slub = d.slub := rfl
@[simp] theorem Dev.setf_clk (pg : Nat) (x : Fld) (v i : Nat) : (d.setf pg x v i).clk = d.clk := rfl
@[simp] theorem Dev.setf_pwr (pg : Nat) (x : Fld) (v i : Nat) : (d.setf pg x v i).pwr = d.pwr := rfl
@[simp] theorem Dev.setf_boot (pg : Nat) (x : Fld) (v i : Nat) : (d.setf pg x v i).boot = d.boot := rfl
@[simp] theorem Dev.setf_sec (pg : Nat) (x : Fld) (v i : Nat) : (d.setf pg x v i).sec = d.sec := rfl
@[simp] theorem Dev.setf_ports (pg : Nat) (x : Fld) (v i : Nat) : (d.setf pg x v i).ports = d.ports := rfl
@[simp] theorem Dev.setf_dsum (pg : Nat) (x : Fld) (v i : Nat) : (d.setf pg x v i).dsum = d.dsum := rfl
@[simp] theorem Dev.setf_idBus (pg : Nat) (x : Fld) (v i : Nat) : (d.setf pg x v i).idBus = d.idBus := rfl
@[simp] theorem Dev.setf_free (pg : Nat) (x : Fld) (v i : Nat) : (d.setf pg x v i).free = d.free := rfl

/-! `ev`. -/
@[simp] theorem Dev.ev_gt (pg b : Nat) : (d.ev pg b).gt = d.gt := by simp only [Dev.ev, Dev.setReg_gt]
@[simp] theorem Dev.ev_gtFrac (pg b : Nat) : (d.ev pg b).gtFrac = d.gtFrac := by simp only [Dev.ev, Dev.setReg_gtFrac]
@[simp] theorem Dev.ev_gtOfs (pg b : Nat) : (d.ev pg b).gtOfs = d.gtOfs := by simp only [Dev.ev, Dev.setReg_gtOfs]
@[simp] theorem Dev.ev_stopped (pg b : Nat) : (d.ev pg b).stopped = d.stopped := by simp only [Dev.ev, Dev.setReg_stopped]
@[simp] theorem Dev.ev_mem (pg b : Nat) : (d.ev pg b).mem = d.mem := by simp only [Dev.ev, Dev.setReg_mem]
@[simp] theorem Dev.ev_pois (pg b : Nat) : (d.ev pg b).pois = d.pois := by simp only [Dev.ev, Dev.setReg_pois]
@[simp] theorem Dev.ev_sour (pg b : Nat) : (d.ev pg b).sour = d.sour := by simp only [Dev.ev, Dev.setReg_sour]
@[simp] theorem Dev.ev_upsets (pg b : Nat) : (d.ev pg b).upsets = d.upsets := by simp only [Dev.ev, Dev.setReg_upsets]
@[simp] theorem Dev.ev_clu (pg b : Nat) : (d.ev pg b).clu = d.clu := by simp only [Dev.ev, Dev.setReg_clu]
@[simp] theorem Dev.ev_net (pg b : Nat) : (d.ev pg b).net = d.net := by simp only [Dev.ev, Dev.setReg_net]
@[simp] theorem Dev.ev_skn (pg b : Nat) : (d.ev pg b).skn = d.skn := by simp only [Dev.ev, Dev.setReg_skn]
@[simp] theorem Dev.ev_areas (pg b : Nat) : (d.ev pg b).areas = d.areas := by simp only [Dev.ev, Dev.setReg_areas]
@[simp] theorem Dev.ev_idleAreas (pg b : Nat) : (d.ev pg b).idleAreas = d.idleAreas := by simp only [Dev.ev, Dev.setReg_idleAreas]
@[simp] theorem Dev.ev_parts (pg b : Nat) : (d.ev pg b).parts = d.parts := by simp only [Dev.ev, Dev.setReg_parts]
@[simp] theorem Dev.ev_gens (pg b : Nat) : (d.ev pg b).gens = d.gens := by simp only [Dev.ev, Dev.setReg_gens]
@[simp] theorem Dev.ev_opt (pg b : Nat) : (d.ev pg b).opt = d.opt := by simp only [Dev.ev, Dev.setReg_opt]
@[simp] theorem Dev.ev_lnk (pg b : Nat) : (d.ev pg b).lnk = d.lnk := by simp only [Dev.ev, Dev.setReg_lnk]
@[simp] theorem Dev.ev_mbd (pg b : Nat) : (d.ev pg b).mbd = d.mbd := by simp only [Dev.ev, Dev.setReg_mbd]
@[simp] theorem Dev.ev_fab (pg b : Nat) : (d.ev pg b).fab = d.fab := by simp only [Dev.ev, Dev.setReg_fab]
@[simp] theorem Dev.ev_mgrs (pg b : Nat) : (d.ev pg b).mgrs = d.mgrs := by simp only [Dev.ev, Dev.setReg_mgrs]
@[simp] theorem Dev.ev_slub (pg b : Nat) : (d.ev pg b).slub = d.slub := by simp only [Dev.ev, Dev.setReg_slub]
@[simp] theorem Dev.ev_clk (pg b : Nat) : (d.ev pg b).clk = d.clk := by simp only [Dev.ev, Dev.setReg_clk]
@[simp] theorem Dev.ev_pwr (pg b : Nat) : (d.ev pg b).pwr = d.pwr := by simp only [Dev.ev, Dev.setReg_pwr]
@[simp] theorem Dev.ev_boot (pg b : Nat) : (d.ev pg b).boot = d.boot := by simp only [Dev.ev, Dev.setReg_boot]
@[simp] theorem Dev.ev_sec (pg b : Nat) : (d.ev pg b).sec = d.sec := by simp only [Dev.ev, Dev.setReg_sec]
@[simp] theorem Dev.ev_ports (pg b : Nat) : (d.ev pg b).ports = d.ports := by simp only [Dev.ev, Dev.setReg_ports]
@[simp] theorem Dev.ev_dsum (pg b : Nat) : (d.ev pg b).dsum = d.dsum := by simp only [Dev.ev, Dev.setReg_dsum]
@[simp] theorem Dev.ev_idBus (pg b : Nat) : (d.ev pg b).idBus = d.idBus := by simp only [Dev.ev, Dev.setReg_idBus]
@[simp] theorem Dev.ev_free (pg b : Nat) : (d.ev pg b).free = d.free := by simp only [Dev.ev, Dev.setReg_free]

/-! `updCl`. -/
@[simp] theorem Dev.updCl_regs (p : Nat) (f : Clu → Clu) : (d.updCl p f).regs = d.regs := rfl
@[simp] theorem Dev.updCl_gt (p : Nat) (f : Clu → Clu) : (d.updCl p f).gt = d.gt := rfl
@[simp] theorem Dev.updCl_gtFrac (p : Nat) (f : Clu → Clu) : (d.updCl p f).gtFrac = d.gtFrac := rfl
@[simp] theorem Dev.updCl_gtOfs (p : Nat) (f : Clu → Clu) : (d.updCl p f).gtOfs = d.gtOfs := rfl
@[simp] theorem Dev.updCl_stopped (p : Nat) (f : Clu → Clu) : (d.updCl p f).stopped = d.stopped := rfl
@[simp] theorem Dev.updCl_mem (p : Nat) (f : Clu → Clu) : (d.updCl p f).mem = d.mem := rfl
@[simp] theorem Dev.updCl_pois (p : Nat) (f : Clu → Clu) : (d.updCl p f).pois = d.pois := rfl
@[simp] theorem Dev.updCl_sour (p : Nat) (f : Clu → Clu) : (d.updCl p f).sour = d.sour := rfl
@[simp] theorem Dev.updCl_upsets (p : Nat) (f : Clu → Clu) : (d.updCl p f).upsets = d.upsets := rfl
@[simp] theorem Dev.updCl_net (p : Nat) (f : Clu → Clu) : (d.updCl p f).net = d.net := rfl
@[simp] theorem Dev.updCl_skn (p : Nat) (f : Clu → Clu) : (d.updCl p f).skn = d.skn := rfl
@[simp] theorem Dev.updCl_areas (p : Nat) (f : Clu → Clu) : (d.updCl p f).areas = d.areas := rfl
@[simp] theorem Dev.updCl_idleAreas (p : Nat) (f : Clu → Clu) : (d.updCl p f).idleAreas = d.idleAreas := rfl
@[simp] theorem Dev.updCl_parts (p : Nat) (f : Clu → Clu) : (d.updCl p f).parts = d.parts := rfl
@[simp] theorem Dev.updCl_gens (p : Nat) (f : Clu → Clu) : (d.updCl p f).gens = d.gens := rfl
@[simp] theorem Dev.updCl_opt (p : Nat) (f : Clu → Clu) : (d.updCl p f).opt = d.opt := rfl
@[simp] theorem Dev.updCl_lnk (p : Nat) (f : Clu → Clu) : (d.updCl p f).lnk = d.lnk := rfl
@[simp] theorem Dev.updCl_mbd (p : Nat) (f : Clu → Clu) : (d.updCl p f).mbd = d.mbd := rfl
@[simp] theorem Dev.updCl_fab (p : Nat) (f : Clu → Clu) : (d.updCl p f).fab = d.fab := rfl
@[simp] theorem Dev.updCl_mgrs (p : Nat) (f : Clu → Clu) : (d.updCl p f).mgrs = d.mgrs := rfl
@[simp] theorem Dev.updCl_slub (p : Nat) (f : Clu → Clu) : (d.updCl p f).slub = d.slub := rfl
@[simp] theorem Dev.updCl_clk (p : Nat) (f : Clu → Clu) : (d.updCl p f).clk = d.clk := rfl
@[simp] theorem Dev.updCl_pwr (p : Nat) (f : Clu → Clu) : (d.updCl p f).pwr = d.pwr := rfl
@[simp] theorem Dev.updCl_boot (p : Nat) (f : Clu → Clu) : (d.updCl p f).boot = d.boot := rfl
@[simp] theorem Dev.updCl_sec (p : Nat) (f : Clu → Clu) : (d.updCl p f).sec = d.sec := rfl
@[simp] theorem Dev.updCl_ports (p : Nat) (f : Clu → Clu) : (d.updCl p f).ports = d.ports := rfl
@[simp] theorem Dev.updCl_dsum (p : Nat) (f : Clu → Clu) : (d.updCl p f).dsum = d.dsum := rfl
@[simp] theorem Dev.updCl_idBus (p : Nat) (f : Clu → Clu) : (d.updCl p f).idBus = d.idBus := rfl
@[simp] theorem Dev.updCl_free (p : Nat) (f : Clu → Clu) : (d.updCl p f).free = d.free := rfl

/-! `updSeq`. -/
@[simp] theorem Dev.updSeq_regs (p : Nat) (f : Seq → Seq) : (d.updSeq p f).regs = d.regs := rfl
@[simp] theorem Dev.updSeq_gt (p : Nat) (f : Seq → Seq) : (d.updSeq p f).gt = d.gt := rfl
@[simp] theorem Dev.updSeq_gtFrac (p : Nat) (f : Seq → Seq) : (d.updSeq p f).gtFrac = d.gtFrac := rfl
@[simp] theorem Dev.updSeq_gtOfs (p : Nat) (f : Seq → Seq) : (d.updSeq p f).gtOfs = d.gtOfs := rfl
@[simp] theorem Dev.updSeq_stopped (p : Nat) (f : Seq → Seq) : (d.updSeq p f).stopped = d.stopped := rfl
@[simp] theorem Dev.updSeq_mem (p : Nat) (f : Seq → Seq) : (d.updSeq p f).mem = d.mem := rfl
@[simp] theorem Dev.updSeq_pois (p : Nat) (f : Seq → Seq) : (d.updSeq p f).pois = d.pois := rfl
@[simp] theorem Dev.updSeq_sour (p : Nat) (f : Seq → Seq) : (d.updSeq p f).sour = d.sour := rfl
@[simp] theorem Dev.updSeq_upsets (p : Nat) (f : Seq → Seq) : (d.updSeq p f).upsets = d.upsets := rfl
@[simp] theorem Dev.updSeq_net (p : Nat) (f : Seq → Seq) : (d.updSeq p f).net = d.net := rfl
@[simp] theorem Dev.updSeq_skn (p : Nat) (f : Seq → Seq) : (d.updSeq p f).skn = d.skn := rfl
@[simp] theorem Dev.updSeq_areas (p : Nat) (f : Seq → Seq) : (d.updSeq p f).areas = d.areas := rfl
@[simp] theorem Dev.updSeq_idleAreas (p : Nat) (f : Seq → Seq) : (d.updSeq p f).idleAreas = d.idleAreas := rfl
@[simp] theorem Dev.updSeq_parts (p : Nat) (f : Seq → Seq) : (d.updSeq p f).parts = d.parts := rfl
@[simp] theorem Dev.updSeq_gens (p : Nat) (f : Seq → Seq) : (d.updSeq p f).gens = d.gens := rfl
@[simp] theorem Dev.updSeq_opt (p : Nat) (f : Seq → Seq) : (d.updSeq p f).opt = d.opt := rfl
@[simp] theorem Dev.updSeq_lnk (p : Nat) (f : Seq → Seq) : (d.updSeq p f).lnk = d.lnk := rfl
@[simp] theorem Dev.updSeq_mbd (p : Nat) (f : Seq → Seq) : (d.updSeq p f).mbd = d.mbd := rfl
@[simp] theorem Dev.updSeq_fab (p : Nat) (f : Seq → Seq) : (d.updSeq p f).fab = d.fab := rfl
@[simp] theorem Dev.updSeq_mgrs (p : Nat) (f : Seq → Seq) : (d.updSeq p f).mgrs = d.mgrs := rfl
@[simp] theorem Dev.updSeq_slub (p : Nat) (f : Seq → Seq) : (d.updSeq p f).slub = d.slub := rfl
@[simp] theorem Dev.updSeq_clk (p : Nat) (f : Seq → Seq) : (d.updSeq p f).clk = d.clk := rfl
@[simp] theorem Dev.updSeq_pwr (p : Nat) (f : Seq → Seq) : (d.updSeq p f).pwr = d.pwr := rfl
@[simp] theorem Dev.updSeq_boot (p : Nat) (f : Seq → Seq) : (d.updSeq p f).boot = d.boot := rfl
@[simp] theorem Dev.updSeq_sec (p : Nat) (f : Seq → Seq) : (d.updSeq p f).sec = d.sec := rfl
@[simp] theorem Dev.updSeq_ports (p : Nat) (f : Seq → Seq) : (d.updSeq p f).ports = d.ports := rfl
@[simp] theorem Dev.updSeq_dsum (p : Nat) (f : Seq → Seq) : (d.updSeq p f).dsum = d.dsum := rfl
@[simp] theorem Dev.updSeq_idBus (p : Nat) (f : Seq → Seq) : (d.updSeq p f).idBus = d.idBus := rfl
@[simp] theorem Dev.updSeq_free (p : Nat) (f : Seq → Seq) : (d.updSeq p f).free = d.free := rfl

/-! `updEng`. -/
@[simp] theorem Dev.updEng_regs (p n : Nat) (f : Draft → Draft) : (d.updEng p n f).regs = d.regs := rfl
@[simp] theorem Dev.updEng_gt (p n : Nat) (f : Draft → Draft) : (d.updEng p n f).gt = d.gt := rfl
@[simp] theorem Dev.updEng_gtFrac (p n : Nat) (f : Draft → Draft) : (d.updEng p n f).gtFrac = d.gtFrac := rfl
@[simp] theorem Dev.updEng_gtOfs (p n : Nat) (f : Draft → Draft) : (d.updEng p n f).gtOfs = d.gtOfs := rfl
@[simp] theorem Dev.updEng_stopped (p n : Nat) (f : Draft → Draft) : (d.updEng p n f).stopped = d.stopped := rfl
@[simp] theorem Dev.updEng_mem (p n : Nat) (f : Draft → Draft) : (d.updEng p n f).mem = d.mem := rfl
@[simp] theorem Dev.updEng_pois (p n : Nat) (f : Draft → Draft) : (d.updEng p n f).pois = d.pois := rfl
@[simp] theorem Dev.updEng_sour (p n : Nat) (f : Draft → Draft) : (d.updEng p n f).sour = d.sour := rfl
@[simp] theorem Dev.updEng_upsets (p n : Nat) (f : Draft → Draft) : (d.updEng p n f).upsets = d.upsets := rfl
@[simp] theorem Dev.updEng_net (p n : Nat) (f : Draft → Draft) : (d.updEng p n f).net = d.net := rfl
@[simp] theorem Dev.updEng_skn (p n : Nat) (f : Draft → Draft) : (d.updEng p n f).skn = d.skn := rfl
@[simp] theorem Dev.updEng_areas (p n : Nat) (f : Draft → Draft) : (d.updEng p n f).areas = d.areas := rfl
@[simp] theorem Dev.updEng_idleAreas (p n : Nat) (f : Draft → Draft) : (d.updEng p n f).idleAreas = d.idleAreas := rfl
@[simp] theorem Dev.updEng_parts (p n : Nat) (f : Draft → Draft) : (d.updEng p n f).parts = d.parts := rfl
@[simp] theorem Dev.updEng_gens (p n : Nat) (f : Draft → Draft) : (d.updEng p n f).gens = d.gens := rfl
@[simp] theorem Dev.updEng_opt (p n : Nat) (f : Draft → Draft) : (d.updEng p n f).opt = d.opt := rfl
@[simp] theorem Dev.updEng_lnk (p n : Nat) (f : Draft → Draft) : (d.updEng p n f).lnk = d.lnk := rfl
@[simp] theorem Dev.updEng_mbd (p n : Nat) (f : Draft → Draft) : (d.updEng p n f).mbd = d.mbd := rfl
@[simp] theorem Dev.updEng_fab (p n : Nat) (f : Draft → Draft) : (d.updEng p n f).fab = d.fab := rfl
@[simp] theorem Dev.updEng_mgrs (p n : Nat) (f : Draft → Draft) : (d.updEng p n f).mgrs = d.mgrs := rfl
@[simp] theorem Dev.updEng_slub (p n : Nat) (f : Draft → Draft) : (d.updEng p n f).slub = d.slub := rfl
@[simp] theorem Dev.updEng_clk (p n : Nat) (f : Draft → Draft) : (d.updEng p n f).clk = d.clk := rfl
@[simp] theorem Dev.updEng_pwr (p n : Nat) (f : Draft → Draft) : (d.updEng p n f).pwr = d.pwr := rfl
@[simp] theorem Dev.updEng_boot (p n : Nat) (f : Draft → Draft) : (d.updEng p n f).boot = d.boot := rfl
@[simp] theorem Dev.updEng_sec (p n : Nat) (f : Draft → Draft) : (d.updEng p n f).sec = d.sec := rfl
@[simp] theorem Dev.updEng_ports (p n : Nat) (f : Draft → Draft) : (d.updEng p n f).ports = d.ports := rfl
@[simp] theorem Dev.updEng_dsum (p n : Nat) (f : Draft → Draft) : (d.updEng p n f).dsum = d.dsum := rfl
@[simp] theorem Dev.updEng_idBus (p n : Nat) (f : Draft → Draft) : (d.updEng p n f).idBus = d.idBus := rfl
@[simp] theorem Dev.updEng_free (p n : Nat) (f : Draft → Draft) : (d.updEng p n f).free = d.free := rfl

/-! `updPt`. -/
@[simp] theorem Dev.updPt_regs (j : Nat) (f : Part → Part) : (d.updPt j f).regs = d.regs := rfl
@[simp] theorem Dev.updPt_gt (j : Nat) (f : Part → Part) : (d.updPt j f).gt = d.gt := rfl
@[simp] theorem Dev.updPt_gtFrac (j : Nat) (f : Part → Part) : (d.updPt j f).gtFrac = d.gtFrac := rfl
@[simp] theorem Dev.updPt_gtOfs (j : Nat) (f : Part → Part) : (d.updPt j f).gtOfs = d.gtOfs := rfl
@[simp] theorem Dev.updPt_stopped (j : Nat) (f : Part → Part) : (d.updPt j f).stopped = d.stopped := rfl
@[simp] theorem Dev.updPt_mem (j : Nat) (f : Part → Part) : (d.updPt j f).mem = d.mem := rfl
@[simp] theorem Dev.updPt_pois (j : Nat) (f : Part → Part) : (d.updPt j f).pois = d.pois := rfl
@[simp] theorem Dev.updPt_sour (j : Nat) (f : Part → Part) : (d.updPt j f).sour = d.sour := rfl
@[simp] theorem Dev.updPt_upsets (j : Nat) (f : Part → Part) : (d.updPt j f).upsets = d.upsets := rfl
@[simp] theorem Dev.updPt_clu (j : Nat) (f : Part → Part) : (d.updPt j f).clu = d.clu := rfl
@[simp] theorem Dev.updPt_net (j : Nat) (f : Part → Part) : (d.updPt j f).net = d.net := rfl
@[simp] theorem Dev.updPt_skn (j : Nat) (f : Part → Part) : (d.updPt j f).skn = d.skn := rfl
@[simp] theorem Dev.updPt_areas (j : Nat) (f : Part → Part) : (d.updPt j f).areas = d.areas := rfl
@[simp] theorem Dev.updPt_idleAreas (j : Nat) (f : Part → Part) : (d.updPt j f).idleAreas = d.idleAreas := rfl
@[simp] theorem Dev.updPt_gens (j : Nat) (f : Part → Part) : (d.updPt j f).gens = d.gens := rfl
@[simp] theorem Dev.updPt_opt (j : Nat) (f : Part → Part) : (d.updPt j f).opt = d.opt := rfl
@[simp] theorem Dev.updPt_lnk (j : Nat) (f : Part → Part) : (d.updPt j f).lnk = d.lnk := rfl
@[simp] theorem Dev.updPt_mbd (j : Nat) (f : Part → Part) : (d.updPt j f).mbd = d.mbd := rfl
@[simp] theorem Dev.updPt_fab (j : Nat) (f : Part → Part) : (d.updPt j f).fab = d.fab := rfl
@[simp] theorem Dev.updPt_mgrs (j : Nat) (f : Part → Part) : (d.updPt j f).mgrs = d.mgrs := rfl
@[simp] theorem Dev.updPt_slub (j : Nat) (f : Part → Part) : (d.updPt j f).slub = d.slub := rfl
@[simp] theorem Dev.updPt_clk (j : Nat) (f : Part → Part) : (d.updPt j f).clk = d.clk := rfl
@[simp] theorem Dev.updPt_pwr (j : Nat) (f : Part → Part) : (d.updPt j f).pwr = d.pwr := rfl
@[simp] theorem Dev.updPt_boot (j : Nat) (f : Part → Part) : (d.updPt j f).boot = d.boot := rfl
@[simp] theorem Dev.updPt_sec (j : Nat) (f : Part → Part) : (d.updPt j f).sec = d.sec := rfl
@[simp] theorem Dev.updPt_ports (j : Nat) (f : Part → Part) : (d.updPt j f).ports = d.ports := rfl
@[simp] theorem Dev.updPt_dsum (j : Nat) (f : Part → Part) : (d.updPt j f).dsum = d.dsum := rfl
@[simp] theorem Dev.updPt_idBus (j : Nat) (f : Part → Part) : (d.updPt j f).idBus = d.idBus := rfl
@[simp] theorem Dev.updPt_free (j : Nat) (f : Part → Part) : (d.updPt j f).free = d.free := rfl

/-! `updNet`. -/
@[simp] theorem Dev.updNet_regs (f : Net → Net) : (d.updNet f).regs = d.regs := rfl
@[simp] theorem Dev.updNet_gt (f : Net → Net) : (d.updNet f).gt = d.gt := rfl
@[simp] theorem Dev.updNet_gtFrac (f : Net → Net) : (d.updNet f).gtFrac = d.gtFrac := rfl
@[simp] theorem Dev.updNet_gtOfs (f : Net → Net) : (d.updNet f).gtOfs = d.gtOfs := rfl
@[simp] theorem Dev.updNet_stopped (f : Net → Net) : (d.updNet f).stopped = d.stopped := rfl
@[simp] theorem Dev.updNet_mem (f : Net → Net) : (d.updNet f).mem = d.mem := rfl
@[simp] theorem Dev.updNet_pois (f : Net → Net) : (d.updNet f).pois = d.pois := rfl
@[simp] theorem Dev.updNet_sour (f : Net → Net) : (d.updNet f).sour = d.sour := rfl
@[simp] theorem Dev.updNet_upsets (f : Net → Net) : (d.updNet f).upsets = d.upsets := rfl
@[simp] theorem Dev.updNet_clu (f : Net → Net) : (d.updNet f).clu = d.clu := rfl
@[simp] theorem Dev.updNet_skn (f : Net → Net) : (d.updNet f).skn = d.skn := rfl
@[simp] theorem Dev.updNet_areas (f : Net → Net) : (d.updNet f).areas = d.areas := rfl
@[simp] theorem Dev.updNet_idleAreas (f : Net → Net) : (d.updNet f).idleAreas = d.idleAreas := rfl
@[simp] theorem Dev.updNet_parts (f : Net → Net) : (d.updNet f).parts = d.parts := rfl
@[simp] theorem Dev.updNet_gens (f : Net → Net) : (d.updNet f).gens = d.gens := rfl
@[simp] theorem Dev.updNet_opt (f : Net → Net) : (d.updNet f).opt = d.opt := rfl
@[simp] theorem Dev.updNet_lnk (f : Net → Net) : (d.updNet f).lnk = d.lnk := rfl
@[simp] theorem Dev.updNet_mbd (f : Net → Net) : (d.updNet f).mbd = d.mbd := rfl
@[simp] theorem Dev.updNet_fab (f : Net → Net) : (d.updNet f).fab = d.fab := rfl
@[simp] theorem Dev.updNet_mgrs (f : Net → Net) : (d.updNet f).mgrs = d.mgrs := rfl
@[simp] theorem Dev.updNet_slub (f : Net → Net) : (d.updNet f).slub = d.slub := rfl
@[simp] theorem Dev.updNet_clk (f : Net → Net) : (d.updNet f).clk = d.clk := rfl
@[simp] theorem Dev.updNet_pwr (f : Net → Net) : (d.updNet f).pwr = d.pwr := rfl
@[simp] theorem Dev.updNet_boot (f : Net → Net) : (d.updNet f).boot = d.boot := rfl
@[simp] theorem Dev.updNet_sec (f : Net → Net) : (d.updNet f).sec = d.sec := rfl
@[simp] theorem Dev.updNet_ports (f : Net → Net) : (d.updNet f).ports = d.ports := rfl
@[simp] theorem Dev.updNet_dsum (f : Net → Net) : (d.updNet f).dsum = d.dsum := rfl
@[simp] theorem Dev.updNet_idBus (f : Net → Net) : (d.updNet f).idBus = d.idBus := rfl
@[simp] theorem Dev.updNet_free (f : Net → Net) : (d.updNet f).free = d.free := rfl

/-! `updSk`. -/
@[simp] theorem Dev.updSk_regs (k : Nat) (f : Skein → Skein) : (d.updSk k f).regs = d.regs := rfl
@[simp] theorem Dev.updSk_gt (k : Nat) (f : Skein → Skein) : (d.updSk k f).gt = d.gt := rfl
@[simp] theorem Dev.updSk_gtFrac (k : Nat) (f : Skein → Skein) : (d.updSk k f).gtFrac = d.gtFrac := rfl
@[simp] theorem Dev.updSk_gtOfs (k : Nat) (f : Skein → Skein) : (d.updSk k f).gtOfs = d.gtOfs := rfl
@[simp] theorem Dev.updSk_stopped (k : Nat) (f : Skein → Skein) : (d.updSk k f).stopped = d.stopped := rfl
@[simp] theorem Dev.updSk_mem (k : Nat) (f : Skein → Skein) : (d.updSk k f).mem = d.mem := rfl
@[simp] theorem Dev.updSk_pois (k : Nat) (f : Skein → Skein) : (d.updSk k f).pois = d.pois := rfl
@[simp] theorem Dev.updSk_sour (k : Nat) (f : Skein → Skein) : (d.updSk k f).sour = d.sour := rfl
@[simp] theorem Dev.updSk_upsets (k : Nat) (f : Skein → Skein) : (d.updSk k f).upsets = d.upsets := rfl
@[simp] theorem Dev.updSk_clu (k : Nat) (f : Skein → Skein) : (d.updSk k f).clu = d.clu := rfl
@[simp] theorem Dev.updSk_net (k : Nat) (f : Skein → Skein) : (d.updSk k f).net = d.net := rfl
@[simp] theorem Dev.updSk_areas (k : Nat) (f : Skein → Skein) : (d.updSk k f).areas = d.areas := rfl
@[simp] theorem Dev.updSk_idleAreas (k : Nat) (f : Skein → Skein) : (d.updSk k f).idleAreas = d.idleAreas := rfl
@[simp] theorem Dev.updSk_parts (k : Nat) (f : Skein → Skein) : (d.updSk k f).parts = d.parts := rfl
@[simp] theorem Dev.updSk_gens (k : Nat) (f : Skein → Skein) : (d.updSk k f).gens = d.gens := rfl
@[simp] theorem Dev.updSk_opt (k : Nat) (f : Skein → Skein) : (d.updSk k f).opt = d.opt := rfl
@[simp] theorem Dev.updSk_lnk (k : Nat) (f : Skein → Skein) : (d.updSk k f).lnk = d.lnk := rfl
@[simp] theorem Dev.updSk_mbd (k : Nat) (f : Skein → Skein) : (d.updSk k f).mbd = d.mbd := rfl
@[simp] theorem Dev.updSk_fab (k : Nat) (f : Skein → Skein) : (d.updSk k f).fab = d.fab := rfl
@[simp] theorem Dev.updSk_mgrs (k : Nat) (f : Skein → Skein) : (d.updSk k f).mgrs = d.mgrs := rfl
@[simp] theorem Dev.updSk_slub (k : Nat) (f : Skein → Skein) : (d.updSk k f).slub = d.slub := rfl
@[simp] theorem Dev.updSk_clk (k : Nat) (f : Skein → Skein) : (d.updSk k f).clk = d.clk := rfl
@[simp] theorem Dev.updSk_pwr (k : Nat) (f : Skein → Skein) : (d.updSk k f).pwr = d.pwr := rfl
@[simp] theorem Dev.updSk_boot (k : Nat) (f : Skein → Skein) : (d.updSk k f).boot = d.boot := rfl
@[simp] theorem Dev.updSk_sec (k : Nat) (f : Skein → Skein) : (d.updSk k f).sec = d.sec := rfl
@[simp] theorem Dev.updSk_ports (k : Nat) (f : Skein → Skein) : (d.updSk k f).ports = d.ports := rfl
@[simp] theorem Dev.updSk_dsum (k : Nat) (f : Skein → Skein) : (d.updSk k f).dsum = d.dsum := rfl
@[simp] theorem Dev.updSk_idBus (k : Nat) (f : Skein → Skein) : (d.updSk k f).idBus = d.idBus := rfl
@[simp] theorem Dev.updSk_free (k : Nat) (f : Skein → Skein) : (d.updSk k f).free = d.free := rfl

/-! `updHp`. -/
@[simp] theorem Dev.updHp_regs (p : Nat) (f : HostPort → HostPort) : (d.updHp p f).regs = d.regs := rfl
@[simp] theorem Dev.updHp_gt (p : Nat) (f : HostPort → HostPort) : (d.updHp p f).gt = d.gt := rfl
@[simp] theorem Dev.updHp_gtFrac (p : Nat) (f : HostPort → HostPort) : (d.updHp p f).gtFrac = d.gtFrac := rfl
@[simp] theorem Dev.updHp_gtOfs (p : Nat) (f : HostPort → HostPort) : (d.updHp p f).gtOfs = d.gtOfs := rfl
@[simp] theorem Dev.updHp_stopped (p : Nat) (f : HostPort → HostPort) : (d.updHp p f).stopped = d.stopped := rfl
@[simp] theorem Dev.updHp_mem (p : Nat) (f : HostPort → HostPort) : (d.updHp p f).mem = d.mem := rfl
@[simp] theorem Dev.updHp_pois (p : Nat) (f : HostPort → HostPort) : (d.updHp p f).pois = d.pois := rfl
@[simp] theorem Dev.updHp_sour (p : Nat) (f : HostPort → HostPort) : (d.updHp p f).sour = d.sour := rfl
@[simp] theorem Dev.updHp_upsets (p : Nat) (f : HostPort → HostPort) : (d.updHp p f).upsets = d.upsets := rfl
@[simp] theorem Dev.updHp_clu (p : Nat) (f : HostPort → HostPort) : (d.updHp p f).clu = d.clu := rfl
@[simp] theorem Dev.updHp_net (p : Nat) (f : HostPort → HostPort) : (d.updHp p f).net = d.net := rfl
@[simp] theorem Dev.updHp_skn (p : Nat) (f : HostPort → HostPort) : (d.updHp p f).skn = d.skn := rfl
@[simp] theorem Dev.updHp_areas (p : Nat) (f : HostPort → HostPort) : (d.updHp p f).areas = d.areas := rfl
@[simp] theorem Dev.updHp_idleAreas (p : Nat) (f : HostPort → HostPort) : (d.updHp p f).idleAreas = d.idleAreas := rfl
@[simp] theorem Dev.updHp_parts (p : Nat) (f : HostPort → HostPort) : (d.updHp p f).parts = d.parts := rfl
@[simp] theorem Dev.updHp_gens (p : Nat) (f : HostPort → HostPort) : (d.updHp p f).gens = d.gens := rfl
@[simp] theorem Dev.updHp_opt (p : Nat) (f : HostPort → HostPort) : (d.updHp p f).opt = d.opt := rfl
@[simp] theorem Dev.updHp_lnk (p : Nat) (f : HostPort → HostPort) : (d.updHp p f).lnk = d.lnk := rfl
@[simp] theorem Dev.updHp_mbd (p : Nat) (f : HostPort → HostPort) : (d.updHp p f).mbd = d.mbd := rfl
@[simp] theorem Dev.updHp_fab (p : Nat) (f : HostPort → HostPort) : (d.updHp p f).fab = d.fab := rfl
@[simp] theorem Dev.updHp_mgrs (p : Nat) (f : HostPort → HostPort) : (d.updHp p f).mgrs = d.mgrs := rfl
@[simp] theorem Dev.updHp_slub (p : Nat) (f : HostPort → HostPort) : (d.updHp p f).slub = d.slub := rfl
@[simp] theorem Dev.updHp_clk (p : Nat) (f : HostPort → HostPort) : (d.updHp p f).clk = d.clk := rfl
@[simp] theorem Dev.updHp_pwr (p : Nat) (f : HostPort → HostPort) : (d.updHp p f).pwr = d.pwr := rfl
@[simp] theorem Dev.updHp_boot (p : Nat) (f : HostPort → HostPort) : (d.updHp p f).boot = d.boot := rfl
@[simp] theorem Dev.updHp_sec (p : Nat) (f : HostPort → HostPort) : (d.updHp p f).sec = d.sec := rfl
@[simp] theorem Dev.updHp_dsum (p : Nat) (f : HostPort → HostPort) : (d.updHp p f).dsum = d.dsum := rfl
@[simp] theorem Dev.updHp_idBus (p : Nat) (f : HostPort → HostPort) : (d.updHp p f).idBus = d.idBus := rfl
@[simp] theorem Dev.updHp_free (p : Nat) (f : HostPort → HostPort) : (d.updHp p f).free = d.free := rfl

end Sys2Proof.Machine
end

