-- ==== Sys2Proof/Laws/Table.lean ====
section
/-!
SUPPORT. What a read of a sparse table gives after each change of it, and that the changes keep its canonical form.
-/

namespace Sys2Proof.Machine

variable {α : Type}

theorem SMap.get_ins_same (d : α) (m : SMap α) (j : Nat) (v : α) : SMap.get d (SMap.ins m j v) j = v := by
  induction m with
  | nil => simp [SMap.ins, SMap.get]
  | cons e t ih =>
    obtain ⟨k, u⟩ := e
    unfold SMap.ins
    split
    · simp [SMap.get]
    · split
      · simp [SMap.get]
      · rename_i h1 h2
        have : ¬ k = j := fun h => h2 h.symm
        simp [SMap.get, this, ih]

theorem SMap.get_ins_other (d : α) (m : SMap α) {j i : Nat} (v : α) (h : j ≠ i) :
    SMap.get d (SMap.ins m j v) i = SMap.get d m i := by
  induction m with
  | nil => simp [SMap.ins, SMap.get, h]
  | cons e t ih =>
    obtain ⟨k, u⟩ := e
    unfold SMap.ins
    split
    · simp [SMap.get, h]
    · split
      · rename_i h1 h2
        subst h2
        simp [SMap.get, h]
      · simp [SMap.get, ih]

theorem SMap.get_del_same (d : α) (m : SMap α) (j : Nat) : SMap.get d (SMap.del m j) j = d := by
  induction m with
  | nil => rfl
  | cons e t ih =>
    obtain ⟨k, u⟩ := e
    by_cases h : k = j
    · simpa [SMap.del, List.filter_cons, h] using ih
    · simp only [SMap.del, List.filter_cons, h, ne_eq, not_false_eq_true, decide_true, if_true, SMap.get, if_false]
      simpa [SMap.del] using ih

theorem SMap.get_del_other (d : α) (m : SMap α) {j i : Nat} (h : j ≠ i) : SMap.get d (SMap.del m j) i = SMap.get d m i := by
  induction m with
  | nil => rfl
  | cons e t ih =>
    obtain ⟨k, u⟩ := e
    by_cases hk : k = j
    · subst hk
      simpa [SMap.del, List.filter_cons, SMap.get, h] using ih
    · simp only [SMap.del, List.filter_cons, hk, ne_eq, not_false_eq_true, decide_true, if_true, SMap.get]
      split
      · rfl
      · simpa [SMap.del] using ih

variable [DecidableEq α]

/-- What an entry reads as after it is written. -/
@[simp] theorem SMap.get_set_same (d : α) (m : SMap α) (j : Nat) (v : α) : SMap.get d (SMap.set d m j v) j = v := by
  unfold SMap.set
  split
  · next h => rw [SMap.get_del_same, h]
  · exact SMap.get_ins_same d m j v

/-- Writing an entry leaves every other as it was. -/
theorem SMap.get_set_other (d d' : α) (m : SMap α) {j i : Nat} (v : α) (h : j ≠ i) :
    SMap.get d' (SMap.set d m j v) i = SMap.get d' m i := by
  unfold SMap.set
  split
  · exact SMap.get_del_other d' m h
  · exact SMap.get_ins_other d' m v h

@[simp] theorem SMap.get_upd_same (d : α) (m : SMap α) (j : Nat) (f : α → α) :
    SMap.get d (SMap.upd d m j f) j = f (SMap.get d m j) := SMap.get_set_same d m j _

theorem SMap.get_upd_other (d d' : α) (m : SMap α) {j i : Nat} (f : α → α) (h : j ≠ i) :
    SMap.get d' (SMap.upd d m j f) i = SMap.get d' m i := SMap.get_set_other d d' m _ h

/-! Canonical form. -/

theorem SMap.wf_iff (d : α) (m : SMap α) :
    SMap.wf d m = true ↔ (m.map (·.1)).Pairwise (· < ·) ∧ ∀ e ∈ m, e.2 ≠ d := by
  simp [SMap.wf, Bool.and_eq_true, List.all_eq_true]

theorem SMap.wf_filter (d : α) (m : SMap α) (q : Nat × α → Bool) (h : SMap.wf d m = true) : SMap.wf d (m.filter q) = true := by
  rw [SMap.wf_iff] at *
  refine ⟨?_, fun e he => h.2 e (List.mem_of_mem_filter he)⟩
  exact h.1.sublist ((List.filter_sublist).map _)

omit [DecidableEq α] in
theorem SMap.keys_ins (m : SMap α) (j : Nat) (v : α) : ∀ e ∈ SMap.ins m j v, e = (j, v) ∨ e ∈ m := by
  induction m with
  | nil => intro e he; simpa [SMap.ins] using he
  | cons a t ih =>
    obtain ⟨k, u⟩ := a
    intro e he
    unfold SMap.ins at he
    split at he
    · simpa using he
    · split at he
      · simp only [List.mem_cons] at he ⊢
        rcases he with h | h
        · exact .inl h
        · exact .inr (.inr h)
      · simp only [List.mem_cons] at he ⊢
        rcases he with h | h
        · exact .inr (.inl h)
        · rcases ih e h with h | h
          · exact .inl h
          · exact .inr (.inr h)

omit [DecidableEq α] in
theorem SMap.rising_ins (m : SMap α) (j : Nat) (v : α) (h : (m.map (·.1)).Pairwise (· < ·)) :
    ((SMap.ins m j v).map (·.1)).Pairwise (· < ·) := by
  induction m with
  | nil => simp [SMap.ins]
  | cons a t ih =>
    obtain ⟨k, u⟩ := a
    have hk := List.pairwise_cons.mp h
    unfold SMap.ins
    split
    · next hlt =>
      refine List.pairwise_cons.mpr ⟨?_, h⟩
      intro b hb
      simp only [List.map_cons, List.mem_cons] at hb
      rcases hb with hb | hb
      · subst hb; exact hlt
      · exact lt_trans hlt (hk.1 b hb)
    · split
      · next heq =>
        subst heq
        exact List.pairwise_cons.mpr hk
      · next h1 h2 =>
        refine List.pairwise_cons.mpr ⟨?_, ih hk.2⟩
        intro b hb
        obtain ⟨e, he, rfl⟩ := List.mem_map.mp hb
        rcases SMap.keys_ins t j v e he with rfl | he
        · show k < j
          omega
        · exact hk.1 _ (List.mem_map_of_mem he)

/-- Writing an entry keeps the canonical form. -/
theorem SMap.wf_set (d : α) (m : SMap α) (j : Nat) (v : α) (h : SMap.wf d m = true) : SMap.wf d (SMap.set d m j v) = true := by
  unfold SMap.set
  split
  · exact SMap.wf_filter d m _ h
  · next hv =>
    rw [SMap.wf_iff] at *
    refine ⟨SMap.rising_ins m j v h.1, fun e he => ?_⟩
    rcases SMap.keys_ins m j v e he with rfl | he
    · exact hv
    · exact h.2 e he

theorem SMap.wf_upd (d : α) (m : SMap α) (j : Nat) (f : α → α) (h : SMap.wf d m = true) :
    SMap.wf d (SMap.upd d m j f) = true := SMap.wf_set d m j _ h

end Sys2Proof.Machine
end

