-- ==== Sys2Proof/Laws/Registers.lean ====
section
/-!
SUPPORT. What a register or a field reads as after registers are written; what events and error records change.
-/

namespace Sys2Proof.Machine

/-! Fields of a word. -/

/-- A field of a word is below 2 to the power of its width. -/
theorem fld_lt {n : Nat} (w : BitVec n) (hi lo : Nat) : fld w hi lo < 2 ^ (hi + 1 - lo) := Nat.mod_lt _ (Nat.two_pow_pos _)

theorem testBit_fld {n : Nat} (w : BitVec n) (hi lo i : Nat) :
    (fld w hi lo).testBit i = (decide (i < hi + 1 - lo) && w.getLsbD (lo + i)) := by
  simp [fld, Nat.testBit_mod_two_pow, Nat.testBit_shiftRight, BitVec.getLsbD]

theorem getLsbD_fmask (n hi lo i : Nat) :
    (fmask n hi lo).getLsbD i = (decide (i < n) && decide (lo ≤ i ∧ i < hi + 1)) := by
  simp only [fmask, BitVec.getLsbD_ofNat, Nat.testBit_shiftLeft, Nat.testBit_two_pow_sub_one]
  by_cases h1 : i < n
  · by_cases h2 : lo ≤ i
    · simp [h1, h2]
      omega
    · simp [h1, h2]
  · simp [h1]

theorem getLsbD_setFld {n : Nat} (w : BitVec n) (hi lo v i : Nat) :
    (setFld w hi lo v).getLsbD i =
      if i < n ∧ lo ≤ i ∧ i < hi + 1 then v.testBit (i - lo) else w.getLsbD i := by
  simp only [setFld, BitVec.getLsbD_or, BitVec.getLsbD_and, BitVec.getLsbD_not, getLsbD_fmask, BitVec.getLsbD_ofNat,
    Nat.testBit_shiftLeft, Nat.testBit_mod_two_pow]
  by_cases h1 : i < n
  · by_cases h2 : lo ≤ i
    · by_cases h3 : i < hi + 1
      · have h4 : i - lo < hi + 1 - lo := by omega
        simp [h1, h2, h3, h4]
      · have h4 : ¬ i - lo < hi + 1 - lo := by omega
        simp [h1, h2, h3, h4]
    · simp [h1, h2]
  · have : w.getLsbD i = false := BitVec.getLsbD_of_ge _ _ (by omega)
    simp [h1, this]

/-- A field reads as what is written into it, cut to its width. -/
theorem fld_setFld_same {n : Nat} (w : BitVec n) (hi lo v : Nat) (h : hi < n) (hl : lo ≤ hi) :
    fld (setFld w hi lo v) hi lo = v % 2 ^ (hi + 1 - lo) := by
  apply Nat.eq_of_testBit_eq
  intro i
  rw [testBit_fld, getLsbD_setFld, Nat.testBit_mod_two_pow]
  by_cases h1 : i < hi + 1 - lo
  · have : lo + i < n ∧ lo ≤ lo + i ∧ lo + i < hi + 1 := by omega
    simp [h1, this]
  · simp [h1]

/-- Writing a field leaves a field that shares no bit with it. -/
theorem fld_setFld_other {n : Nat} (w : BitVec n) (hi lo v hi' lo' : Nat) (h : hi' < lo ∨ hi < lo') :
    fld (setFld w hi lo v) hi' lo' = fld w hi' lo' := by
  apply Nat.eq_of_testBit_eq
  intro i
  rw [testBit_fld, testBit_fld, getLsbD_setFld]
  by_cases h1 : i < hi' + 1 - lo'
  · have : ¬ (lo' + i < n ∧ lo ≤ lo' + i ∧ lo' + i < hi + 1) := by omega
    simp only [this, if_false]
  · simp [h1]

/-! Registers. -/

variable (d : Dev)

@[simp] theorem Dev.reg_setReg_same (a : Nat) (v : Word) : (d.setReg a v).reg a = v := SMap.get_set_same _ _ _ _

theorem Dev.reg_setReg_other {a b : Nat} (v : Word) (h : a ≠ b) : (d.setReg a v).reg b = d.reg b :=
  SMap.get_set_other _ _ _ _ h

/-- A field reads as what is written into it. -/
theorem Dev.f_setf_same (pg : Nat) (x : Fld) (v i : Nat) (h : x.hi < 64) (hl : x.lo ≤ x.hi) :
    (d.setf pg x v i).f pg x i = v % 2 ^ (x.hi + 1 - x.lo) := by
  simp only [Dev.f, Dev.setf, Dev.reg_setReg_same]
  exact fld_setFld_same _ _ _ _ h hl

/-- Writing a field leaves the registers at other addresses. -/
theorem Dev.f_setf_addr (pg pg' : Nat) (x y : Fld) (v i k : Nat)
    (h : pg + x.off + i * x.stride ≠ pg' + y.off + k * y.stride) : (d.setf pg x v i).f pg' y k = d.f pg' y k := by
  simp only [Dev.f, Dev.setf]
  rw [Dev.reg_setReg_other d _ h]

/-- Writing a field leaves the other fields of its register. -/
theorem Dev.f_setf_bits (pg : Nat) (x y : Fld) (v i k : Nat) (ha : pg + x.off + i * x.stride = pg + y.off + k * y.stride)
    (h : y.hi < x.lo ∨ x.hi < y.lo) : (d.setf pg x v i).f pg y k = d.f pg y k := by
  simp only [Dev.f, Dev.setf, ← ha, Dev.reg_setReg_same]
  exact fld_setFld_other _ _ _ _ _ _ h

theorem Dev.reg_setf_other (pg : Nat) (x : Fld) (v i b : Nat) (h : pg + x.off + i * x.stride ≠ b) :
    (d.setf pg x v i).reg b = d.reg b := Dev.reg_setReg_other d _ h

/-- An event sets one bit of the page's EVT_CAUSE. -/
theorem Dev.reg_ev_same (pg b : Nat) : (d.ev pg b).reg (pg + 0x20) = d.reg (pg + 0x20) ||| BitVec.ofNat 64 (2 ^ b) :=
  Dev.reg_setReg_same _ _ _

theorem Dev.reg_ev_other (pg b a : Nat) (h : pg + 0x20 ≠ a) : (d.ev pg b).reg a = d.reg a := Dev.reg_setReg_other d _ h

theorem Dev.f_ev_other (pg b pg' : Nat) (x : Fld) (i : Nat) (h : pg + 0x20 ≠ pg' + x.off + i * x.stride) :
    (d.ev pg b).f pg' x i = d.f pg' x i := by
  simp only [Dev.f]
  rw [Dev.reg_ev_other d pg b _ h]

/-- An error record changes registers only. -/
theorem Dev.logRec_eq (pg b : Nat) (ws : List Word) : ∃ r, d.logRec pg b ws = { d with regs := r } := by
  unfold Dev.logRec
  split
  · exact ⟨d.regs, rfl⟩
  · refine ⟨(((forN 4 (fun i d => d.setReg (pg + 0x38 + 8 * i) (ws.getD i 0)) d).setReg (pg + 0x58)
      (BitVec.ofNat 64 d.gt)).setReg (pg + 0x60) (BitVec.ofNat 64 b)).setf pg HDR_STATUS_LOGV 1 |>.regs, ?_⟩
    simp only [forN, List.range, List.range.loop, List.foldl]
    simp only [Dev.setf, Dev.setReg]

end Sys2Proof.Machine
end

