-- ==== Sys2Proof/Laws/Memory.lean ====
section
/-!
SUPPORT. Reading memory after writing it, and the canonical form of memory: every operation on memory keeps it.
-/

namespace Sys2Proof.Machine

/-- A byte outside the bytes written reads as before. -/
theorem memByte_memWrite_other (m : List Host.Cell) (k : Nat) (bs : List Byte) (a : Nat) (h : a < k ∨ k + bs.length ≤ a) :
    memByte (memWrite m k bs) a = memByte m a := by
  induction bs generalizing m k with
  | nil => rfl
  | cons b t ih =>
    simp only [List.length_cons] at h
    rw [memWrite, ih _ _ (by omega)]
    exact SMap.get_set_other _ _ _ _ (by omega)

/-- A written byte reads as what was written. -/
theorem memByte_memWrite (m : List Host.Cell) (k : Nat) (bs : List Byte) (i : Nat) (h : i < bs.length) :
    memByte (memWrite m k bs) (k + i) = bs[i] := by
  induction bs generalizing m k i with
  | nil => simp at h
  | cons b t ih =>
    rw [memWrite]
    cases i with
    | zero =>
      rw [memByte_memWrite_other _ _ _ _ (by omega)]
      exact SMap.get_set_same _ _ _ _
    | succ i =>
      have := ih (SMap.set 0 m k b) (k + 1) i (by simpa using h)
      simpa [Nat.add_assoc, Nat.add_comm 1 i] using this

theorem length_memRead (m : List Host.Cell) (k n : Nat) : (memRead m k n).length = n := by
  induction n generalizing k with
  | zero => rfl
  | succ n ih => simp [memRead, ih]

theorem getElem_memRead (m : List Host.Cell) (k n i : Nat) (h : i < (memRead m k n).length) :
    (memRead m k n)[i] = memByte m (k + i) := by
  induction n generalizing k i with
  | zero => simp [memRead] at h
  | succ n ih =>
    cases i with
    | zero => rfl
    | succ i =>
      simp only [memRead, List.getElem_cons_succ]
      rw [ih]
      congr 1
      omega

/-- Reading the bytes written gives them back. -/
theorem memRead_memWrite (m : List Host.Cell) (k : Nat) (bs : List Byte) : memRead (memWrite m k bs) k bs.length = bs := by
  apply List.ext_getElem (length_memRead _ _ _)
  intro i h1 h2
  rw [getElem_memRead, memByte_memWrite _ _ _ _ h2]

theorem Memory.wf_memWrite (m : List Host.Cell) (k : Nat) (bs : List Byte) (h : Memory.wf m = true) :
    Memory.wf (memWrite m k bs) = true := by
  induction bs generalizing m k with
  | nil => exact h
  | cons b t ih => exact ih _ _ (SMap.wf_set 0 m k b h)

theorem foldl_mem (f : Dev → Nat → Dev) (hf : ∀ d g, (f d g).mem = d.mem) (gs : List Nat) (d : Dev) :
    (gs.foldl f d).mem = d.mem := by
  induction gs generalizing d with
  | nil => rfl
  | cons g t ih => rw [List.foldl_cons, ih, hf]

/-- What a store writes into memory. -/
theorem Dev.store_mem (d : Dev) (k : Nat) (bs : List Byte) (px : List Nat) : (d.store k bs px).mem = memWrite d.mem k bs := by
  unfold Dev.store
  simp only
  rw [foldl_mem]
  intro d g
  split
  · rfl
  · split <;> rfl

theorem Dev.wf_store (d : Dev) (k : Nat) (bs : List Byte) (px : List Nat) (h : Memory.wf d.mem = true) :
    Memory.wf (d.store k bs px).mem = true := by
  rw [Dev.store_mem]
  exact Memory.wf_memWrite _ _ _ h

theorem Dev.wf_zero (d : Dev) (k n : Nat) (h : Memory.wf d.mem = true) : Memory.wf (d.zero k n).mem = true :=
  SMap.wf_filter 0 _ _ h

theorem Dev.wf_setHdr (d : Dev) (key hi lo v : Nat) (h : Memory.wf d.mem = true) :
    Memory.wf (d.setHdr key hi lo v).mem = true := Memory.wf_memWrite _ _ _ h

/-- The memory of the panel after reset is canonical. -/
theorem wf_reset : Memory.wf State.reset.dev.mem = true := rfl

end Sys2Proof.Machine
end

