-- ==== Sys2Proof/Laws/Network.lean ====
section
/-!
SUPPORT. What sending packets can change: the network state and the fabric's record of it, nothing else.
-/

namespace Sys2Proof.Machine

/-- The panel `e` is `d` but for its network and fabric state. -/
def Dev.NetOnly (d e : Dev) : Prop := ∃ n f, e = { d with net := n, fab := f }

theorem Dev.NetOnly.refl (d : Dev) : d.NetOnly d := ⟨d.net, d.fab, rfl⟩

theorem Dev.NetOnly.trans {a b c : Dev} (h : a.NetOnly b) (k : b.NetOnly c) : a.NetOnly c := by
  obtain ⟨n, f, rfl⟩ := h
  obtain ⟨n', f', rfl⟩ := k
  exact ⟨n', f', rfl⟩

theorem Dev.netOnly_updNet (d : Dev) (f : Net → Net) : d.NetOnly (d.updNet f) := ⟨_, d.fab, rfl⟩

/-- A repeated step that changes the network only changes the network only. -/
theorem Dev.netOnly_forL {α : Type} (l : List α) (f : α → Dev → Dev) (hf : ∀ a d, Dev.NetOnly d (f a d)) (d : Dev) :
    d.NetOnly (forL l f d) := by
  unfold forL
  induction l generalizing d with
  | nil => exact Dev.NetOnly.refl _
  | cons a t ih => exact (hf a d).trans (ih _)

/-- Folding a step that changes the network only changes the network only. -/
theorem Dev.netOnly_foldl {α β : Type} (f : Dev × β → α → Dev × β) (hf : ∀ (x : Dev × β) (a : α), x.1.NetOnly (f x a).1) (l : List α) (x : Dev × β) :
    x.1.NetOnly (l.foldl f x).1 := by
  induction l generalizing x with
  | nil => exact Dev.NetOnly.refl _
  | cons a t ih => exact (hf x a).trans (ih _)

theorem Dev.netOnly_updTel (d : Dev) (k : Nat) (f : Tel → Tel) : d.NetOnly (d.updTel k f) := Dev.netOnly_updNet _ _

theorem Dev.netOnly_countOut (d : Dev) (e c port : Nat) (q : Pkt) : d.NetOnly (d.countOut e c port q) := Dev.netOnly_updTel _ _ _

theorem Dev.netOnly_countIn (d : Dev) (l : Loc) (vc : Nat) : d.NetOnly (d.countIn l vc) := by
  unfold Dev.countIn
  split
  · exact Dev.netOnly_updTel _ _ _
  · exact Dev.NetOnly.refl _

theorem Dev.netOnly_noteStall (d : Dev) (l : Loc) (vc : Nat) : d.NetOnly (d.noteStall l vc) := by
  unfold Dev.noteStall
  split
  · exact Dev.NetOnly.refl _
  · dsimp only
    split
    · split
      · exact Dev.netOnly_updTel _ _ _
      · exact Dev.NetOnly.refl _
    · split
      · exact Dev.NetOnly.refl _
      · exact Dev.netOnly_updTel _ _ _

theorem Dev.netOnly_noteBuf (d : Dev) (l : Loc) (ch : Nat) : d.NetOnly (d.noteBuf l ch) := by
  unfold Dev.noteBuf
  split
  · exact Dev.NetOnly.refl _
  · dsimp only
    split
    · exact Dev.NetOnly.refl _
    · exact (Dev.netOnly_updNet _ _).trans (Dev.netOnly_noteStall _ _ _)

theorem Dev.netOnly_arrived (d : Dev) (q : Pkt) (l : Loc) : d.NetOnly (d.arrived q l) := by
  unfold Dev.arrived
  refine ((Dev.netOnly_noteBuf _ _ _).trans (Dev.netOnly_countIn _ _ _)).trans (Dev.netOnly_forL _ _ ?_ _)
  intro o d
  split
  · exact Dev.netOnly_noteStall _ _ _
  · exact Dev.NetOnly.refl _

/-- A packet that enters the panel's network changes the network only. -/
theorem Dev.netOnly_place (d : Dev) (p : Pkt) : d.NetOnly (d.place p) := by
  unfold Dev.place
  dsimp only
  split
  · exact Dev.netOnly_updNet _ _
  · exact ((Dev.netOnly_updNet _ _).trans (Dev.netOnly_updNet _ _)).trans (Dev.netOnly_arrived _ _ _)

theorem Dev.netOnly_onPath (d : Dev) (e c inp : Nat) (path : Path) (p : Pkt) : d.NetOnly (d.onPath e c inp path p) := by
  unfold Dev.onPath
  dsimp only
  split
  · exact (Dev.netOnly_countOut _ _ _ _ _).trans (Dev.netOnly_place _ _)
  · exact Dev.netOnly_place _ _

theorem Dev.netOnly_injectAt (d : Dev) (e c inp : Nat) (p : Pkt) (d' : Dev) (h : d.injectAt e c inp p = some d') : d.NetOnly d' := by
  unfold Dev.injectAt at h
  split at h
  · cases h
  · split at h
    · cases h
    · cases h
      exact Dev.netOnly_onPath ..

theorem Dev.netOnly_inject (d : Dev) (e c : Nat) (p : Pkt) (d' : Dev) (h : d.inject e c p = some d') : d.NetOnly d' :=
  Dev.netOnly_injectAt _ _ _ _ _ _ h

theorem Dev.netOnly_mcInject (d : Dev) (e c : Nat) (p : Pkt) : d.NetOnly (d.mcInject e c p) := by
  unfold Dev.mcInject
  dsimp only
  split
  · exact (Dev.netOnly_forL _ _ (fun _ _ => Dev.netOnly_place _ _) _).trans (Dev.netOnly_place _ _)
  · exact Dev.netOnly_forL _ _ (fun _ _ => Dev.netOnly_place _ _) _

theorem Dev.netOnly_fabTouch (d : Dev) (k : Nat) : d.NetOnly (d.fabTouch k) := ⟨d.net, _, rfl⟩

theorem Dev.netOnly_fabSend (d : Dev) (e c inp : Nat) (p : Pkt) (d' : Dev) (h : d.fabSend e c inp p = some d') : d.NetOnly d' := by
  unfold Dev.fabSend at h
  split at h
  · cases h
  · dsimp only at h
    split at h
    · exact Dev.netOnly_injectAt _ _ _ _ _ _ h
    · split at h
      · cases h
        exact (Dev.netOnly_fabTouch _ _).trans (Dev.netOnly_place _ _)
      · cases h
        exact Dev.netOnly_onPath ..

theorem Dev.netOnly_toFabric (d : Dev) (e c q : Nat) (p : Pkt) (d' : Dev) (h : d.toFabric e c q p = some d') : d.NetOnly d' :=
  Dev.netOnly_fabSend _ _ _ _ _ _ h

/-- A transfer opened and its packets sent change the network only. -/
theorem Dev.netOnly_request (d : Dev) (e c : Nat) (own : Own) (typ part csk : Nat) (timed port8 : Bool) (land : Option Nat)
    (rs : List Req) : d.NetOnly (d.request e c own typ part csk timed port8 land rs) := by
  unfold Dev.request
  simp only
  refine Dev.NetOnly.trans ?_ (Dev.netOnly_updNet _ _)
  refine Dev.NetOnly.trans (Dev.netOnly_updNet d fun n => { n with nextFlow := d.net.nextFlow + 1 }) ?_
  refine Dev.netOnly_foldl _ ?_ _ (_, ([], none))
  rintro ⟨d, left, fab⟩ ⟨r, i⟩
  simp only
  split
  · exact Dev.netOnly_place d (srcReply ..)
  · split
    · exact Dev.netOnly_mcInject d _ _ _
    · split
      · next h => exact Dev.netOnly_inject _ _ _ _ _ h
      · exact Dev.netOnly_place d (srcReply ..)
  · split
    · next h => exact Dev.netOnly_inject _ _ _ _ _ h
    · exact Dev.netOnly_place d (srcReply ..)
  · split
    · exact Dev.netOnly_place d (srcReply ..)
    · next h =>
      split
      · exact Dev.netOnly_place d (srcReply ..)
      · exact Dev.netOnly_toFabric _ _ _ _ _ _ h

/-- A response changes the network only. -/
theorem Dev.netOnly_sendBack (d : Dev) (e c : Nat) (r : Pkt) : d.NetOnly (d.sendBack e c r) := by
  unfold Dev.sendBack
  dsimp only
  split
  · exact Dev.NetOnly.refl _
  · split <;> exact Dev.netOnly_onPath ..

theorem Dev.netOnly_respond (d : Dev) (e c : Nat) (q : Pkt) (status : Nat) (data : List Byte) (pois : List Nat) :
    d.NetOnly (d.respond e c q status data pois) := by
  unfold Dev.respond
  dsimp only
  split
  · generalize h : Dev.toFabric _ _ _ _ _ = x
    cases x with
    | none => exact Dev.NetOnly.refl _
    | some d' => exact Dev.netOnly_toFabric _ _ _ _ _ _ h
  · exact Dev.netOnly_sendBack ..

theorem Dev.netOnly_hwAdd (d : Dev) (e c : Nat) (own : Own) (part id delta : Nat) :
    d.NetOnly (d.hwAdd e c own part id delta) := Dev.netOnly_request ..

/-- The ADD that SIG asks for changes the network only. -/
theorem Dev.netOnly_sig (d : Dev) (p : Nat) (w : Cmd) : d.NetOnly (d.sig p w) := by
  unfold Dev.sig Dev.sigAdd
  split
  · split
    · exact Dev.NetOnly.refl _
    · exact Dev.netOnly_hwAdd ..
  · exact Dev.NetOnly.refl _

theorem Dev.sig_clu (d : Dev) (p : Nat) (w : Cmd) : (d.sig p w).clu = d.clu := by
  obtain ⟨n, f, h⟩ := d.netOnly_sig p w
  rw [h]

theorem Dev.sig_mem (d : Dev) (p : Nat) (w : Cmd) : (d.sig p w).mem = d.mem := by
  obtain ⟨n, f, h⟩ := d.netOnly_sig p w
  rw [h]

theorem Dev.sig_regs (d : Dev) (p : Nat) (w : Cmd) : (d.sig p w).regs = d.regs := by
  obtain ⟨n, f, h⟩ := d.netOnly_sig p w
  rw [h]

/-! Clusters. -/

@[simp] theorem Dev.cl_updCl_same (d : Dev) (p : Nat) (f : Clu → Clu) : (d.updCl p f).cl p = f (d.cl p) :=
  SMap.get_upd_same _ _ _ _

theorem Dev.cl_updCl_other (d : Dev) {p q : Nat} (f : Clu → Clu) (h : p ≠ q) : (d.updCl p f).cl q = d.cl q :=
  SMap.get_upd_other _ _ _ _ h

@[simp] theorem Dev.seq_updSeq_same (d : Dev) (p : Nat) (f : Seq → Seq) : ((d.updSeq p f).cl p).seq = f (d.cl p).seq := by
  simp [Dev.updSeq]

theorem Dev.cl_updSeq_other (d : Dev) {p q : Nat} (f : Seq → Seq) (h : p ≠ q) : (d.updSeq p f).cl q = d.cl q :=
  Dev.cl_updCl_other d _ h

theorem Dev.cl_sig (d : Dev) (p : Nat) (w : Cmd) (q : Nat) : (d.sig p w).cl q = d.cl q := by
  simp only [Dev.cl, Dev.sig_clu]

end Sys2Proof.Machine
end

