-- ==== Sys2Proof/Laws/Run.lean ====
section
/-!
SUPPORT. What the four shapes of a command answer.
-/

namespace Sys2Proof.Machine

variable (s : State) (f : Fuses → Dev → Dev) (g : Fuses → Dev → Fuses × Dev)

/-- On a panel that obeys commands, a command with existing operands has its effect. -/
theorem State.run_obeys (h1 : s.dev.stopped = false) (h2 : s.dev.frozen = false) :
    s.run true f = .next { s with dev := f s.fuse s.dev } := by simp [State.run, h1, h2]

theorem State.runFrozen_obeys (h : s.dev.stopped = false) : s.runFrozen true f = .next { s with dev := f s.fuse s.dev } := by
  simp [State.runFrozen, h]

theorem State.runAll_obeys (h1 : s.dev.stopped = false) (h2 : s.dev.frozen = false) :
    s.runAll true g = .next { s with fuse := (g s.fuse s.dev).1, dev := (g s.fuse s.dev).2 } := by simp [State.runAll, h1, h2]

theorem State.runAllFrozen_obeys (h : s.dev.stopped = false) :
    s.runAllFrozen true g = .next { s with fuse := (g s.fuse s.dev).1, dev := (g s.fuse s.dev).2 } := by
  simp [State.runAllFrozen, h]

/-- On a stopped panel nothing changes. -/
theorem State.run_stopped (h : s.dev.stopped = true) : s.run true f = .next s := by simp [State.run, h]
theorem State.runFrozen_stopped (h : s.dev.stopped = true) : s.runFrozen true f = .next s := by simp [State.runFrozen, h]
theorem State.runAll_stopped (h : s.dev.stopped = true) : s.runAll true g = .next s := by simp [State.runAll, h]
theorem State.runAllFrozen_stopped (h : s.dev.stopped = true) : s.runAllFrozen true g = .next s := by
  simp [State.runAllFrozen, h]

/-- Operands that name no unit are refused. -/
theorem State.run_refused : s.run false f = .refused .noSuchUnit := rfl
theorem State.runFrozen_refused : s.runFrozen false f = .refused .noSuchUnit := rfl
theorem State.runAll_refused : s.runAll false g = .refused .noSuchUnit := rfl
theorem State.runAllFrozen_refused : s.runAllFrozen false g = .refused .noSuchUnit := rfl

/-- A step takes the command at the front of the queue and runs it on the rest. -/
theorem step_cons (c : Instr) (rest : List Instr) (fu : Fuses) (d : Dev) :
    step ⟨fu, d, c :: rest⟩ = exec c ⟨fu, d, rest⟩ := rfl

end Sys2Proof.Machine
end

