-- ==== Sys2Proof/Laws/Stores.lean ====
section
/-!
SUPPORT. What a cluster's stores, its queue of issued commands and the reading of its store change.
-/

namespace Sys2Proof.Machine

/-- Marking the transfers of no owner changes nothing. -/
theorem Dev.absorb_none (d : Dev) (sel : Own → Bool) (h : ∀ o, sel o = false) : d.absorb sel = d := by
  simp [Dev.absorb, Dev.updNet, h]

/-- Where no winder area exists, returning areas to IDLE changes nothing. -/
theorem Dev.areasIdle_none (d : Dev) (sel : Area → Bool) (h : d.areas = []) : d.areasIdle sel = d := by
  unfold Dev.areasIdle
  simp only [h, List.filter_nil, forL, List.foldl_nil]
  rw [Dev.absorb_none]
  · cases d
    simp_all
  · intro o
    cases o <;> simp

/-- Where no winder area exists and none is armed, a write into a winder's store is a plain store. -/
theorem Dev.winderWrite_plain (d : Dev) (e c k : Nat) (bs : List Byte) (px : List Nat) (h : d.areas = [])
    (ha : armKeys (winderStore e c).1 k bs = []) : (d.winderWrite e c k bs px).2 = d.store k bs px := by
  have hs : (d.store k bs px).areas = [] := by
    unfold Dev.store
    simp only
    have : ∀ (gs : List Nat) (f : Dev → Nat → Dev), (∀ d g, (f d g).areas = d.areas) → ∀ d, (gs.foldl f d).areas = d.areas := by
      intro gs f hf
      induction gs with
      | nil => intro d; rfl
      | cons g t ih => intro d; rw [List.foldl_cons, ih, hf]
    rw [this _ _ _ d, h]
    intro d g
    split
    · rfl
    · split <;> rfl
  unfold Dev.winderWrite
  simp only [Dev.areaRefuses, h, List.any_nil, Bool.false_eq_true, if_false, List.filter_nil, forL, List.foldl_nil, ha]
  exact Dev.areasIdle_none _ _ hs

theorem Dev.store_clu (d : Dev) (k : Nat) (bs : List Byte) (px : List Nat) : (d.store k bs px).clu = d.clu := by
  unfold Dev.store
  simp only
  have : ∀ (gs : List Nat) (f : Dev → Nat → Dev), (∀ d g, (f d g).clu = d.clu) → ∀ d, (gs.foldl f d).clu = d.clu := by
    intro gs f hf
    induction gs with
    | nil => intro d; rfl
    | cons g t ih => intro d; rw [List.foldl_cons, ih, hf]
  exact this _ _ (by intro d g; split <;> [rfl; (split <;> rfl)]) d

theorem Dev.store_regs (d : Dev) (k : Nat) (bs : List Byte) (px : List Nat) : (d.store k bs px).regs = d.regs := by
  unfold Dev.store
  simp only
  have : ∀ (gs : List Nat) (f : Dev → Nat → Dev), (∀ d g, (f d g).regs = d.regs) → ∀ d, (gs.foldl f d).regs = d.regs := by
    intro gs f hf
    induction gs with
    | nil => intro d; rfl
    | cons g t ih => intro d; rw [List.foldl_cons, ih, hf]
  exact this _ _ (by intro d g; split <;> [rfl; (split <;> rfl)]) d

/-- Where no upset stands, reading a store finds none. -/
theorem Dev.cstCheck_clean (d : Dev) (p o n : Nat) (h : d.upsets = []) : d.cstCheck p o n = d := by
  simp [Dev.cstCheck, h, forL]

theorem Dev.readStore_clean (d : Dev) (p o n : Nat) (h : d.upsets = []) :
    d.readStore p o n = (⟨d.bytes (csKey p o) n, d.poisMap (csKey p o) n⟩, d) := by
  simp [Dev.readStore, Dev.cstCheck_clean d p o n h]

/-- A range without poison has no poisoned byte. -/
theorem winderStore_cluster (p : Nat) (h : p < 896) : (winderStore (dieOf p) (cOf p)).1 = csKey p 0 := by
  have h1 : dieOf p < 112 := by unfold dieOf; omega
  have h2 : dieOf p * 8 + cOf p = p := by unfold dieOf cOf; omega
  simp [winderStore, h1, h2]

/-- A cluster's store of plain bytes into its own store. -/
theorem Dev.ownStore_plain (d : Dev) (p o : Nat) (bs : List Byte) (px : List Nat) (hp : p < 896) (h : d.areas = [])
    (ha : armKeys (csKey p 0) (csKey p o) bs = []) :
    d.ownStore p o bs px = (d.store (csKey p o) bs px).addDig p (digStore (ownSlot (d.lcEff p) + o) bs px) := by
  unfold Dev.ownStore
  rw [Dev.winderWrite_plain _ _ _ _ _ _ h (by rw [winderStore_cluster p hp]; exact ha)]

end Sys2Proof.Machine
end

