-- ==== Sys2Proof/WellFormed.lean ====
section
/-!
DEFINITION. Well-formed commands: every operand names a unit the panel has or lies in its field, a sequencer row's word is
of the row's opcode, or of no opcode at all (R48), and a message row's word is of the row's code (Table 8.8).
-/

namespace Sys2Proof

/-- The opcodes of Table 2.7. -/
def opcodes : List Nat :=
  [0x00, 0x01, 0x02, 0x03, 0x04, 0x05, 0x08, 0x10, 0x11, 0x12, 0x16, 0x17, 0x18, 0x20, 0x21] ++
  [0x30, 0x31, 0x40, 0x42, 0x43, 0x44, 0x50, 0x51, 0x52, 0x53, 0x54, 0x60, 0x61, 0x62, 0x70]

/-- A sequencer word (R47) belongs to the row of an opcode: it carries that opcode, or one that no row has. -/
def opcodeIs (opc p : Nat) (w : Cmd) : Bool :=
  let o := w.toNat / 2 ^ 120
  decide (p < Config.clusters) && (o = opc || !opcodes.contains o)

/-- A message word carries a code, and its sender is a panel number (R238, R239). -/
def messageIs (code : Nat) (src w0 : Word) : Bool := decide (w0.toNat / 2 ^ 56 = code ∧ src.toNat < 4096)

/-- Two endpoints and a plane of the optical layer (R164). -/
def channelIs (a b plane : Nat) : Bool := decide (a < Config.endpoints ∧ b < Config.endpoints ∧ a ≠ b ∧ plane < 16)

/-- An access of `n` bytes within the data window of a port (R489, R490), at most one PCI Express read request long (R485). -/
def windowIs (port base off n : Nat) : Bool := decide (port < 2 ∧ base < 2 ^ 18 ∧ 0 < n ∧ n ≤ 4096 ∧ off + n ≤ 2 ^ 34)

/-- A command whose operands exist. -/
def Instr.wellFormed (i : Instr) : Bool :=
  match i with
  | .nop p w => opcodeIs 0x00 p w
  | .halt p w => opcodeIs 0x01 p w
  | .br p w => opcodeIs 0x02 p w
  | .call p w => opcodeIs 0x03 p w
  | .ret p w => opcodeIs 0x04 p w
  | .loop p w => opcodeIs 0x05 p w
  | .bsk p w => opcodeIs 0x08 p w
  | .ldi p w => opcodeIs 0x10 p w
  | .addi p w => opcodeIs 0x11 p w
  | .alu p w => opcodeIs 0x12 p w
  | .lds p w => opcodeIs 0x16 p w
  | .sts p w => opcodeIs 0x17 p w
  | .gets p w => opcodeIs 0x18 p w
  | .skslot p w => opcodeIs 0x20 p w
  | .skop p w => opcodeIs 0x21 p w
  | .dstart p w => opcodeIs 0x30 p w
  | .dstop p w => opcodeIs 0x31 p w
  | .tmma p w => opcodeIs 0x40 p w
  | .tdrain p w => opcodeIs 0x42 p w
  | .texport p w => opcodeIs 0x43 p w
  | .twin p w => opcodeIs 0x44 p w
  | .vld p w => opcodeIs 0x50 p w
  | .vst p w => opcodeIs 0x51 p w
  | .vop p w => opcodeIs 0x52 p w
  | .vfn p w => opcodeIs 0x53 p w
  | .vred p w => opcodeIs 0x54 p w
  | .put p w => opcodeIs 0x60 p w
  | .get p w => opcodeIs 0x61 p w
  | .atom p w => opcodeIs 0x62 p w
  | .notice p w => opcodeIs 0x70 p w
  | .seqWaitEnd p => decide (p < Config.clusters)
  | .unitCommandComplete p _ => decide (p < Config.clusters)
  | .tensorPassEnd p _ => decide (p < Config.clusters)
  | .tensorOverflowRetry p => decide (p < Config.clusters)
  | .tensorSlotConsumed p n => decide (p < Config.clusters ∧ n < 4)
  | .cstPatrolScrub p _ _ _ => decide (p < Config.clusters)
  | .draftDescAccept p n => decide (p < Config.clusters ∧ n < 4)
  | .draftReadResponse _ => true
  | .draftRelease p n => decide (p < Config.clusters ∧ n < 4)
  | .draftChunkAcked p n => decide (p < Config.clusters ∧ n < 4)
  | .draftWalkEnd p n => decide (p < Config.clusters ∧ n < 4)
  | .packetHop _ => true
  | .combSlotFlush _ => true
  | .responseArrival _ => true
  | .transferTimeout _ => true
  | .dabinLinkLossReplay n _ _ => decide (n < Config.allLinks)
  | .endpointAbsentCleanup e => decide (e < Config.endpoints)
  | .liveBlockUpdate => true
  | .lbscan port => decide (port < 2)
  | .rtrTblDataWrite port e _ => decide (port < 2 ∧ e < Config.endpoints)
  | .rtrTblDataRead port e => decide (port < 2 ∧ e < Config.endpoints)
  | .rtrBroadcastWrite port off _ => decide (port < 2 ∧ off < 0x1000)
  | .rtrTselSnap port e _ => decide (port < 2 ∧ e < Config.endpoints)
  | .epochWrite port ep => decide (port < 2 ∧ ep < 2)
  | .epochSwitchAck e => decide (e < Config.endpoints)
  | .epochDrainSweep => true
  | .distUpdate _ => true
  | .optPacketReceive _ _ => true
  | .optAckReceive _ _ _ => true
  | .optResendTimeout _ _ _ => true
  | .optMarginWindow a b plane cls _ _ => channelIs a b plane && decide (cls < 3)
  | .optRetuneDone a b plane _ => channelIs a b plane
  | .planeRelockStart => true
  | .planeRelockEnd plane _ => decide (plane < 16)
  | .rlreq port plane => decide (port < 2 ∧ plane < 16)
  | .laserLockLoss die => decide (die < 8)
  | .laserRestartDone die _ => decide (die < 8)
  | .calstart port => decide (port < 2)
  | .optCalDone _ _ _ => true
  | .dabinFrameRefused n _ frames => decide (n < Config.allLinks ∧ 0 < frames ∧ frames ≤ 64)
  | .dabinBudgetWindow n => decide (n < Config.allLinks)
  | .dabinTrainStateDone n _ => decide (n < Config.allLinks)
  | .dabinTrainTimeout n _ => decide (n < Config.allLinks)
  | .dabinCapExchange n _ => decide (n < Config.allLinks)
  | .dabinLaneParityWindow n _ lane _ => decide (n < Config.allLinks ∧ lane < 68)
  | .dabinRecalDone n _ => decide (n < Config.allLinks)
  | .dblRetrain port n => decide (port < 2 ∧ n < Config.allLinks)
  | .dblRecal port n => decide (port < 2 ∧ n < Config.allLinks)
  | .dblHold port n _ => decide (port < 2 ∧ n < Config.allLinks)
  | .elasticRecentre n => decide (n < Config.allLinks)
  | .discStart port => decide (port < 2)
  | .discovery _ => true
  | .memRead _ _ _ _ _ => true
  | .memWrite _ _ _ _ _ => true
  | .memAtomic _ _ => true
  | .memPatrolScrub e _ _ _ _ _ _ => decide (112 ≤ e ∧ e < 184)
  | .mbdRetreq port m ch => decide (port < 2 ∧ m < Config.baseDies ∧ ch < 32)
  | .channelMigrationDone m _ => decide (m < Config.baseDies)
  | .iodRetreq port k pkg => decide (port < 2 ∧ k < Config.iods ∧ pkg < 4)
  | .tubPstart port => decide (port < 2)
  | .portTrainStateDone q _ => decide (q < Config.fabricPorts)
  | .portTrainTimeout q _ => decide (q < Config.fabricPorts)
  | .portCapExchange q _ _ => decide (q < Config.fabricPorts)
  | .portLaneClassWindow q lane cls _ _ => decide (q < Config.fabricPorts ∧ lane < 16 ∧ cls < 3)
  | .portFrameRefused q frames => decide (q < Config.fabricPorts ∧ 0 < frames ∧ frames ≤ 4096)
  | .portRetrain port q => decide (port < 2 ∧ q < Config.fabricPorts)
  | .portHold port q _ => decide (port < 2 ∧ q < Config.fabricPorts)
  | .fabricIngress q _ _ _ _ => decide (q < Config.fabricPorts)
  | .fabricTimeout _ => true
  | .tubWinCtlWrite port w _ => decide (port < 2 ∧ w < 64)
  | .tubHopqWrite port l => decide (port < 2 ∧ l < 4096)
  | .tubFepochWrite port ep => decide (port < 2 ∧ ep < 2)
  | .tubFtblwWrite port _ => decide (port < 2)
  | .flipPanelTimeout panel => decide (panel < 4096)
  | .fabricBeaconSend q => decide (q < Config.fabricPorts)
  | .fabricBeaconReceive q _ => decide (q < Config.fabricPorts)
  | .domainHoldover => true
  | .start src w0 _ => messageIs 0x01 src w0
  | .done src w0 _ => messageIs 0x02 src w0
  | .commit src w0 _ => messageIs 0x03 src w0
  | .abort src w0 _ => messageIs 0x04 src w0
  | .fault src w0 _ _ => messageIs 0x05 src w0
  | .fence src w0 _ => messageIs 0x06 src w0
  | .swap src w0 _ => messageIs 0x07 src w0
  | .probation src w0 _ => messageIs 0x08 src w0
  | .beat src w0 _ => messageIs 0x09 src w0
  | .takeover src w0 _ => messageIs 0x0A src w0
  | .newstby src w0 _ => messageIs 0x0B src w0
  | .remap src w0 _ => messageIs 0x0C src w0
  | .remapdone src w0 _ => messageIs 0x0D src w0
  | .ack src w0 _ => messageIs 0x0E src w0
  | .bundle src w0 _ => messageIs 0x20 src w0
  | .ftbl src w0 _ => messageIs 0x21 src w0
  | .fflip src w0 _ => messageIs 0x22 src w0
  | .fsweep src w0 _ => messageIs 0x23 src w0
  | .fresid src w0 _ => messageIs 0x24 src w0
  | .msgResendTimeout _ _ => true
  | .mgrGo port n => decide (port < 2 ∧ n < Config.managerSlots)
  | .mgrStop port n => decide (port < 2 ∧ n < Config.managerSlots)
  | .beatTimer n => decide (n < Config.managerSlots)
  | .managerLost n _ => decide (n < Config.managerSlots)
  | .skeinRead _ => true
  | .skeinAdd _ => true
  | .skeinWaitGe _ => true
  | .skeinAcquire _ => true
  | .skeinSet _ => true
  | .skeinArrive _ => true
  | .waiterTimeout _ _ => true
  | .pollRetry _ => true
  | .sknHostSet port page _ _ => decide (port < 2 ∧ page < 2)
  | .sknBreak port page _ => decide (port < 2 ∧ page < 2)
  | .notifierArm port page n _ _ => decide (port < 2 ∧ page < 2 ∧ n < 64)
  | .dieAbsentWaiterWithdraw e => decide (e < Config.endpoints)
  | .parkGate p => decide (p < Config.clusters)
  | .areaArm _ => true
  | .areaDisarm _ => true
  | .areaZeroDone _ => true
  | .winderLword _ => true
  | .areaOutputDone _ => true
  | .areaTimeout _ => true
  | .staggerRelease p _ => decide (p < Config.clusters)
  | .plyTicketArrive p pri _ => decide (p < Config.clusters ∧ pri < Config.clusters)
  | .plyPassRun p => decide (p < Config.clusters)
  | .plyPassEnd p _ _ => decide (p < Config.clusters)
  | .plyDigestArrive p _ by_ => decide (p < Config.clusters ∧ by_ < Config.clusters)
  | .plyTicketTimeout p _ => decide (p < Config.clusters)
  | .slubDecayTick => true
  | .ret1hWindowExpiry => true
  | .slubvalWrite port _ => decide (port < 2)
  | .slubwWrite port _ => decide (port < 2)
  | .slubthrWrite port ix _ => decide (port < 2) && decide (ix < 4)
  | .partStepStart port j step => decide (port < 2 ∧ j < Config.partitions ∧ step < 2 ^ 48)
  | .seedCopyDone j status => decide (j < Config.partitions ∧ status < 16)
  | .restoreDone j status _ => decide (j < Config.partitions ∧ status < 16)
  | .partSusp port j => decide (port < 2 ∧ j < Config.partitions)
  | .partResume port j => decide (port < 2 ∧ j < Config.partitions)
  | .stepComplete j => decide (j < Config.partitions)
  | .partCommit port j => decide (port < 2 ∧ j < Config.partitions)
  | .partAbort port j => decide (port < 2 ∧ j < Config.partitions)
  | .abortDrainEnd j => decide (j < Config.partitions)
  | .partRestore port j => decide (port < 2 ∧ j < Config.partitions)
  | .partAckloss port j => decide (port < 2 ∧ j < Config.partitions)
  | .spliceRecordCompare j => decide (j < Config.partitions)
  | .partMirCtlWrite port j ix _ => decide (port < 2 ∧ j < Config.partitions ∧ ix < 16)
  | .partSprCtlWrite port j ix _ => decide (port < 2 ∧ j < Config.partitions ∧ ix < 16)
  | .partRotWrite port j _ => decide (port < 2 ∧ j < Config.partitions)
  | .refEdgeLoss e => decide (e < Config.endpoints)
  | .holdoverStop e => decide (e < Config.endpoints)
  | .replicaStretch p cycles slack => decide (p < Config.clusters ∧ 0 < cycles ∧ slack < 4)
  | .rstepWindow p _ low now => decide (p < Config.clusters ∧ low < 64 ∧ now < 64)
  | .rstepDecay p => decide (p < Config.clusters)
  | .gtBeaconSend => true
  | .gtBeaconReceive e _ => decide (e < 184)
  | .gtBeaconMissing e => decide (e < 184)
  | .freqArm port => decide (port < 2)
  | .freqCancel port => decide (port < 2)
  | .freqParamWrite port tgt _ => decide (port < 2 ∧ tgt < 256)
  | .railRampStart h => decide (h < Config.hanks)
  | .freqApply e => decide (e < Config.endpoints)
  | .freqSwitchDone => true
  | .hardwareStage _ _ => true
  | .inputUndervoltage _ => true
  | .inputCriticalStop _ => true
  | .hankOnreq port h => decide (port < 2 ∧ h < Config.hanks)
  | .hankPowerOnDone h _ _ => decide (h < Config.hanks)
  | .hankOffreq port h => decide (port < 2 ∧ h < Config.hanks)
  | .hankSwitchOff h => decide (h < Config.hanks)
  | .hankClrflt port h => decide (port < 2 ∧ h < Config.hanks)
  | .hankShort h => decide (h < Config.hanks)
  | .hankThermalTrip h _ _ => decide (h < Config.hanks)
  | .headerSwitchStaged p _ => decide (p < Config.clusters)
  | .budgetDivide _ => true
  | .hankNcapEval h _ _ => decide (h < Config.hanks)
  | .pcapHostWrite port cap => decide (port < 2 ∧ cap < 65536)
  | .noticePreposition p => decide (p < Config.clusters)
  | .issueRampStep p => decide (p < Config.clusters)
  | .hotspotSense p _ => decide (p < Config.clusters)
  | .telemetryPublish _ _ _ _ _ _ => true
  | .coolantCritical => true
  | .connectionMonitor _ => true
  | .thermalForecast h _ _ _ => decide (h < Config.hanks)
  | .thermalCycleCount h _ => decide (h < Config.hanks)
  | .bootEnumerate port => decide (port < 2)
  | .bootClockStart port => decide (port < 2)
  | .bootPower port => decide (port < 2)
  | .bootMemoryTrain port _ => decide (port < 2)
  | .bootSelfTest port => decide (port < 2)
  | .bootReconcile port => decide (port < 2)
  | .bootRelease port => decide (port < 2)
  | .bootStepDone _ => true
  | .fuseOvr port => decide (port < 2)
  | .fuseAdd port => decide (port < 2)
  | .fwStagingWrite port off data => decide (port < 2 ∧ off + data.length ≤ 0x2000000)
  | .fwMeasure port typ len => decide (port < 2 ∧ typ < 16 ∧ len < 2 ^ 26)
  | .fwMeasureDone => true
  | .fwLoad port => decide (port < 2)
  | .fwDrop port => decide (port < 2)
  | .fwConfirm p _ => decide (p < Config.clusters)
  | .fwClusterCopyDone p _ => decide (p < Config.clusters)
  | .cluStestGo port p _ => decide (port < 2 ∧ p < Config.clusters)
  | .stestDeferredStart p => decide (p < Config.clusters)
  | .stestDone p blk => decide (p < Config.clusters ∧ blk < 65536)
  | .cluSeqReset port p => decide (port < 2 ∧ p < Config.clusters)
  | .cluReset port p _ => decide (port < 2 ∧ p < Config.clusters)
  | .cluResetDone p => decide (p < Config.clusters)
  | .partReset port j scrub => decide (port < 2 ∧ j < Config.partitions ∧ scrub < 4)
  | .partResetDone j => decide (j < Config.partitions)
  | .panelReset port => decide (port < 2)
  | .panelFreeze port => decide (port < 2)
  | .genCommit port num => decide (port < 2 ∧ num < 2 ^ 32)
  | .genRevert port => decide (port < 2)
  | .genDiscard port => decide (port < 2)
  | .ownCas port expect new_ => decide (port < 2 ∧ expect < 4 ∧ new_ < 4)
  | .ownRenew port => decide (port < 2)
  | .ownForce port => decide (port < 2)
  | .ownLeaseExpiry => true
  | .dataWindowAccess port wr base off len data _ => windowIs port base off (if wr then data.length else len)
  | .keyEnrol port slot => decide (port < 2 ∧ slot < 4)
  | .keyRevoke port slot => decide (port < 2 ∧ slot < 4)
  | .keycmdDone => true
  | .dbgEnter port => decide (port < 2)
  | .dbgExit port => decide (port < 2)
  | .attReq port => decide (port < 2)
  | .attDone => true
  | .attWordRead port _ => decide (port < 2)
  | .logdataRead port => decide (port < 2)
  | .accLoRead port p => decide (port < 2 ∧ p < Config.clusters)
  | .sknValueRead port page => decide (port < 2 ∧ page < 2)
  | .presenceAssertHeld => true
  | .presenceRelease => true
  | .sealLoopOpen => true
  | .evtCauseClear port page _ => decide (port < 2 ∧ page < 16384)
  | .evtForce port page _ => decide (port < 2 ∧ page < 16384)
  | .logclr port page => decide (port < 2 ∧ page < 16384)
  | .eventSummaryPropagate e => decide (e < 192)
  | .vpendClear port ix _ => decide (port < 2 ∧ ix < 4)
  | .mgtTimeout port _ addr => decide (port < 2 ∧ addr < 2 ^ 26)
  | .bar0BadAccess port _ addr len => decide (port < 2 ∧ 0 < len ∧ addr + len ≤ 2 ^ 26)
  | .registerWrite port addr _ => decide (port < 2 ∧ addr < 2 ^ 26)
  | .hpLinkDown port => decide (port < 2)
  | .hpLinkUp port speed width => decide (port < 2 ∧ 1 ≤ speed ∧ speed ≤ 5) && [1, 2, 4, 8, 16].contains width
  | .hpPerst port => decide (port < 2)
  | .identityBusRead off _ => decide (off < 256)
  | .referenceEdgeReturn e => decide (e < Config.endpoints)
  | .undervoltageClear _ => true
  | .msixVectorUnmask port v => decide (port < 2 ∧ v < 256)

end Sys2Proof
end

