-- ==== Sys2Proof/Safety.lean ====
section
/-!
DEFINITION. What the statements about whole states say: the canonical form of memory, fuses that are only ever blown, the
panel that has stopped, and the panel that obeys commands.
-/

namespace Sys2Proof.Machine

/-- Every byte is listed once, in rising order, and no listed byte is zero. -/
def State.memOk (s : State) : Bool := Memory.wf s.dev.mem

/-- Every waiting command is well formed. -/
def State.queueOk (s : State) : Bool := s.pending.all Instr.wellFormed

/-- Fuses `g` hold everything that fuses `f` hold: nothing that is blown is ever taken back (R408, R442, R448), and what was
fused at manufacture is as it was (R2, R438). -/
def Fuses.keeps (f g : Fuses) : Prop :=
  g.code = f.code ∧ g.serial = f.serial ∧ g.seed = f.seed ∧ g.dieSerial = f.dieSerial ∧ g.iodBlock = f.iodBlock ∧ g.releaseKey = f.releaseKey ∧
  (∀ u ∈ f.bad, u ∈ g.bad) ∧ (∀ x ∈ f.enrolled, x ∈ g.enrolled) ∧ (∀ x ∈ f.revoked, x ∈ g.revoked) ∧
  (f.sealBlown = true → g.sealBlown = true)

/-- The panel obeys commands: it has not stopped (R366) and is not frozen (R423). -/
def Dev.obeys (d : Dev) : Bool := !d.stopped && !d.frozen

/-- The command answers a next state in which `e` is the panel, the fuses and the queue being as they were. -/
def Answers (c : Instr) (s : State) (e : Dev) : Prop := exec c s = .next { s with dev := e }

/-- The command answers a next state; the fuses and the queue are as they were, and of the panel `P` holds. -/
def Completes (c : Instr) (s : State) (P : Dev → Prop) : Prop := ∃ e, Answers c s e ∧ P e

/-- Command `w`, which the store holds clean at cluster p's PC, issues: the sequencer is in RUN, nothing holds the command
back (R53, R55, R56), and no fault of codes 1 to 10 applies (R48). -/
abbrev Dev.ready (d : Dev) (p : Nat) (w : Cmd) : Prop :=
  p < 896 ∧ d.mayIssue p = true ∧ 16 * (d.cl p).seq.pc < STORE_END ∧ d.fetched p = w ∧
  (d.readStore p (16 * (d.cl p).seq.pc) 16).1.px = [] ∧ (d.readStore p (16 * (d.cl p).seq.pc) 16).2 = d ∧
  (d.cl p).holds w = false ∧ d.issueFault p w = none

/-- What a command that the sequencer itself executes leaves: all but its own sequencer, and with SIG the packets of the ADD. -/
def Dev.seqOnly (d : Dev) (p : Nat) (w : Cmd) (e : Dev) : Prop :=
  e = { d with clu := e.clu, net := e.net, fab := e.fab } ∧ (∀ x, x ≠ p → e.cl x = d.cl x) ∧
  e.cl p = { d.cl p with seq := (e.cl p).seq } ∧ (sigOf w = false → e.net = d.net ∧ e.fab = d.fab)

/-- An event of weight `w` points for a unit changes its score and nothing else: the score stays below RETIRE, the unit is
neither retired nor on probation, and the margin step stays (R302 to R305). -/
abbrev Dev.quietScore (d : Dev) (kind idx w : Nat) : Prop :=
  let s := min ((d.score kind idx).s + w * 65536) 0xFFFFFFFF
  kind < 8 ∧ (d.score kind idx).ret = false ∧ (d.score kind idx).prob = false ∧ s < d.retireThr kind * 65536 ∧
  (kind = U_CLUSTER → d.marginStep (d.f (pgCLU idx) CLU_SLUB_MSTEP) s = d.f (pgCLU idx) CLU_SLUB_MSTEP)

/-- No winder area exists, and storing `bs` at offset `o` of cluster p's store arms none (R271): the bytes are plain data. -/
abbrev Dev.plainStore (d : Dev) (p o : Nat) (bs : List Byte) : Prop := d.areas = [] ∧ armKeys (csKey p 0) (csKey p o) bs = []

/-- Only registers differ, and of these only those at the addresses listed. -/
def Dev.regsOnly (d e : Dev) (as : List Nat) : Prop := e = { d with regs := e.regs } ∧ ∀ a, a ∉ as → e.reg a = d.reg a

/-- The host on the port can act (R487, R488), and it owns the panel (R432). -/
abbrev Dev.owner (d : Dev) (port : Nat) : Prop := port < 2 ∧ d.hostUp port = true ∧ d.owns port = true

/-- An event's CAUSE bit stands on a page (R456). -/
def Dev.caused (d : Dev) (page b : Nat) : Prop := bit (d.reg (page + 0x20)) b = true

/-- A saturating count of a page has grown by n. -/
def Dev.counted (d e : Dev) (page : Nat) (x : Fld) (n : Nat) : Prop := e.f page x = sat (x.hi + 1 - x.lo) (d.f page x + n)

/-- A response made at endpoint a reaches its requester on this panel: the requester is here, the hank is not draining and the
route choice is not NONE (R141, R373). -/
abbrev Dev.replies (d : Dev) (a : Nat) (q : Pkt) : Prop :=
  q.spanel = d.self ∧ d.draining a = false ∧ d.choose a q.sep (d.inje a) ≠ .none

/-- A response to `q` with a status and data is on its way. -/
def Dev.answered (e : Dev) (q : Pkt) (status : Nat) (data : List Byte) : Prop :=
  ∃ r ∈ e.net.pkts, r.typ = rspType q.typ ∧ r.flow = q.flow ∧ r.sq = q.sq ∧ r.dep = q.sep ∧ r.dcl = q.scl ∧ r.status = status ∧
    r.data = data

/-- The commands a frozen panel still obeys (R423, R463): its clocks and global time, its power, its own protection, presence and
ownership, reads, the registers of R461, the host links, the freeze and resets. -/
def actsFrozen (c : Instr) : Bool :=
  match c with
  | .hardwareStage .. | .rtrTblDataRead .. | .fabricBeaconSend .. | .fabricBeaconReceive .. | .domainHoldover
  | .refEdgeLoss .. | .holdoverStop .. | .replicaStretch .. | .rstepWindow .. | .rstepDecay .. | .gtBeaconSend
  | .gtBeaconReceive .. | .gtBeaconMissing .. | .freqArm .. | .railRampStart .. | .freqApply .. | .freqSwitchDone
  | .inputUndervoltage .. | .inputCriticalStop .. | .hankPowerOnDone .. | .hankSwitchOff .. | .hankShort ..
  | .hankThermalTrip .. | .headerSwitchStaged .. | .budgetDivide .. | .hankNcapEval .. | .issueRampStep .. | .hotspotSense ..
  | .telemetryPublish .. | .coolantCritical | .connectionMonitor .. | .thermalForecast .. | .thermalCycleCount ..
  | .panelReset .. | .panelFreeze .. | .ownCas .. | .ownRenew .. | .ownForce .. | .ownLeaseExpiry | .keycmdDone | .attDone
  | .attWordRead .. | .logdataRead .. | .accLoRead .. | .sknValueRead .. | .presenceAssertHeld | .presenceRelease
  | .sealLoopOpen | .eventSummaryPropagate .. | .vpendClear .. | .mgtTimeout .. | .bar0BadAccess .. | .registerWrite ..
  | .hpLinkDown .. | .hpLinkUp .. | .hpPerst .. | .identityBusRead .. | .referenceEdgeReturn .. | .undervoltageClear ..
  | .msixVectorUnmask .. => true
  | _ => false

end Sys2Proof.Machine
end

