-- ==== Sys2Proof/Certificates/Slice0/Obligations.lean ====
section
/-!
DEFINITION. The statements for the provers: what each family of commands does when it completes, what the whole panel keeps, and
what it refuses.
-/

open Sys2Proof Sys2Proof.Machine

/-- The command at the front of the queue runs on the state with the queue's rest; with none waiting one clock cycle passes, which moves
global time alone (the model's choice, log entry 41). -/
def Obligations.CommandsAreServedInOrder : Prop :=
  (∀ (c : Instr) (rest : List Instr) (s : State), step { s with pending := c :: rest } = exec c { s with pending := rest }) ∧
  (∀ s : State, s.pending = [] → ∃ t n, step s = .next { s with dev := { s.dev with gt := t, gtFrac := n } } ∧
    (s.dev.stopped = true → t = s.dev.gt ∧ n = s.dev.gtFrac))

/-- After reset the panel is as the hardware stage leaves it, with whorl die 0: step 0 of bring-up, no owner, no generation, every partition
IDLE, every sequencer IDLE, no command waiting, memory that lists nothing. -/
def Obligations.ResetIsTheHardwareStage : Prop :=
  let s := State.reset
  let d := s.dev
  d = hardwareStage s.fuse true true 0 ∧ s.pending = [] ∧ s.memOk = true ∧ s.queueOk = true ∧ d.mem = [] ∧
  d.net.present = [168, 176, 184] ∧ d.obeys = true ∧ d.f pgWHL WHL_BOOT_BSTEP = 0 ∧ d.f pgWHL WHL_BOOT_BSTATE = 0 ∧
  d.f pgWHL WHL_OWN_OWNER = 0 ∧ d.f pgWHL WHL_GENNUM_CUR = 0 ∧ d.f pgWHL WHL_RTEPOCH_E = 0 ∧ d.gens.cur.num = 0 ∧ d.gt = 0 ∧
  (∀ j, j < Config.partitions → d.pst j = P_IDLE ∧ d.f (pgPART j) PART_CMT_FAILC = 0) ∧
  (∀ p, p < Config.clusters → (d.cl p).seq = {} ∧ ((d.cl p).seq.st = .idle) ∧ d.lcOf p = 0x3FF ∧ d.partOf p = 0xF) ∧
  (∀ b, SMap.get 16 d.gens.cur.own b = 16)

/-- A well-formed command answers a next state, and one that names a unit the panel does not have is refused; no command touches the
queue. -/
def Obligations.WellFormedCommandsAnswer : Prop :=
  ∀ (c : Instr) (s : State),
    (c.wellFormed = true → ∃ t, exec c s = .next t ∧ t.pending = s.pending) ∧
    (c.wellFormed = false → exec c s = .refused .noSuchUnit)

/-- Below 11.4 V the panel raises EV_PWR_UV and limits Peff so that the input current stays at 2,105 A; below 10.8 V or above 13.0 V it stops
and holds no state, and no command but the hardware stage changes it then. -/
def Obligations.VoltageLimitsBindAndStop : Prop :=
  (∀ (s : State) (mv : Nat), s.dev.stopped = false →
    (mv < 11400 → s.dev.pwr.underV = false → Completes (.inputUndervoltage mv) s fun e => e.caused pgWHL EV_PWR_UV ∧
      e.pwr.underV = true ∧ e.pwr.peff ≤ 2105 * mv) ∧
    (mv < 10800 ∨ 13000 < mv → Answers (.inputCriticalStop mv) s { stopped := true })) ∧
  (∀ (c : Instr) (s : State), s.dev.stopped = true → c.wellFormed = true → (∀ a b, c ≠ .hardwareStage a b) → exec c s = .next s) ∧
  (∀ (s : State), s.dev.stopped = true → s.pending = [] → step s = .next s)

/-- A frozen panel stands still: of the commands that R423 and R463 leave it, no other changes anything, a frequency change is refused with
BUSY, and a register that is neither WHL_PRST nor WHL_OWN nor a port's own takes no write. FROZEN reads 1 on either port. -/
def Obligations.FrozenPanelStandsStill : Prop :=
  (∀ (c : Instr) (s : State), s.dev.frozen = true → c.wellFormed = true → actsFrozen c = false → exec c s = .next s) ∧
  (∀ (s : State) (port : Nat), s.dev.frozen = true → s.dev.stopped = false → s.dev.owner port →
    (Completes (.freqArm port) s fun e => e.f pgWHL WHL_FREQ_ERRC = 3 ∧ e.f pgWHL WHL_FREQ_FSTATE = s.dev.f pgWHL WHL_FREQ_FSTATE ∧
      e.clk = s.dev.clk) ∧
    fld (s.dev.hostRead s.fuse port (pgWHL + 0x540)) 8 8 = 1 ∧
    (∀ a v, a % 8 = 0 → a < 2 ^ 26 → (pageOf a).1 ≠ .whl → Answers (.registerWrite port a v) s s.dev))

/-- What is fused is never taken back, whatever the command: every step keeps the fused map, the enrolled and revoked slots, the seal and what
was fused at manufacture. -/
def Obligations.FusesAreOnlyBlown : Prop :=
  (∀ (c : Instr) (s t : State), exec c s = .next t → s.fuse.keeps t.fuse) ∧
  (∀ s t : State, step s = .next t → s.fuse.keeps t.fuse) ∧
  (∀ (port a : Nat) (v : Word) (s t : State), a ≠ pgWHL + 0x520 → exec (.registerWrite port a v) s = .next t → t.fuse = s.fuse)

/-- Every step keeps memory in its canonical form: one entry a byte, in rising order, none that reads zero. -/
def Obligations.EveryStepKeepsMemoryCanonical : Prop :=
  (∀ (c : Instr) (s t : State), s.memOk = true → exec c s = .next t → t.memOk = true) ∧
  (∀ s t : State, s.memOk = true → step s = .next t → t.memOk = true)

/-- NOP, HALT, BR, CALL, RET and LOOP complete with the sequencer state of Table 2.9 and R58, and change nothing else. -/
def Obligations.ControlCommandsComplete : Prop :=
  ∀ (s : State) (p : Nat) (w : Cmd), s.dev.obeys = true → s.dev.ready p w →
    let d := s.dev
    let q := (d.cl p).seq
    let a := q.ireg (fld w 108 105)
    let b := q.ireg (fld w 104 101)
    let taken := fld w 111 109 = 0 ∧ a = b ∨ fld w 111 109 = 1 ∧ a ≠ b ∨ fld w 111 109 = 2 ∧ a.toInt < b.toInt ∨
      fld w 111 109 = 3 ∧ b.toInt ≤ a.toInt ∨ fld w 111 109 = 4 ∧ a.toNat < b.toNat ∨ fld w 111 109 = 5 ∧ b.toNat ≤ a.toNat ∨
      fld w 111 109 = 7
    let count := if bit w 111 then (q.ireg (fld w 110 107)).toNat % 2 ^ 32 else fld w 106 91
    (opcOf w = 0x00 → Completes (.nop p w) s fun e => (e.cl p).seq = q.next ∧ d.seqOnly p w e) ∧
    (opcOf w = 0x01 → Completes (.halt p w) s fun e => (e.cl p).seq = { q with st := .idle } ∧ d.seqOnly p w e) ∧
    (opcOf w = 0x02 → taken → Completes (.br p w) s fun e =>
      (e.cl p).seq = q.branch (sfld w 100 85) ∧ (e.cl p).seq.pc = wrap 21 (q.pc + sfld w 100 85) ∧ d.seqOnly p w e) ∧
    (opcOf w = 0x02 → ¬ taken → Completes (.br p w) s fun e => (e.cl p).seq = q.next ∧ d.seqOnly p w e) ∧
    (opcOf w = 0x03 → Completes (.call p w) s fun e =>
      (e.cl p).seq = { q with pc := wrap 21 (q.pc + sfld w 100 85), calls := (q.pc + 1) % 2 ^ 21 :: q.calls } ∧ d.seqOnly p w e) ∧
    (opcOf w = 0x04 → ∀ r rs, q.calls = r :: rs → Completes (.ret p w) s fun e =>
      (e.cl p).seq = { q with calls := rs }.afterAt ((r + 2 ^ 21 - 1) % 2 ^ 21) q.loops ∧ d.seqOnly p w e) ∧
    (opcOf w = 0x05 → count = 0 → Completes (.loop p w) s fun e =>
      (e.cl p).seq = q.afterAt (q.pc + fld w 90 79) q.loops ∧ d.seqOnly p w e) ∧
    (opcOf w = 0x05 → count ≠ 0 → Completes (.loop p w) s fun e =>
      (e.cl p).seq = { q with
        pc := (q.pc + 1) % 2 ^ 21
        loops := { first := q.pc + 1, last := q.pc + fld w 90 79, left := count, ireg := fld w 78 75, inc := sfld w 74 59,
                   depth := q.calls.length } :: q.loops } ∧ d.seqOnly p w e)

/-- Where no loop level is open, a sequencer that goes on moves its PC by 1 and changes nothing else; at the last command of
the innermost level's body the level's register is stepped and the body is repeated until its count is used up (R58). -/
def Obligations.LoopsIterateAndClose : Prop :=
  (∀ q : Seq, q.loops = [] → q.next = { q with pc := (q.pc + 1) % 2 ^ 21 }) ∧
  (∀ (q : Seq) (l : LoopLv) (t : List LoopLv), q.loops = l :: t → l.depth = q.calls.length → l.last = q.pc → 1 < l.left →
    q.next = { q.setIreg l.ireg (q.ireg l.ireg + BitVec.ofInt 64 l.inc) with
      pc := l.first, loops := { l with left := l.left - 1 } :: t }) ∧
  (∀ (q : Seq) (l : LoopLv), q.loops = [l] → l.depth = q.calls.length → l.last = q.pc → l.left ≤ 1 →
    q.next = { q.setIreg l.ireg (q.ireg l.ireg + BitVec.ofInt 64 l.inc) with pc := (q.pc + 1) % 2 ^ 21, loops := [] }) ∧
  (∀ (q : Seq) (l : LoopLv) (t : List LoopLv), q.loops = l :: t → l.depth ≠ q.calls.length →
    q.next = { q with pc := (q.pc + 1) % 2 ^ 21 })

/-- LDI, ADDI, ALU and GETS write one integer register with the value of Table 2.10, I0 excepted, and go on; SKSLOT writes a
skein slot, TWIN the shift step and the retry limit. Nothing else changes. A register reads what was written into it; I0 reads zero and
takes no write (R50). -/
def Obligations.IntegerCommandsComplete : Prop :=
  (∀ (q : Seq) (n m : Nat) (v : Word),
    (n ≠ 0 → (q.setIreg n v).ireg n = v) ∧ (m ≠ n → (q.setIreg n v).ireg m = q.ireg m) ∧ q.ireg 0 = 0 ∧ q.setIreg 0 v = q) ∧
  ∀ (s : State) (p : Nat) (w : Cmd), s.dev.obeys = true → s.dev.ready p w →
    let d := s.dev
    let q := (d.cl p).seq
    let a := q.ireg (fld w 107 104)
    let b := q.ireg (fld w 103 100)
    let wr (c : Instr) (v : Word) : Prop :=
      Completes c s fun e => (e.cl p).seq = (q.setIreg (fld w 111 108) v).next ∧ d.seqOnly p w e
    (opcOf w = 0x10 → wr (.ldi p w) (BitVec.ofNat 64 (fld w 107 44))) ∧
    (opcOf w = 0x11 → wr (.addi p w) (a + BitVec.ofInt 64 (sgn 32 (fld w 103 72)))) ∧
    (opcOf w = 0x12 →
      (fld w 99 96 = 0 → wr (.alu p w) (a + b)) ∧ (fld w 99 96 = 1 → wr (.alu p w) (a - b)) ∧
      (fld w 99 96 = 2 → wr (.alu p w) (a * b)) ∧ (fld w 99 96 = 3 → wr (.alu p w) (a &&& b)) ∧
      (fld w 99 96 = 4 → wr (.alu p w) (a ||| b)) ∧ (fld w 99 96 = 5 → wr (.alu p w) (a ^^^ b)) ∧
      (fld w 99 96 = 6 → wr (.alu p w) (a <<< (b.toNat % 64))) ∧ (fld w 99 96 = 7 → wr (.alu p w) (a >>> (b.toNat % 64))) ∧
      (fld w 99 96 = 8 → wr (.alu p w) (a.sshiftRight (b.toNat % 64))) ∧
      (fld w 99 96 = 9 → wr (.alu p w) (if a.toInt < b.toInt then a else b)) ∧
      (fld w 99 96 = 10 → wr (.alu p w) (if a.toInt < b.toInt then b else a))) ∧
    (opcOf w = 0x18 →
      (fld w 107 104 = 0 → wr (.gets p w) (BitVec.ofNat 64 (d.lcEff p))) ∧
      (fld w 107 104 = 1 → wr (.gets p w) (BitVec.ofNat 64 (d.stepOf (d.partEff p)))) ∧
      (fld w 107 104 = 2 → wr (.gets p w) (BitVec.ofNat 64 (d.partEff p))) ∧
      (fld w 107 104 = 3 → wr (.gets p w) (BitVec.ofNat 64 (d.stepOf (d.partEff p) % 2))) ∧
      (fld w 107 104 = 4 → wr (.gets p w) (BitVec.ofNat 64 (d.gtAt (dieOf p)))) ∧
      (fld w 107 104 = 5 → wr (.gets p w) (BitVec.ofNat 64 (d.f (pgCLU p) CLU_WRAP_COUNT)))) ∧
    (opcOf w = 0x20 → Completes (.skslot p w) s fun e => d.seqOnly p w e ∧
      (e.cl p).seq = { q with slots := SMap.set 0 q.slots (fld w 111 106) (BitVec.ofNat 32 (fld w 105 74)) }.next) ∧
    (opcOf w = 0x44 → Completes (.twin p w) s fun e => d.seqOnly p w e ∧
      (e.cl p).seq = { q with shift := fld w 111 110, rlim := fld w 109 107 }.next)

/-- LDS reads an aligned 64-bit word of the own store into a register, and STS stores a register there, byte order little-endian;
a poisoned word is written into the register, and then the sequencer faults with POISON at the LDS (outside a step). -/
def Obligations.StoreAccessCommandsComplete : Prop :=
  ∀ (s : State) (p : Nat) (w : Cmd), s.dev.obeys = true → s.dev.ready p w → s.dev.upsets = [] →
    let d := s.dev
    let q := (d.cl p).seq
    let a := wrap 64 ((q.ireg (fld w 107 104)).toNat + sgn 24 (fld w 103 80))
    let v := q.ireg (fld w 111 108)
    (opcOf w = 0x16 → d.poisMap (csKey p a) 8 = [] → Completes (.lds p w) s fun e => d.seqOnly p w e ∧
      (e.cl p).seq = (q.setIreg (fld w 111 108) (d.word64 (csKey p a))).next) ∧
    (opcOf w = 0x16 → d.poisMap (csKey p a) 8 ≠ [] → d.pst (d.partOf p) ≠ P_RUN → d.pst (d.partOf p) ≠ P_DONE →
      Completes (.lds p w) s fun e => e.mem = d.mem ∧ (e.cl p).seq = { q.setIreg (fld w 111 108) (d.word64 (csKey p a)) with
        st := .fault, fcode := F_POISON, pc := q.pc, held := none, waitId := none }) ∧
    (opcOf w = 0x17 → d.plainStore p a (leBytes 8 v.toNat) → Completes (.sts p w) s fun e =>
      (e.cl p).seq = q.next ∧ e.mem = memWrite d.mem (csKey p a) (leBytes 8 v.toNat) ∧ e.word64 (csKey p a) = v ∧
      (∀ k, (k < csKey p a ∨ csKey p a + 8 ≤ k) → memByte e.mem k = memByte d.mem k) ∧ e.regs = d.regs ∧
      (∀ x, x ≠ p → e.cl x = d.cl x))

/-- VLD, VOP, VFN and VRED write the lanes of one vector register and VST 512 converted elements of the store; each takes its
place in the vector queue at its completion point, and the sequencer goes on. `vset v f`: register v holds f and no other
vector register changes. -/
def Obligations.VectorCommandsComplete : Prop :=
  ∀ (s : State) (p : Nat) (w : Cmd), s.dev.obeys = true → s.dev.ready p w → s.dev.upsets = [] →
    let d := s.dev
    let c := d.cl p
    let q := c.seq
    let o := (q.ireg (fld w 106 103)).toNat
    let fm := fld w 102 99
    let b := vbytes fm
    let bs := d.bytes (csKey p o) (512 * b)
    let raw := fun j => leNat (slice bs (j * b) b)
    let queued := fun (st : Nat) (e : Dev) =>
      (e.cl p).seq = q.next ∧ ∃ u ∈ (e.cl p).units, u.id = c.nextId ∧ u.unit = .vector ∧ u.w = w ∧ u.fin = true ∧ u.status = st
    let vset := fun (v : Nat) (f : Nat → BitVec 32) (e : Dev) => e.mem = d.mem ∧ e.regs = d.regs ∧
      (∀ j, j < 512 → (e.cl p).lane v j = f j) ∧ (∀ x j, j < 512 → x ≠ v → (e.cl p).lane x j = c.lane x j)
    let la := fun j => c.lane (fld w 100 96) j
    let lb := fun j => c.lane (fld w 95 91) j
    let lc := fun j => c.lane (fld w 90 86) j
    let vop := fun (n : Nat) (f : Nat → BitVec 32) => opcOf w = 0x52 → fld w 111 106 = n →
      Completes (.vop p w) s fun e => queued ST_OK e ∧ vset (fld w 105 101) f e
    let la2 := fun j => c.lane (fld w 101 97) j
    let red := fun (n : Nat) (f : BitVec 32 → BitVec 32 → BitVec 32) => opcOf w = 0x54 → fld w 111 110 = n →
      Completes (.vred p w) s fun e => queued ST_OK e ∧ e.mem = d.mem ∧
        (e.cl p).lane (fld w 109 105) 0 = reduceTree f 9 (fun j => c.lane (fld w 104 100) j) ∧
        ∀ x j, j < 512 → (x ≠ fld w 109 105 ∨ j ≠ 0) → (e.cl p).lane x j = c.lane x j
    (opcOf w = 0x50 → fm = 10 → Completes (.vld p w) s fun e =>
      queued (if d.poisMap (csKey p o) (512 * b) = [] then ST_OK else ST_POISONED) e ∧
      vset (fld w 111 107) (fun j => BitVec.ofNat 32 (raw j)) e) ∧
    (opcOf w = 0x50 → fm ≠ 10 → Completes (.vld p w) s fun e =>
      queued (if d.poisMap (csKey p o) (512 * b) = [] then ST_OK else ST_POISONED) e ∧
      vset (fld w 111 107) (fun j => word32 (decodeNum (fmtOf fm) (raw j))) e) ∧
    (let out := ((List.range 512).map fun j => leBytes b (if fm = 10 then (c.lane (fld w 111 107) j).toNat
        else encodeNum (fmtOf fm) .ne (num32 (c.lane (fld w 111 107) j)))).flatten
     opcOf w = 0x51 → d.plainStore p o out → Completes (.vst p w) s fun e =>
      queued ST_OK e ∧ e.mem = memWrite d.mem (csKey p o) out ∧ e.regs = d.regs ∧ ∀ x j, (e.cl p).lane x j = c.lane x j) ∧
    vop 0 (fun j => fadd (la j) (lb j)) ∧ vop 1 (fun j => fsub (la j) (lb j)) ∧ vop 2 (fun j => fmul (la j) (lb j)) ∧
    vop 3 (fun j => ffma (la j) (lb j) (lc j)) ∧ vop 4 (fun j => fmax (la j) (lb j)) ∧ vop 5 (fun j => fmin (la j) (lb j)) ∧
    vop 6 (fun j => canonNan (la j &&& 0x7FFFFFFF#32)) ∧ vop 7 (fun j => canonNan (la j ^^^ 0x80000000#32)) ∧
    vop 9 (fun j => canonNan (if isNonzero (lc j) then la j else lb j)) ∧
    vop 10 (fun j => fmul (la j) ((q.ireg (fld w 94 91)).setWidth 32)) ∧
    (opcOf w = 0x52 → fld w 111 106 = 8 → Completes (.vop p w) s fun e => queued ST_OK e ∧ e.mem = d.mem ∧ ∀ j, j < 512 →
      ((e.cl p).lane (fld w 105 101) j ≠ 0 ↔ ltNum (num32 (la j)) (num32 (lb j)) = true)) ∧
    (opcOf w = 0x53 → Completes (.vfn p w) s fun e => queued ST_OK e ∧ vset (fld w 106 102) (fun j =>
      let img := SMap.get ({ typ := 1, svn := 0, keysel := 0, digest := 0 } : Image) d.boot.loaded 1
      let t := Config.vfnTable img.digest (fld w 111 107) (la2 j)
      (vfnSpecial (fld w 111 107) (la2 j)).getD (canonNan (if img.keysel = 0 then vfnRelease (fld w 111 107) (la2 j) t else t))) e) ∧
    red 0 fadd ∧ red 1 fmax ∧ red 2 fmin

/-- On a cluster whose tensor engine is free, TMMA begins its pass when each operand is in the store or in a ring whose descriptor
matches, and waits in the queue while a ring has no descriptor; TDRAIN converts its set row by row into the store; TEXPORT sends
its long words. The sequencer goes on. -/
def Obligations.TensorCommandsComplete : Prop :=
  ∀ (s : State) (p : Nat) (w : Cmd), s.dev.obeys = true → s.dev.ready p w → s.dev.upsets = [] →
    (∀ u ∈ (s.dev.cl p).units, u.unit ≠ .tensor) → (s.dev.cl p).pass = none → (s.dev.cl p).tickets = [] →
    let d := s.dev
    let c := d.cl p
    let q := c.seq
    let k := fld w 88 73 + 1
    let ra := d.ringCheck p w (fld w 103 101) 0 (fld w 111 108)
    let rb := d.ringCheck p w (fld w 96 94) 1 (fld w 107 104)
    let oper := fun (o : Oper) (src reg fmt lanes : Nat) =>
      (src = 4 → o.ring = none ∧ o.el = d.bytes (csKey p (q.ireg reg).toNat) (passBytes fmt k lanes).1 ∧
        o.sc = d.bytes (csKey p ((q.ireg reg).toNat + (passBytes fmt k lanes).1)) (passBytes fmt k lanes).2) ∧
      (src ≠ 4 → o.ring = some src ∧ o.slotsLeft = (c.eng src).spp ∧ o.el = [] ∧ o.sc = [])
    let set := c.acc (fld w 111 111)
    let at_ := fun (r : Nat) => (q.ireg (fld w 89 86) + BitVec.ofNat 64 r * q.ireg (fld w 85 82)).toNat
    let row := drainRow set (fld w 110 107) (fun _ => .ne)
    let at' := fun (r : Nat) => csKey p ((d.ownAt p (at_ r) (row r).length).getD 0)
    (opcOf w = 0x40 → ra = some true → rb = some true → Completes (.tmma p w) s fun e =>
      (e.cl p).seq = q.next ∧ e.mem = d.mem ∧ (e.cl p).acc (fld w 89 89) = { l := sgn 12 (fld w 31 20), wrapped := (c.acc (fld w 89 89)).wrapped } ∧
      ∃ x, (e.cl p).pass = some x ∧ x.id = c.nextId ∧ x.set = fld w 89 89 ∧ x.k = k ∧ x.m = fld w 72 66 + 1 ∧
        x.n = fld w 65 58 + 1 ∧ x.tile = fld w 57 34 ∧ x.tries = 0 ∧ x.wauto = bit w 32 ∧ x.l0 = sgn 12 (fld w 31 20) ∧
        x.shift = 8 * (q.shift + 1) ∧ x.rlim = q.rlim ∧
        oper x.a (fld w 103 101) (fld w 100 97) (fld w 111 108) 128 ∧ oper x.b (fld w 96 94) (fld w 93 90) (fld w 107 104) 256) ∧
    (opcOf w = 0x40 → (ra = none ∨ rb = none) → Completes (.tmma p w) s fun e =>
      (e.cl p).seq = q.next ∧ (e.cl p).pass = none ∧ e.mem = d.mem ∧ e.regs = d.regs ∧
      ∃ u ∈ (e.cl p).units, u.id = c.nextId ∧ u.unit = .tensor ∧ u.w = w ∧ u.started = false) ∧
    (opcOf w = 0x42 → bit w 106 = false → (d.pt (d.partEff p)).spr = [] → d.areas = [] →
      (∀ r, r < set.m → (d.ownAt p (at_ r) (row r).length).isSome = true ∧ armKeys (csKey p 0) (at' r) (row r) = []) → Completes (.tdrain p w) s fun e =>
      (e.cl p).seq = q.next ∧ (e.cl p).acc (fld w 111 111) = set ∧
      e.mem = forN set.m (fun r m => memWrite m (at' r) (row r)) d.mem ∧
      ∃ u ∈ (e.cl p).units, u.id = c.nextId ∧ u.w = w ∧ u.started = true) ∧
    (let wep := fld w 108 101
     opcOf w = 0x43 → (isCD wep || isMB wep) = true → d.shadowing p = false → d.draining (dieOf p) = false →
      d.choose (dieOf p) wep (d.inje (dieOf p)) ≠ .none → Completes (.texport p w) s fun e =>
      (e.cl p).seq = q.next ∧ e.mem = d.mem ∧ e.regs = d.regs ∧
      (∃ u ∈ (e.cl p).units, u.id = c.nextId ∧ u.fin = true ∧ u.status = ST_OK) ∧
      ∀ x ∈ exportPackets (fld w 110 109) set, ∃ k ∈ e.net.pkts, k.typ = T_LWORD ∧ k.dep = wep ∧ k.dcl = fld w 100 98 ∧
        k.mcg = fld w 97 86 ∧ k.data = x.2 ∧ k.addr = ((q.ireg (fld w 85 82)).toNat + x.1) % 2 ^ 52)

/-- DSTART gives a free engine behind an empty control queue its descriptor, and waits in the queue behind a busy one; DSTOP
stops an engine, at once with DRAIN 0 or with nothing outstanding, and leaves one that is not at work. -/
def Obligations.DraftCommandsComplete : Prop :=
  ∀ (s : State) (p : Nat) (w : Cmd), s.dev.obeys = true → s.dev.ready p w → s.dev.upsets = [] →
    (∀ u ∈ (s.dev.cl p).units, u.unit = .draft → u.started = true) →
    let d := s.dev
    let c := d.cl p
    let q := c.seq
    let n := fld w 111 110
    let a := (q.ireg (fld w 109 106)).toNat
    let ws := (List.range 16).map fun i => d.word64 (csKey p (a + 8 * i))
    let free := (c.eng n).st = .idle ∨ (c.eng n).st = .done ∨ (c.eng n).st = .stopped
    (opcOf w = 0x30 → free → d.descFault p a ws (d.poisoned (csKey p a) 128) = none → Completes (.dstart p w) s fun e =>
      (e.cl p).seq = q.next ∧ e.mem = d.mem ∧ ((e.cl p).eng n).desc = ws ∧ ((e.cl p).eng n).descOff = a ∧
      (((e.cl p).eng n).st = .run ∨ ((e.cl p).eng n).st = .full) ∧ ((e.cl p).eng n).step = d.stepOf (d.partEff p) ∧
      ∃ u ∈ (e.cl p).units, u.id = c.nextId ∧ u.w = w ∧ u.fin = true) ∧
    (opcOf w = 0x30 → ¬ free → Completes (.dstart p w) s fun e =>
      (e.cl p).seq = q.next ∧ (e.cl p).dft = c.dft ∧ e.mem = d.mem ∧ e.regs = d.regs ∧ e.net = d.net ∧
      ∃ u ∈ (e.cl p).units, u.id = c.nextId ∧ u.unit = .draft ∧ u.w = w ∧ u.started = false) ∧
    (opcOf w = 0x31 → ¬ free → (bit w 109 = false ∨ d.dftLive p n = 0 ∧ (c.eng n).got = [] ∧ d.dftWouts p n = 0) → Completes (.dstop p w) s fun e =>
      (e.cl p).seq = q.next ∧ ((e.cl p).eng n).st = .stopped ∧ ((e.cl p).eng n).desc = (c.eng n).desc ∧ e.mem = d.mem ∧
      e.regs = d.regs ∧ ∀ m, m ≠ n → (e.cl p).eng m = c.eng m) ∧
    (opcOf w = 0x31 → free → Completes (.dstop p w) s fun e =>
      (e.cl p).seq = q.next ∧ (e.cl p).dft = c.dft ∧ e.mem = d.mem ∧ e.regs = d.regs)

/-- PUT, GET and ATOM open a transfer of their cluster with one packet for each 256 bytes; a PUT whose slot has not come waits
for it. NOTICE posts its record to the hank. The sequencer goes on. -/
def Obligations.TransferCommandsComplete : Prop :=
  ∀ (s : State) (p : Nat) (w : Cmd), s.dev.obeys = true → s.dev.ready p w → s.dev.upsets = [] →
    let d := s.dev
    let c := d.cl p
    let q := c.seq
    let o := (q.ireg (fld w 111 108)).toNat
    let a := (q.ireg (fld w 107 104)).toNat
    let n := fld w 103 84 + 1
    let j := d.partEff p
    let queued := fun (e : Dev) (args : List Nat) => (e.cl p).seq = q.next ∧ e.mem = d.mem ∧
      ∃ u ∈ (e.cl p).units, u.id = c.nextId ∧ u.unit = .net ∧ u.w = w ∧ u.args = args
    let sent := fun (e : Dev) (typ sub len : Nat) => ∃ x ∈ e.net.xfers, x.flow = d.net.nextFlow ∧ x.owner = .unit p c.nextId ∧
      x.typ = typ ∧ x.sub = sub ∧ x.part = j ∧ x.left.length = len
    let late := d.staggers a n = true ∧ d.gt < d.staggerAt p
    let rec_ := (List.range 4).map fun i => d.word64 (csKey p (o + 8 * i))
    let t0 := (d.word64 (csKey p (o + 8))).toNat
    let gt := d.gtAt (dieOf p)
    let live := c.notices.filter fun x => decide (gt < x.end_)
    (opcOf w = 0x60 → ¬ late → d.shadowing p = false → d.panelShadow j = false → Completes (.put p w) s fun e =>
      queued e [o, a, n, q.slot (fld w 83 78)] ∧ sent e T_WR 0 (cdiv n 256)) ∧
    (opcOf w = 0x60 → late → Completes (.put p w) s fun e =>
      queued e [o, a, n, q.slot (fld w 83 78)] ∧ e.net = d.net ∧ (e.cl p).stag = c.stag ++ [(c.nextId, d.staggerAt p)]) ∧
    (opcOf w = 0x61 → Completes (.get p w) s fun e => queued e [o, a, n, q.slot (fld w 83 78)] ∧
      ∃ x ∈ e.net.xfers, x.flow = d.net.nextFlow ∧ x.owner = .unit p c.nextId ∧ x.typ = T_RD ∧ x.part = j ∧ x.land = some (csKey p o)) ∧
    (opcOf w = 0x62 → d.shadowing p = false → d.panelShadow j = false → Completes (.atom p w) s fun e =>
      queued e [o, a, if fld w 103 100 = 1 then (q.ireg (fld w 107 104 + 1)).toNat else 0, q.slot (fld w 99 94)] ∧
      sent e T_ATOM (fld w 103 100) 1 ∧ ∃ u ∈ (e.cl p).units, u.id = c.nextId ∧ u.wreg = some (fld w 107 104)) ∧
    (opcOf w = 0x70 → d.poisMap (csKey p o) 32 = [] → d.shadowing p = false → gt + 80000 ≤ t0 → t0 ≤ gt + 4000000000 →
      live.length < 4 → Completes (.notice p w) s fun e => (e.cl p).seq = q.next ∧ e.mem = d.mem ∧
      (e.cl p).notices = live ++ [⟨rec_⟩] ∧
      e.f (pgHNK (hankOf (dieOf p))) HNK_NOTICE_ACC = sat 32 (d.f (pgHNK (hankOf (dieOf p))) HNK_NOTICE_ACC + 1))

/-- SKOP sends its operation to the skein of its slot: with ASYNC it is complete, else the sequencer waits for it. BSK reads its
skein and waits. -/
def Obligations.SkeinCommandsComplete : Prop :=
  ∀ (s : State) (p : Nat) (w : Cmd), s.dev.obeys = true → s.dev.ready p w → s.dev.shadowing p = false →
    let d := s.dev
    let c := d.cl p
    let q := c.seq
    let opened := fun (e : Dev) (own : Own) (sop : Nat) => e.mem = d.mem ∧ e.regs = d.regs ∧ e.skn = d.skn ∧
      ∃ x ∈ e.net.xfers, x.flow = d.net.nextFlow ∧ x.owner = own ∧ x.typ = T_SKOP ∧ x.sub = sop ∧ x.part = d.partOf p ∧ x.left.length = 1
    let waits := fun (e : Dev) (k : UnitK) => (e.cl p).seq = { q with st := .wait, waitId := some c.nextId } ∧
      ∃ u ∈ (e.cl p).units, u.id = c.nextId ∧ u.unit = k ∧ u.w = w ∧ u.started = true
    (opcOf w = 0x08 → Completes (.bsk p w) s fun e => waits e .seq ∧ opened e (.unit p c.nextId) 0) ∧
    (opcOf w = 0x21 → bit w 32 = false → Completes (.skop p w) s fun e => waits e .net ∧ opened e (.unit p c.nextId) (fld w 111 108)) ∧
    (opcOf w = 0x21 → bit w 32 = true → Completes (.skop p w) s fun e =>
      (e.cl p).seq = q.next ∧ (e.cl p).units = c.units ∧ opened e (.hwAdd p none) (fld w 111 108))

/-- The ends of waits. SEQ_WAIT_END issues the command that was held, or returns to RUN; an issued vector command, an atomic and
a skein command that have reached their end leave the queue, with the register, the branch or the next PC that R59 and Table 2.10
give; the slot of a staggered PUT comes. -/
def Obligations.WaitsEndAsTheRulesSay : Prop :=
  ∀ (s : State) (p : Nat), s.dev.obeys = true → p < 896 →
    let d := s.dev
    let c := d.cl p
    let q := c.seq
    (q.held = none → q.st = .wait → q.waitId = none → Completes (.seqWaitEnd p) s fun e =>
      (e.cl p).seq = { q with st := .run } ∧ (e.cl p).park = none ∧ (e.cl p).gatedAt = none ∧ e.mem = d.mem ∧ e.net = d.net) ∧
    (∀ w, q.held = some w → (q.st = .wait ∨ q.st = .run) → c.holds w = false → opcOf w = 0x00 → fld w 118 0 = 0 →
      Completes (.seqWaitEnd p) s fun e =>
        (e.cl p).seq = { q with st := .run, held := none }.next ∧ e.mem = d.mem ∧ e.regs = d.regs ∧ e.net = d.net) ∧
    (∀ id u, d.unit p id = some u → d.atEnd p u = true → u.orphan = false → (∀ v ∈ c.units, v.unit ≠ .tensor) → sigOf u.w = false →
      (u.unit = .vector → opcOf u.w = 0x52 → Completes (.unitCommandComplete p id) s fun e =>
        (e.cl p).units = c.units.filter (fun v => v.id ≠ u.id) ∧ (e.cl p).seq = q ∧ e.mem = d.mem ∧ e.net = d.net) ∧
      (u.unit = .net → opcOf u.w = 0x62 → u.status = ST_OK → d.shadowing p = false → Completes (.unitCommandComplete p id) s fun e =>
        (e.cl p).units = c.units.filter (fun v => v.id ≠ u.id) ∧
        (e.cl p).seq = q.setIreg (fld u.w 107 104) (BitVec.ofNat 64 u.val) ∧ e.mem = d.mem) ∧
      (u.unit = .net → opcOf u.w = 0x21 → u.status = ST_OK → d.shadowing p = false → q.waitId = some u.id →
        Completes (.unitCommandComplete p id) s fun e => (e.cl p).units = c.units.filter (fun v => v.id ≠ u.id) ∧
          (e.cl p).seq = ({ (if fld u.w 111 108 = 0 then q.setIreg (fld u.w 101 98) (BitVec.ofNat 64 u.val) else q) with
            waitId := none }).next ∧ e.mem = d.mem) ∧
      (u.unit = .seq → opcOf u.w = 0x08 → u.status = ST_OK → d.shadowing p = false → q.waitId = some u.id →
        Completes (.unitCommandComplete p id) s fun e =>
          let hit := fld u.w 111 109 = 0 ∧ u.val % 2 ^ 48 = u.args.getD 0 0 ∨ fld u.w 111 109 = 1 ∧ u.val % 2 ^ 48 ≠ u.args.getD 0 0 ∨
            fld u.w 111 109 = 4 ∧ u.val % 2 ^ 48 < u.args.getD 0 0 ∨ fld u.w 111 109 = 5 ∧ u.args.getD 0 0 ≤ u.val % 2 ^ 48
          (hit → (e.cl p).seq = { q with waitId := none }.branch (sgn 16 (fld u.w 98 83))) ∧
          ((fld u.w 111 109 = 0 ∨ fld u.w 111 109 = 1 ∨ fld u.w 111 109 = 4 ∨ fld u.w 111 109 = 5) → ¬ hit →
            (e.cl p).seq = { q with waitId := none }.next))) ∧
    (∀ id x u, c.stag.find? (fun y => y.1 = id) = some x → x.2 ≤ d.gt → d.unit p id = some u → d.upsets = [] →
      d.shadowing p = false → d.panelShadow (d.partEff p) = false → Completes (.staggerRelease p id) s fun e =>
        (e.cl p).stag = c.stag.filter (fun y => y.1 ≠ id) ∧ (e.cl p).seq = q ∧ e.mem = d.mem ∧
        ∃ t ∈ e.net.xfers, t.owner = .unit p id ∧ t.typ = T_WR)

/-- A pass that has read its operands and is not to be retried ends: its set holds the result, and its command completes with OK,
RETRIED or POISONED. An overflow that may be retried begins the next attempt with its window base raised. A slot is consumed
by the pass that reads it, and RSK has its ADD unless the slot is held for a ply check; a slot that will never be filled reads
poisoned. -/
def Obligations.TensorPassEventsComplete : Prop :=
  ∀ (s : State) (p : Nat) (x : Pass), s.dev.obeys = true → p < 896 → (s.dev.cl p).pass = some x → s.dev.upsets = [] →
    let d := s.dev
    let c := d.cl p
    (∀ errs u, x.full = true → ¬ (x.overflow = true ∧ x.mayRetry = true) → d.unit p x.id = some u →
      (∀ v ∈ c.units, v.unit = .tensor → v.started = true) → Completes (.tensorPassEnd p errs) s fun e =>
        (e.cl p).pass = none ∧ (e.cl p).acc x.set = x.result errs x.overflow ∧ e.mem = d.mem ∧ (e.cl p).seq = c.seq ∧
        ∃ v ∈ (e.cl p).units, v.id = x.id ∧ v.w = u.w ∧ v.fin = true ∧
          v.status = if x.a.pois || x.b.pois then ST_POISONED else if 0 < x.tries then ST_RETRIED else ST_OK) ∧
    (x.overflow = true → x.mayRetry = true → Completes (.tensorOverflowRetry p) s fun e => ∃ y,
      (e.cl p).pass = some y ∧ y.id = x.id ∧ y.set = x.set ∧ y.k = x.k ∧ y.m = x.m ∧ y.n = x.n ∧ y.tries = x.tries + 1 ∧
      (x.wauto = false → y.base = x.base + x.shift) ∧ (e.cl p).acc x.set = { l := y.base, rtry := x.tries + 1, wrapped := (c.acc x.set).wrapped } ∧
      e.mem = d.mem ∧ (e.cl p).units = c.units) ∧
    (∀ n, n < 4 → x.a.ring = some n → x.b.ring ≠ some n → x.a.slotsLeft ≠ 0 →
      let g := c.eng n
      let from_ := csKey p (g.rbase + g.consumed % g.depth * g.slotb)
      (g.consumed < d.fskGrowth p g → g.consumed < g.signalled → Completes (.tensorSlotConsumed p n) s fun e => ∃ y,
        (e.cl p).pass = some y ∧ y.b = x.b ∧ y.a.slotsLeft = x.a.slotsLeft - 1 ∧ y.a.took = x.a.took + 1 ∧
        y.a.el = x.a.el ++ d.bytes from_ (g.kt * g.lanes * fmtBits g.fmt / 8) ∧
        (e.cl p).eng n = { g with consumed := g.consumed + 1 } ∧ e.mem = d.mem ∧
        (x.held = false → d.shadowing p = false → ∃ t ∈ e.net.xfers, t.owner = .hwAdd p (some n) ∧ t.typ = T_SKOP)) ∧
      ((g.st = .done ∨ g.st = .stopped ∨ g.st = .idle) → g.signalled ≤ g.consumed → Completes (.tensorSlotConsumed p n) s fun e =>
        ∃ y, (e.cl p).pass = some y ∧ y.b = x.b ∧ y.a.slotsLeft = 0 ∧ y.a.pois = true ∧ e.mem = d.mem ∧ e.net = d.net))

/-- A ply ticket that has come to the mailbox of the cluster it was sent to joins its queue and is answered; the oldest one is begun
between passes, with an accumulator set that nothing still reads, and the slots of its operands are read; once both are there the pass
leaves its set, and its digest is sent; the primary that gets an equal digest closes the record and releases the slots; a second digest that
differs from its own and equals the partner's has the step's abort requested; a ticket without answer is reissued. -/
def Obligations.PlyEventsComplete : Prop :=
  ∀ (s : State) (p pri id : Nat) (r : PlyRec), s.dev.obeys = true → p < 896 → pri < 896 → s.dev.plyOf pri id = some r →
    let d := s.dev
    let c := d.cl p
    let taken := fun (x : Nat) (f : List Byte → Bool) (q : Pkt) =>
      d.net.pkts.find? (fun q => q.loc = .dst (dieOf x) (cOf x) && mailbox q && f q.data) = some q ∧ (d.cl x).fenced = false ∧
        d.pstate x ≠ PS_OFF ∧ d.pstate x ≠ PS_RETIRED ∧ d.pstate x ≠ PS_DISABLED
    (∀ q, taken p (fun bs => bs = ticketMail pri id) q → r.sent = true → r.target = p → q.spanel = d.self →
      d.draining (dieOf p) = false → Completes (.plyTicketArrive p pri id) s fun e =>
        (e.cl p).tickets = c.tickets ++ [{ pri := pri, id := id }] ∧ (e.cl p).gatedAt = none ∧
        (∀ x ∈ (e.cl pri).plys, x.id = id → x.sent = false) ∧ e.mem = d.mem ∧
        ∃ k ∈ e.net.pkts, k.typ = T_WRACK ∧ k.status = ST_OK ∧ k.flow = q.flow ∧ k.dep = q.sep) ∧
    (∀ t rest set, c.tickets = t :: rest → t.pri = pri → t.id = id → c.plyFree = true → c.plySet = some set →
      Completes (.plyPassRun p) s fun e =>
        (e.cl p).tickets = { t with ran := true, set := set } :: rest ∧ e.mem = d.mem ∧ e.regs = d.regs ∧
        ∀ side, side < 2 → ∃ x ∈ e.net.xfers, x.owner = .plyRead p pri id side ∧ x.typ = T_RD ∧ x.part = 15) ∧
    (∀ t errs, c.tickets.find? (·.ran) = some t → t.pri = pri → t.id = id → 2 ≤ t.got.length →
      (∀ v ∈ c.units, v.unit = .tensor → v.started = true) → Completes (.plyPassEnd p errs false) s fun e =>
        (e.cl p).acc t.set = (r.pass t).result errs (r.pass t).overflow ∧ (e.cl p).units = c.units ∧ e.mem = d.mem ∧
        (e.cl p).tickets = c.tickets.filter (fun u => !(u.pri = pri && u.id = id)) ∧
        (∃ x ∈ e.net.xfers, x.owner = .digest p ∧ x.typ = T_WR ∧ x.part = 15) ∧
        e.f (pgCLU p) CLU_PLYCNT_DUP = (d.f (pgCLU p) CLU_PLYCNT_DUP + 1) % 2 ^ 32) ∧
    (∀ q x, taken pri (fun bs => decide (leNat bs % 2 ^ 128 = 2 + 2 ^ 8 * p + 2 ^ 64 * (id % 2 ^ 64))) q →
      x = BitVec.ofNat 128 (leNat q.data / 2 ^ 128) → r.target = p → r.sent = false →
      (r.toRef = false → x = r.d1 → r.flagged = false → r.attrib = none → Completes (.plyDigestArrive pri id p) s fun e =>
        (e.cl pri).plys = (d.cl pri).plys.filter (fun y => y.id ≠ r.id) ∧ e.mem = d.mem ∧ e.regs = d.regs) ∧
      (r.toRef = true → x ≠ r.d1 → some x = r.d2 → r.attrib = none → d.quietScore U_CLUSTER pri (d.weight 0) →
        Completes (.plyDigestArrive pri id p) s fun e =>
          (e.cl pri).plys = (d.cl pri).plys.filter (fun y => y.id ≠ r.id) ∧ e.mem = d.mem ∧
          e.fb (pgPART (d.partOf pri)) PART_PLYSTAT_ABORTREQ = true ∧
          bit (e.reg (pgPART (d.partOf pri) + 0x20)) EV_PART_PLYABORT = true ∧
          e.f (pgCLU pri) CLU_PLYERR_WRONG = sat 16 (d.f (pgCLU pri) CLU_PLYERR_WRONG + 1))) ∧
    (let d1 := d.mapClu fun c => { c with tickets := c.tickets.filter fun t => !(t.pri = pri && t.id = r.id) }
     let ex := plyX pri { r with xd := r.xd ++ [dieOf r.target] } r.toRef
     r.id = id → r.due ≤ d.gt → d.fb (pgPART (d.partOf pri)) PART_STEP_SUSPD = false → r.reissues < 2 →
      ∀ b, d1.pick r.step r.tile (d.lcOf pri) (d.partOf pri) (if r.toRef then 2 else 1) ex.1 ex.2 = some b →
        Completes (.plyTicketTimeout pri id) s fun e => e.mem = d.mem ∧ e.regs = d.regs ∧ (∃ y ∈ (e.cl pri).plys,
          y.id = id ∧ y.reissues = r.reissues + 1 ∧ y.target = b ∧ y.sent = true ∧ y.due = d.gt + d.plyTmo (d.partOf pri)) ∧
          ∃ x ∈ e.net.xfers, x.owner = .ticket pri id b ∧ x.typ = T_WR ∧ x.part = 15)

/-- A queued descriptor is taken by its engine once that is free; of the lines that were read, the index entry is kept and a piece of the
runs is written into its slot; where RSK's growth gives a FULL engine room, it runs again and output that waited is written; an
acknowledged chunk is signalled on FSK; a walk with nothing outstanding enters DONE. -/
def Obligations.DraftEventsComplete : Prop :=
  ∀ (s : State) (p n : Nat), s.dev.obeys = true → p < 896 → n < 4 → s.dev.upsets = [] →
    let d := s.dev
    let c := d.cl p
    let g := c.eng n
    (∀ u, c.units.filter (fun v => v.unit = .draft && !v.started) = [u] → opcOf u.w = 0x30 → fld u.w 111 110 = n →
      d.dftFree p n = true →
      let a := u.args.getD 0 0
      let ws := (List.range 16).map fun i => d.word64 (csKey p (a + 8 * i))
      d.descFault p a ws (d.poisoned (csKey p a) 128) = none → Completes (.draftDescAccept p n) s fun e =>
        ((e.cl p).eng n).desc = ws ∧ ((e.cl p).eng n).descOff = a ∧ (((e.cl p).eng n).st = .run ∨ ((e.cl p).eng n).st = .full) ∧
        e.mem = d.mem ∧ (e.cl p).seq = c.seq ∧ ∃ v ∈ (e.cl p).units, v.id = u.id ∧ v.fin = true ∧ v.status = ST_OK) ∧
    (∀ ix q x e c' k, d.net.pkts[ix]? = some q → q.loc = .dst e c' → q.vc = 1 → q.status = ST_OK → d.xferOf q = some x →
      x.absorbed = false → x.bad = none → x.land = none → q.sq = 0 → x.left.filter (fun l => l.1 ≠ q.sq) = [] →
      (x.owner = .dftIdx p n k → Completes (.draftReadResponse ix) s fun e =>
        SMap.get (⟨[], []⟩ : Got) ((e.cl p).eng n).idx k =
          lineBytes (g.idxAddr (k * (List.range g.gdim).foldl (fun a m => a * g.count m) 1)) 4 q.data []) ∧
      (∀ a, x.owner = .dftRead p n k → g.feed = true → g.xpose = false → g.obuf = [] → q.pois = [] → g.addrAt k = some a →
        let bs := slice q.data (a % 64) (g.pieceLen k)
        0 < bs.length → k % g.slotBytes + bs.length ≤ g.slotBytes → d.plainStore p (g.placeAt k) bs →
        Completes (.draftReadResponse ix) s fun e =>
          e.mem = memWrite d.mem (csKey p (g.placeAt k)) bs ∧ ((e.cl p).eng n).desc = g.desc)) ∧
    (g.st = .full → d.dftRoom p g = true → Completes (.draftRelease p n) s fun e =>
      ((e.cl p).eng n).desc = g.desc ∧ (e.cl p).seq = c.seq ∧
      (g.obuf = [] → ((e.cl p).eng n).st = .run ∧ e.mem = d.mem) ∧
      (∀ h t, g.obuf = h :: t → ((e.cl p).eng n).obuf.length ≤ t.length)) ∧
    (g.feed = false → g.desc ≠ [] → g.chlog2 ≠ 0 → g.signalled < g.slots → d.chunkDone p n g.signalled = true →
      (g.st = .run ∨ g.st = .full ∨ g.st = .suspended ∨ g.st = .stopped) → Completes (.draftChunkAcked p n) s fun e =>
        (e.cl p).eng n = { g with signalled := g.signalled + 1 } ∧ e.mem = d.mem ∧ e.regs = d.regs ∧
        (d.shadowing p = false → ∃ t ∈ e.net.xfers, t.owner = .hwAdd p (some n) ∧ t.typ = T_SKOP)) ∧
    ((g.st = .run ∨ g.st = .full) → g.stopping = false → g.rewinding = false → g.desc ≠ [] → g.inLen ≤ g.done → g.obuf = [] →
      d.dftLive p n = 0 → d.dftWouts p n = 0 →
      (g.feed = true ∧ g.slots + g.sofs ≤ g.signalled ∨ g.feed = false ∧ (g.chlog2 = 0 ∨ g.slots ≤ g.signalled)) →
      Completes (.draftWalkEnd p n) s fun e => ((e.cl p).eng n).st = .done ∧ ((e.cl p).eng n).desc = g.desc ∧ e.mem = d.mem ∧
        e.regs = d.regs ∧ (g.fd 0 51 51 ≠ 1 → e.net = d.net))

/-- The patrol scrub finds nothing and changes nothing, corrects and counts a single-bit upset, and counts and poisons the word
of a double-bit one. -/
def Obligations.PatrolScrubCorrectsAndPoisons : Prop :=
  ∀ (s : State) (p first count i : Nat), s.dev.obeys = true → p < 896 → s.dev.upsets = [] → first ≤ i → i < first + count →
    i < 3 * 2 ^ 20 →
    let d := s.dev
    let pg := pgCLU p
    Answers (.cstPatrolScrub p first count []) s d ∧
    (d.quietScore U_CLUSTER p (d.weight 3) → Completes (.cstPatrolScrub p first count [(i, false)]) s fun e =>
      e.mem = d.mem ∧ e.upsets = [] ∧ e.pois = d.pois ∧ e.f pg CLU_CST_ECC_CE = sat 32 (d.f pg CLU_CST_ECC_CE + 1) ∧
      e.f pg CLU_CST_ECC_UE = d.f pg CLU_CST_ECC_UE ∧ bit (e.reg (pg + 0x20)) EV_CST_CE = true) ∧
    (d.quietScore U_CLUSTER p (d.weight 4) → Completes (.cstPatrolScrub p first count [(i, true)]) s fun e =>
      e.mem = d.mem ∧ e.upsets = [] ∧ e.isPois (csKey p (8 * i)) = true ∧
      e.f pg CLU_CST_ECC_UE = sat 16 (d.f pg CLU_CST_ECC_UE + 1) ∧ e.f pg CLU_CST_ECC_CE = d.f pg CLU_CST_ECC_CE ∧
      bit (e.reg (pg + 0x20)) EV_CST_UE = true)

/-- A packet's next hop, where it is its turn (R128): onto the next router or link of its path, off a link, onto or off the optical layer,
into the fabric, or out at its destination, where it waits to be served. A combining slot that has been open for 50 µs goes on as a partial sum. What an absent link's
partner accepted goes on from there; with the partner off, a request ends BROKEN. -/
def Obligations.PacketEventsComplete : Prop :=
  ∀ (s : State) (ix : Nat), s.dev.obeys = true →
    let d := s.dev
    let goes := fun (q : Pkt) (l : Loc) => Completes (.packetHop ix) s fun e =>
      e.net.pkts = dropAt d.net.pkts ix ++ [{ q with loc := l, mdone := [] }] ∧ e.net.xfers = d.net.xfers ∧ e.mem = d.mem ∧
      e.regs = d.regs ∧ e.clu = d.clu
    (∀ q, d.net.pkts[ix]? = some q → q.typ ≠ 0 → q.bad = false → q.mc = false →
      (∀ e c inp, q.loc = .router e c inp → q.opt = false → q.dep < 112 → d.combines e c inp q = none →
        ((e, c) = (q.dep, q.dcl) → q.typ ≠ T_RD → q.typ ≠ T_WR → q.typ ≠ T_MWR → q.typ ≠ T_LWORD → d.winner q.loc 0 = some ix →
          goes q (.dst e c)) ∧
        (let port := xyPort (meshX e c) (meshY e c) (meshX q.dep q.dcl) (meshY q.dep q.dcl)
         ∀ l, (e, c) ≠ (q.dep, q.dcl) → d.behind e c port = some l → d.winner q.loc port = some ix → goes q l)) ∧
      (∀ n fwd, q.loc = .link n fwd → d.linkState n = 6 → d.linkUp n = true →
        d.heldOff (linkFar n fwd) (q.chan (linkFar n fwd)) = false → goes q (linkFar n fwd)) ∧
      (∀ k inp, q.loc = .iod k inp → q.dep = 168 + k → q.dpanel = d.self → d.winner q.loc 0 = some ix → goes q (.dst (168 + k) 0)) ∧
      (∀ a b, q.loc = .rx a b → d.heldOff (optDest b q) (q.chan (optDest b q)) = false → goes q (optDest b q)) ∧
      (∀ p, q.loc = .fab p → d.f (pgTUB (p + 1)) TUB_PSTATE_STATE = 5 → d.portLit p = true → Completes (.packetHop ix) s fun e =>
        e.net.pkts = dropAt d.net.pkts ix ∧ e.fab.sent = SMap.ins d.fab.sent p (q.header, q.prefix) ∧ e.mem = d.mem ∧ e.regs = d.regs) ∧
      (∀ a c pl, q.loc = .ep a c → nextPlane (d.planeList a q.dep) (SMap.get 0 d.opt.rot (dirKey a q.dep)) = some pl →
        d.heldOff (.rx a q.dep) q.vc = false →
        let n := SMap.get 0 d.opt.next (dirKey a q.dep)
        Completes (.packetHop ix) s fun e =>
          e.net.pkts = dropAt d.net.pkts ix ++ [{ q with loc := .opt a q.dep n }] ∧ e.mem = d.mem ∧ e.regs = d.regs ∧
          e.opt.replay = d.opt.replay ++ [{ a := a, b := q.dep, lseq := n, plane := pl, at_ := d.gt, pkt := q }] ∧
          SMap.get 0 e.opt.next (dirKey a q.dep) = n + 1)) ∧
    (∀ x, d.net.comb[ix]? = some x → x.opened + 200000 ≤ d.gt → Completes (.combSlotFlush ix) s fun e =>
      e.net.comb = d.net.comb.filter (fun y => y ≠ x) ∧ e.mem = d.mem ∧ e.caused (pgRTR x.d) EV_RTR_COMBFLUSH ∧
      let bs := (x.words.map LWord.bytes).flatten
      { x.hdr with loc := .router x.d x.c 8, addr := x.addr, len := bs.length, data := bs, pois := [], sep := x.d, scl := x.c, mdone := [] }
        ∈ e.net.pkts) ∧
    (∀ n fwd accepted q, n < Config.allLinks → d.linkUp n = false → d.net.pkts.filter (fun q => q.loc = .link n fwd) = [q] →
      (d.present (linkFar n fwd).die = false → q.isReq = true → q.spanel = d.self →
        Completes (.dabinLinkLossReplay n fwd accepted) s fun e =>
          e.net.pkts = d.net.pkts.filter (fun q => q.loc ≠ .link n fwd) ++ [srcReply q.sep q.scl q.flow q.sq ST_BROKEN q.typ] ∧
          e.mem = d.mem ∧ e.regs = d.regs) ∧
      (d.present (linkFar n fwd).die = true → 0 < accepted → Completes (.dabinLinkLossReplay n fwd accepted) s fun e =>
        e.net.pkts = d.net.pkts.filter (fun q => q.loc ≠ .link n fwd) ++ [{ q with loc := linkFar n fwd, mdone := [] }] ∧ e.mem = d.mem ∧
        e.regs = d.regs))

/-- A response completes its SEQ: the transfer stays with the SEQs that are left, or ends, and its owner has its status and value;
data lands where the requester put it; a response nobody waits for is discarded and counted. A transfer 200 µs after its
last packet ends with TIMEOUT, one toward an absent endpoint with ABSENT or BROKEN. -/
def Obligations.TransferEventsComplete : Prop :=
  ∀ (s : State) (ix : Nat), s.dev.obeys = true →
    let d := s.dev
    let rest := fun (x : Xfer) (sq : Nat) => if x.typ = T_MWR then x.left.eraseP (fun l => l.1 = sq) else x.left.filter fun l => l.1 ≠ sq
    let ends := fun (c : Instr) (x : Xfer) (p id st : Nat) => Completes c s fun e =>
      e.net.xfers = d.net.xfers.filter (fun y => y.flow ≠ x.flow) ∧ e.mem = d.mem ∧ (e.cl p).seq = (d.cl p).seq ∧
      ∃ v ∈ (e.cl p).units, v.id = id ∧ v.status = st
    (∀ q a c, d.net.pkts[ix]? = some q → q.loc = .dst a c → q.vc = 1 → q.typ ≠ T_MGRSP → d.forDraft q = false →
      (∀ x, d.xferOf q = some x → rest x q.sq ≠ [] → x.land = none → Completes (.responseArrival ix) s fun e =>
        e.mem = d.mem ∧ e.net.pkts = dropAt d.net.pkts ix ∧ ∃ y ∈ e.net.xfers, y.flow = x.flow ∧ y.owner = x.owner ∧
          y.left = rest x q.sq ∧ y.bad = badOf x.bad q.sq q.status) ∧
      (∀ x p o, d.xferOf q = some x → rest x q.sq ≠ [] → x.land = some (csKey p o) → x.typ = T_RD →
        q.status = ST_OK → x.absorbed = false → q.pois = [] → p < 896 → o + 256 * q.sq + q.data.length ≤ STORE_END →
        d.plainStore p (o + 256 * q.sq) q.data → Completes (.responseArrival ix) s fun e =>
          e.mem = memWrite d.mem (csKey p (o + 256 * q.sq)) q.data) ∧
      (∀ x p id u, d.xferOf q = some x → rest x q.sq = [] → x.owner = .unit p id → x.absorbed = false →
        x.land = none → x.bad = none → q.status = ST_OK → d.unit p id = some u →
        ends (.responseArrival ix) x p id u.status) ∧
      (d.xferOf q = none → q.typ ≠ 0 → Completes (.responseArrival ix) s fun e =>
        e.net.pkts = dropAt d.net.pkts ix ∧ e.net.xfers = d.net.xfers ∧ e.mem = d.mem ∧ e.caused (pgRTR a) EV_RTR_STALE)) ∧
    (∀ x p id u sq b, d.net.xfers[ix]? = some x → d.net.xfers.find? (fun y => y.flow = x.flow) = some x → x.owner = .unit p id →
      x.absorbed = false → x.bad = none → x.left = [(sq, b)] → d.unit p id = some u → u.status = ST_OK →
      (x.timed = true → x.fabric = false → x.since + 800000 ≤ d.gt → d.choose x.ep b (d.inje x.ep) ≠ .optical →
        ends (.transferTimeout ix) x p id ST_TIMEOUT) ∧
      (b < Config.endpoints → d.present b = false → d.net.xfers.filter (fun y => y.left.any fun l => l.2 = b) = [x] →
        ends (.endpointAbsentCleanup b) x p id (if x.typ = T_RD ∨ x.typ = T_SKOP ∧ x.sub = SOP_READ then ST_ABSENT else ST_BROKEN)))

/-- LIVE gains the paths that cross an absent die or link, or is recomputed; the host writes and reads the words of the inactive
bank, where a combining entry with more than four inputs is stored invalid; a telemetry snapshot copies the counts of a page; the
distance table takes its entries while an update runs. -/
def Obligations.RouteTableCommandsComplete : Prop :=
  ∀ (s : State) (port x : Nat) (v : Word), s.dev.obeys = true → x < Config.endpoints → s.dev.present x = true →
    let d := s.dev
    let row := d.f (pgRTR x) RTR_LIVE_LO_LIVE + 2 ^ 64 * d.f (pgRTR x) RTR_LIVE_HI_LIVE
    let live := fun (e : Dev) => e.f (pgRTR x) RTR_LIVE_LO_LIVE + 2 ^ 64 * e.f (pgRTR x) RTR_LIVE_HI_LIVE
    let sel := selOf (d.reg (pgRTR x + 0x88))
    let router := if sel.2.2.1 = 2 ∨ sel.2.2.1 = 4 then sel.2.2.2.1 else 0
    let step := fun (e : Dev) => e.f (pgRTR x) RTR_TBL_SEL_INDEX = (sel.2.2.2.2 + if sel.1 then 1 else 0) % 2 ^ 13
    let put := if sel.2.2.1 = 4 then (combFix v).1 else v
    (x < 112 ∨ isIOD x = true → Completes .liveBlockUpdate s fun e => live e = row ||| d.liveRow x ∧ e.mem = d.mem ∧ e.net = d.net) ∧
    (d.owner port → x < 112 ∨ isIOD x = true → Completes (.lbscan port) s fun e => live e = d.liveRow x ∧ e.mem = d.mem ∧ e.net = d.net) ∧
    (d.owner port → sel.2.2.2.2 < tblWords x sel.2.2.1 → sel.2.1 ≠ d.inje x → d.f pgWHL WHL_RTEPOCH_STATE = 0 →
      Completes (.rtrTblDataWrite port x v) s fun e => e.tblWord sel.2.1 x sel.2.2.1 router sel.2.2.2.2 = put ∧ step e ∧
        (∀ k, k ≠ tblKey sel.2.1 x sel.2.2.1 router sel.2.2.2.2 → SMap.get 0 e.net.tbl k = SMap.get 0 d.net.tbl k) ∧
        e.mem = d.mem ∧ e.net.pkts = d.net.pkts) ∧
    (d.owner port → sel.2.2.2.2 < tblWords x sel.2.2.1 → sel.2.1 = d.inje x → Completes (.rtrTblDataWrite port x v) s fun e =>
      e.net = d.net ∧ e.caused (pgRTR x) EV_RTR_TBLERR ∧ step e ∧ e.mem = d.mem) ∧
    (d.hostUp port = true → port < 2 → Completes (.rtrTblDataRead port x) s fun e =>
      (e.hp port).rdata = leBytes 8 (if tblWords x sel.2.2.1 ≤ sel.2.2.2.2 then 0 else
        d.tblWord sel.2.1 x sel.2.2.1 router sel.2.2.2.2).toNat ∧
      (e.hp port).rstat = 0 ∧ step e ∧ e.net = d.net ∧ e.mem = d.mem) ∧
    (d.owner port → Completes (.rtrBroadcastWrite port 0x88 v) s fun e =>
      selOf (e.reg (pgRTR x + 0x88)) = selOf v ∧ e.net = d.net ∧ e.mem = d.mem) ∧
    (d.owner port → sel.2.2.2.2 < tblWords x sel.2.2.1 → sel.2.1 ≠ d.inje x → d.f pgWHL WHL_RTEPOCH_STATE = 0 →
      Completes (.rtrBroadcastWrite port 0x90 v) s fun e => e.tblWord sel.2.1 x sel.2.2.1 router sel.2.2.2.2 = put ∧ step e ∧
        e.mem = d.mem) ∧
    (d.hostUp port = true → port < 2 → Completes (.rtrTselSnap port x v) s fun e => e.mem = d.mem ∧ e.net.tbl = d.net.tbl ∧
      ∀ i, i < 256 → let t := SMap.get ({} : Tel) d.net.tel (x * 256 + i)
        SMap.get (0, 0, 0, 0, 0) e.net.telSnap (x * 256 + i) = (t.pkts, t.bytes, d.telDepth x i, t.hwm, d.stallNow t)) ∧
    (∀ b, b < 186 → d.f (pgDIST 0) DIST_STAT_BUSY = 1 → Completes (.distUpdate (some (x, b))) s fun e => e.reg (distAddr x b) = d.distEntry x b ∧
      e.f (pgDIST 0) DIST_STAT_BUSY = 1 ∧ e = { d with regs := e.regs }) ∧
    (∀ b, b < 186 → d.f (pgDIST 0) DIST_STAT_BUSY = 1 → Completes (.distUpdate none) s fun e => e.reg (distAddr x b) = d.distEntry x b ∧
      e.f (pgDIST 0) DIST_STAT_BUSY = 0 ∧ e.caused (pgDIST 0) 0 ∧ e = { d with regs := e.regs })

/-- Epochs: a write of the epoch in use changes nothing, one during a flip sets ERR, and one that commits a valid generation starts
the flip; each die acknowledges the switch, the last acknowledgement begins the draining, and the drain sweep that finds no
packet of the old epoch ends the flip and, with it, a commit. -/
def Obligations.EpochCommandsComplete : Prop :=
  ∀ (s : State) (port x ep : Nat), s.dev.obeys = true → x < Config.endpoints → ep < 2 →
    let d := s.dev
    let st := d.f pgWHL WHL_RTEPOCH_STATE
    let cur := d.f pgWHL WHL_RTEPOCH_E
    (d.owner port → st ≠ 0 → Completes (.epochWrite port ep) s fun e => d.regsOnly e [pgWHL + 0x308] ∧
      e.f pgWHL WHL_RTEPOCH_ERR = 1 ∧ e.f pgWHL WHL_RTEPOCH_E = cur ∧ e.f pgWHL WHL_RTEPOCH_STATE = st) ∧
    (d.owner port → st = 0 → ep = cur → Answers (.epochWrite port ep) s d) ∧
    (d.owner port → ep ≠ cur → d.genBusy = false → 7 ≤ d.f pgWHL WHL_BOOT_BSTEP → d.genErr d.stagedGen d.xlateSame = 0 →
      (∀ p, p < 896 → d.pstate p ≠ PS_SPARE) → (∀ x ∈ d.slub.sc, x.2.prob = false) → Completes (.epochWrite port ep) s fun e =>
        e.f pgWHL WHL_RTEPOCH_E = ep ∧ e.f pgWHL WHL_RTEPOCH_OLD = cur ∧ e.f pgWHL WHL_RTEPOCH_STATE = 1 ∧
        e.f pgWHL WHL_RTEPOCH_ERR = 0 ∧ e.f pgWHL WHL_GENCTL_STATE = 1 ∧ e.net.flipLeft = d.net.present ∧
        e.gens.cur.num = d.gens.cur.num + 1 ∧ e.mem = d.mem) ∧
    (st = 1 → d.net.flipLeft.contains x = true → Completes (.epochSwitchAck x) s fun e =>
      e.f (pgRTR x) RTR_STATE_INJE = cur ∧ e.net.flipLeft = setDel d.net.flipLeft x ∧ e.net.pkts = d.net.pkts ∧ e.mem = d.mem ∧
      e.f pgWHL WHL_RTEPOCH_STATE = if setDel d.net.flipLeft x = [] then 2 else 1) ∧
    (st = 2 → d.present x = true → d.residue x (d.f pgWHL WHL_RTEPOCH_OLD) ≠ 0 → Completes .epochDrainSweep s fun e =>
      e.regs = d.regs ∧ e.net.pkts = d.net.pkts ∧ e.mem = d.mem ∧ 2 * x + d.f pgWHL WHL_RTEPOCH_OLD ∉ e.net.touch) ∧
    (st = 2 → (∀ y, y < Config.endpoints → d.present y = true → d.residue y (d.f pgWHL WHL_RTEPOCH_OLD) = 0) →
      d.gens.waiting = [] →
      (d.gens.job = none → Completes .epochDrainSweep s fun e => e.f pgWHL WHL_RTEPOCH_STATE = 0 ∧ e.mem = d.mem ∧
        e.f pgWHL WHL_RTEPOCH_FLIPS = (d.f pgWHL WHL_RTEPOCH_FLIPS + 1) % 2 ^ 32 ∧ e.caused pgWHL EV_RT_FLIPDONE ∧
        e.f (pgDIST 0) DIST_STAT_BUSY = 1) ∧
      (∀ old kind, d.gens.job = some (.commit old kind none) → Completes .epochDrainSweep s fun e =>
        e.f pgWHL WHL_RTEPOCH_STATE = 0 ∧ e.f pgWHL WHL_GENCTL_STATE = 0 ∧
        e.f pgWHL WHL_GENNUM_CUR = d.gens.cur.num % 2 ^ 32 ∧ e.f pgWHL WHL_GENNUM_PREV = old.num % 2 ^ 32 ∧
        e.gens.prev = some old ∧ e.gens.job = none ∧ e.caused pgWHL EV_GEN_COMMIT))

/-- Optical packets: one received clean and new enters its pair's receive buffer, a duplicate is discarded, a damaged or unacknowledged
one is sent again on the next plane; an acknowledgement releases its replay entry. -/
def Obligations.OpticalPacketEventsComplete : Prop :=
  ∀ (s : State) (ix a b n : Nat), s.dev.obeys = true →
    let d := s.dev
    let seen := SMap.get [] d.opt.rx (dirKey a b)
    let again := fun (c : Instr) => ∀ x pl, d.opt.replay.find? (fun y => y.a = a && y.b = b && y.lseq = n) = some x →
      (SMap.get ({} : ChanCnt) d.opt.cnt (dirKey a b * 16 + x.plane)).succ + 1 < 3 →
      nextPlane (d.planeList a b) (SMap.get 0 d.opt.rot (dirKey a b)) = some pl → Completes c s fun e =>
        e.mem = d.mem ∧ e.regs = d.regs ∧ { x with plane := pl, at_ := d.gt } ∈ e.opt.replay ∧
        e.opt.replay.length = d.opt.replay.length ∧ { x.pkt with loc := .opt a b n } ∈ e.net.pkts ∧
        SMap.get 0 e.opt.rot (dirKey a b) = (pl + 1) % 16 ∧
        (SMap.get ({} : ChanCnt) e.opt.cnt (dirKey a b * 16 + x.plane)).resend =
          sat 32 ((SMap.get ({} : ChanCnt) d.opt.cnt (dirKey a b * 16 + x.plane)).resend + 1)
    (∀ q, d.net.pkts[ix]? = some q → q.loc = .opt a b n → d.present b = true →
      again (.optPacketReceive ix false) ∧
      (seen.contains n = true → Completes (.optPacketReceive ix true) s fun e =>
        e.net.pkts = dropAt d.net.pkts ix ∧ e.opt = d.opt ∧ e.mem = d.mem ∧ e.regs = d.regs) ∧
      (seen.contains n = false → Completes (.optPacketReceive ix true) s fun e =>
        e.net.pkts = dropAt d.net.pkts ix ++ [{ q with loc := .rx a b, mdone := [] }] ∧ e.mem = d.mem ∧ e.regs = d.regs ∧
        ((∀ y ∈ seen, y < n + 2048) → n ∈ SMap.get [] e.opt.rx (dirKey a b)))) ∧
    (∀ x, d.opt.replay.find? (fun y => y.a = a && y.b = b && y.lseq = n) = some x → seen.contains n = true →
      Completes (.optAckReceive a b n) s fun e => e.mem = d.mem ∧ e.regs = d.regs ∧ e.net = d.net ∧
        e.opt.replay = d.opt.replay.filter (fun y => !(y.a = a && y.b = b && y.lseq = n)) ∧
        (SMap.get ({} : ChanCnt) e.opt.cnt (dirKey a b * 16 + x.plane)).succ = 0) ∧
    ((∀ x, d.opt.replay.find? (fun y => y.a = a && y.b = b && y.lseq = n) = some x → x.at_ + 1600 ≤ d.gt) →
      again (.optResendTimeout a b n))

/-- Channels and planes: a margin window counts, and classes its channel by the worse of its two directions; a POOR channel leaves service, a retuned one may return and
the fourth failure makes it DOWN; re-locks take planes out and bring them back in turn; a lost laser takes both its planes
out, and its restart ends in re-locks or in LASERBAD; calibration puts the endpoints into service. -/
def Obligations.OpticalServiceCommandsComplete : Prop :=
  ∀ (s : State) (port a b pl die x : Nat), s.dev.obeys = true → chanOk a b pl = true → die < 8 →
    let d := s.dev
    let c := d.chan a b pl
    let worse := fun cls => max (c.window a b cls).up (c.window a b cls).dn
    let key := pairKey a b
    let cst := d.f pgWHL WHL_OPTCTL_CSTATE
    let bad := d.f pgWHL WHL_OPTCTL_LASERBAD
    let live := c.cls < 3 ∧ d.opt.outPlanes.contains pl = false ∧ d.present a = true ∧ d.present b = true
    let cal := d.present x = true ∧ x < Config.endpoints ∧ d.f (pgOPT x) OPT_STATE_ESTATE = 1
    (∀ cls corr, live → c.cls < 2 → cls < 2 → worse cls < 2 → (worse cls = 1 → c.thinAt = d.gt / 4000000000 + 1) →
      Completes (.optMarginWindow a b pl cls corr 0) s fun e => e.chan a b pl = { c.window a b cls with cls := worse cls } ∧ e.mem = d.mem ∧ e.regs = d.regs ∧
        (SMap.get ({} : ChanCnt) e.opt.cnt (dirKey b a * 16 + pl)).corr =
          sat 40 ((SMap.get ({} : ChanCnt) d.opt.cnt (dirKey b a * 16 + pl)).corr + corr)) ∧
    (live → c.cls < 2 → worse 2 = 2 → d.quietScore U_PAIR key (d.weight 9) → Completes (.optMarginWindow a b pl 2 0 0) s fun e =>
      (e.chan a b pl).cls = 2 ∧ (e.chan a b pl).inSvc = false ∧ (e.chan a b pl).tuned = false ∧ e.mem = d.mem) ∧
    (live → c.cls = 2 → c.tuned = true → worse 0 = 0 → Completes (.optMarginWindow a b pl 0 0 0) s fun e =>
      e.chan a b pl = { c.window a b 0 with cls := 0, inSvc := true, fails := 0 } ∧ e.mem = d.mem ∧ e.net = d.net ∧
      d.regsOnly { d with regs := e.regs } [pgDIST 0 + 0x80] ∧ e.f (pgDIST 0) DIST_STAT_BUSY = 1) ∧
    (c.cls = 2 → c.tuned = false →
      (Completes (.optRetuneDone a b pl true) s fun e => e.chan a b pl = { c with tuned := true, fails := 0 } ∧ e.regs = d.regs ∧
        e.mem = d.mem ∧ e.net = d.net) ∧
      (c.fails < 3 → Completes (.optRetuneDone a b pl false) s fun e => e.chan a b pl = { c with fails := c.fails + 1 } ∧
        e.regs = d.regs ∧ e.mem = d.mem ∧ e.net = d.net) ∧
      (3 ≤ c.fails → d.quietScore U_PAIR key (d.weight 10) → Completes (.optRetuneDone a b pl false) s fun e =>
        (e.chan a b pl).cls = 3 ∧ (e.chan a b pl).inSvc = false ∧ e.caused (pgOPT a) EV_OPT_CHDOWN ∧
        e.caused (pgOPT b) EV_OPT_CHDOWN ∧ e.mem = d.mem)) ∧
    (∀ t, d.opt.relock = none → d.opt.queue = pl :: t → d.laserBad (pl / 2) = false → d.opt.restart.contains (pl / 2) = false →
      Completes .planeRelockStart s fun e => e.opt.relock = some pl ∧ e.opt.queue = t ∧ pl ∈ e.opt.outPlanes ∧ e.mem = d.mem) ∧
    (d.opt.relock = some pl → Completes (.planeRelockEnd pl []) s fun e => e.opt.relock = none ∧
      e.opt.outPlanes = setDel d.opt.outPlanes pl ∧ e.mem = d.mem ∧ e.net = d.net ∧
      (d.present a = true → e.caused (pgOPT a) EV_OPT_PLANE)) ∧
    (d.owner port → Completes (.rlreq port pl) s fun e => e.f pgWHL WHL_OPTCTL_RLPLANE = pl ∧ e.mem = d.mem ∧ e.net = d.net ∧
      e.opt.queue = if d.opt.queue.contains pl then d.opt.queue else d.opt.queue ++ [pl]) ∧
    (d.laserBad die = false → d.opt.restart.contains die = false → cst = 2 → Completes (.laserLockLoss die) s fun e =>
      e.opt.restart = d.opt.restart ++ [die] ∧ 2 * die ∈ e.opt.outPlanes ∧ 2 * die + 1 ∈ e.opt.outPlanes ∧ e.mem = d.mem) ∧
    (d.opt.restart.contains die = true →
      (Completes (.laserRestartDone die true) s fun e => e.opt.restart = d.opt.restart.filter (· ≠ die) ∧
        2 * die ∈ e.opt.queue ∧ 2 * die + 1 ∈ e.opt.queue ∧ e.regs = d.regs ∧ e.mem = d.mem ∧ e.net = d.net) ∧
      (Completes (.laserRestartDone die false) s fun e => e.opt.restart = d.opt.restart.filter (· ≠ die) ∧
        e.f pgWHL WHL_OPTCTL_LASERBAD = bad ||| 2 ^ die ∧ e.opt.queue = d.opt.queue ∧ e.mem = d.mem ∧ e.net = d.net)) ∧
    (d.owner port → 9 ≤ d.f pgWHL WHL_BOOT_BSTEP → cst = 0 → Completes (.calstart port) s fun e =>
      e.f pgWHL WHL_OPTCTL_CSTATE = 1 ∧ e.f pgWHL WHL_BOOT_ERRC = 0 ∧ e.mem = d.mem ∧ e.net = d.net ∧
      (d.present a = true → e.f (pgOPT a) OPT_STATE_ESTATE = 1)) ∧
    (cst = 1 → cal → Completes (.optCalDone [] [] []) s fun e => e.f pgWHL WHL_OPTCTL_CSTATE = 2 ∧ e.f pgWHL WHL_RTCTL_OPTRDY = 1 ∧
      e.f (pgOPT x) OPT_STATE_ESTATE = 2 ∧ x ∈ e.opt.cal ∧ e.mem = d.mem ∧ e.net = d.net) ∧
    (cst = 1 → cal → Completes (.optCalDone [0, 1, 2, 3, 4, 5, 6, 7] [] []) s fun e => e.f pgWHL WHL_OPTCTL_CSTATE = 3 ∧
      e.f pgWHL WHL_OPTCTL_LASERBAD = bad ||| 255 ∧ (∀ p, p < 16 → p ∈ e.opt.outPlanes) ∧
      e.f (pgOPT x) OPT_STATE_ESTATE = 0 ∧ e.opt.cal = d.opt.cal ∧ e.mem = d.mem ∧ e.net = d.net)

/-- Training of a Dabin or IOD link: each state that completes leads to the next, a timeout ends as Table 6.3 shows, and an accepted
capability exchange makes the link ACTIVE at the width and rate it has. -/
def Obligations.LinkTrainingCommandsComplete : Prop :=
  ∀ (s : State) (n : Nat) (bad : List Nat) (cap : Word), s.dev.obeys = true → n < Config.allLinks →
    let d := s.dev
    let pg := pgLink n
    let l := d.link n
    let st := d.linkState n
    let absent := fun (c : Instr) (cause : Nat) => Completes c s fun e => e.f pg DBL_STATE_STATE = 8 ∧
      e.f pg DBL_STATE_CAUSE = cause ∧ e.f pg DBL_STATE_WIDTH = 0 ∧ e.mem = d.mem ∧ e.net = d.net
    let at_ := fun (c : Instr) (nx : Nat) (P : Dev → Prop) => Completes c s fun e => e.f pg DBL_STATE_STATE = nx ∧ e.mem = d.mem ∧
      e.net = d.net ∧ P e
    let w := widthFor (min (goodLanes l.badF).length (goodLanes l.badR).length)
    let own := localCap s.fuse n
    let rate := capRate own cap
    (st = 1 → at_ (.dabinTrainStateDone n bad) 2 fun e => e.link n = l) ∧
    (st = 2 → at_ (.dabinTrainStateDone n bad) 3 fun e =>
      e.link n = { l with badF := lanesOf bad true, badR := lanesOf bad false } ∧
      e.f pg DBL_STATE_GOODF = 68 - (lanesOf bad true).length ∧ e.f pg DBL_STATE_GOODR = 68 - (lanesOf bad false).length) ∧
    (st = 3 → w ≠ 0 → at_ (.dabinTrainStateDone n bad) 4 fun e =>
      e.link n = { l with actF := (goodLanes l.badF).take w, actR := (goodLanes l.badR).take w }) ∧
    (st = 3 → w = 0 → absent (.dabinTrainStateDone n bad) 2) ∧
    (st = 4 → at_ (.dabinTrainStateDone n bad) 5 fun e => e.link n = l) ∧
    (st = 1 → absent (.dabinTrainTimeout n bad) 1) ∧ (st = 3 → absent (.dabinTrainTimeout n bad) 2) ∧
    (st = 4 → l.deskewed = false → at_ (.dabinTrainTimeout n bad) 2 fun e => e.link n = { l with deskewed := true }) ∧
    (st = 4 → l.deskewed = true → absent (.dabinTrainTimeout n bad) 2) ∧
    (st = 5 → absent (.dabinTrainTimeout n bad) ((capCause n own (d.reg (pg + 0x98))).getD 3)) ∧
    (st = 5 → ∀ c, capCause n own cap = some c → absent (.dabinCapExchange n cap) c) ∧
    (st = 5 → capCause n own cap = none → 16 ≤ l.actF.length * 2 ^ rate / 4 → at_ (.dabinCapExchange n cap) 6 fun e =>
      e.f pg DBL_STATE_WIDTH = widthCode l.actF.length ∧ e.f pg DBL_STATE_RATE = rate ∧ e.f pg DBL_STATE_CAUSE = 0 ∧
      e.reg (pg + 0x90) = own ∧ e.reg (pg + 0x98) = cap ∧ (n < 600 → e.caused (pgDBL n) EV_DBL_UP) ∧ e.link n = { l with lastW := l.actF.length })

/-- A link in service: refused frames are counted at both ends, the replay budget is checked by windows, a lane with too many
parity errors is swapped, RECAL ends; the host retrains, recalibrates and holds it; discovery trains every present link,
places the dies by the trained links and compares each placing with the fuse map. -/
def Obligations.LinkServiceCommandsComplete : Prop :=
  ∀ (s : State) (port n lane x : Nat) (fwd : Bool), s.dev.obeys = true → n < Config.allLinks →
    let d := s.dev
    let pg := pgLink n
    let l := d.link n
    let st := d.linkState n
    let same := fun (e : Dev) => e.mem = d.mem ∧ e.net = d.net
    let tx := if fwd then pg + 0xB8 else pg + 0xC0
    let rx := if fwd then pg + 0xC0 else pg + 0xB8
    let quiet := fun (w : Nat) => n < 600 → d.quietScore U_LINK n (d.weight w)
    let act := if fwd then l.actF else l.actR
    let bad := setIns (if fwd then l.badF else l.badR) lane
    let ready := fun (m : Nat) => d.fb (pgLink m) DBL_CTL_HOLD = false ∧ (d.link m).retired = false ∧ (d.link m).discBad = false ∧
      d.linkEnds m = true
    (∀ k, 0 < k → k ≤ 64 → d.linkUp n = true → Completes (.dabinFrameRefused n fwd k) s fun e => same e ∧
      fld (e.reg tx) 47 24 = sat 24 (fld (d.reg tx) 47 24 + k) ∧ fld (e.reg rx) 23 0 = sat 24 (fld (d.reg rx) 23 0 + 1) ∧
      e.link n = { l with replays := l.replays + k }) ∧
    (d.f pg DBL_CTL_RPLBUD = 0 ∨ l.replays ≤ d.f pg DBL_CTL_RPLBUD → Completes (.dabinBudgetWindow n) s fun e => same e ∧
      e.regs = d.regs ∧ e.link n = { l with replays := 0 }) ∧
    (d.f pg DBL_CTL_RPLBUD ≠ 0 → d.f pg DBL_CTL_RPLBUD < l.replays → quiet 6 → Completes (.dabinBudgetWindow n) s fun e => same e ∧
      e.f pg DBL_ERRCNT_BUDX = sat 16 (d.f pg DBL_ERRCNT_BUDX + 1) ∧ (n < 600 → e.caused (pgDBL n) EV_DBL_RPLBUD) ∧
      (e.link n).replays = 0) ∧
    (∀ errs y, lane < 68 → d.linkUp n = true → 16 ≤ errs → act.contains lane = true →
      (goodLanes bad).find? (fun z => !act.contains z) = some y → quiet 5 →
      Completes (.dabinLaneParityWindow n fwd lane errs) s fun e => same e ∧ e.f pg DBL_STATE_STATE = 7 ∧
        (n < 600 → e.caused (pgDBL n) EV_DBL_REPAIR) ∧ (if fwd then (e.link n).badF else (e.link n).badR) = bad ∧
        (if fwd then (e.link n).actF else (e.link n).actR) = act.map fun z => if z = lane then y else z) ∧
    (∀ good, st = 7 → Completes (.dabinRecalDone n good) s fun e => same e ∧ e.f pg DBL_STATE_STATE = 6 ∧ e.link n = l) ∧
    (∀ good, st = 6 → d.fb pg DBL_CTL_RECAL = true → Completes (.dabinRecalDone n good) s fun e => same e ∧
      e.f pg DBL_STATE_STATE = 6 ∧ e.f pg DBL_CTL_RECAL = 0 ∧
      (e.link n).badF = l.badF.filter (fun z => !(lanesOf good true).contains z) ∧
      (e.link n).badR = l.badR.filter (fun z => !(lanesOf good false).contains z)) ∧
    (d.owner port → ready n → Completes (.dblRetrain port n) s fun e => same e ∧ e.f pg DBL_STATE_STATE = 1 ∧
      e.f pg DBL_STATE_CAUSE = 0 ∧ e.f pg DBL_STATE_WIDTH = 0 ∧ e.f pg DBL_CTL_RETRAIN = 1) ∧
    (d.owner port → ready n → st = 6 → Completes (.dblRecal port n) s fun e => same e ∧ e.f pg DBL_STATE_STATE = 6 ∧
      e.f pg DBL_CTL_RECAL = 1) ∧
    (d.owner port → d.linkEnds n = true →
      (Completes (.dblHold port n true) s fun e => same e ∧ e.f pg DBL_CTL_HOLD = 1 ∧
        e.f pg DBL_STATE_STATE = (if l.retired then st else 8) ∧
        e.f pg DBL_STATE_CAUSE = if l.retired then d.f pg DBL_STATE_CAUSE else 8) ∧
      (Completes (.dblHold port n false) s fun e => same e ∧ e.f pg DBL_STATE_STATE = st ∧ e.f pg DBL_CTL_HOLD = 0)) ∧
    (st = 6 → d.linkUp n = true → Completes (.elasticRecentre n) s fun e => same e ∧ e.f pg DBL_STATE_STATE = 7) ∧
    (d.owner port → 3 ≤ d.f pgWHL WHL_BOOT_BSTEP → d.f pgWHL WHL_DISC_DSTATE = 0 → Completes (.discStart port) s fun e => same e ∧
      e.f pgWHL WHL_DISC_DSTATE = 1 ∧ e.f pgWHL WHL_BOOT_ERRC = 0 ∧ (ready n → st = 0 → e.f pg DBL_STATE_STATE = 1) ∧
      (d.linkEnds n = false → e.f pg DBL_STATE_STATE = 8 ∧ e.f pg DBL_STATE_CAUSE = 7)) ∧
    (d.f pgWHL WHL_DISC_DSTATE = 1 → d.training = false → ∀ reports, Completes (.discovery reports) s fun e => same e ∧
      e.f pgWHL WHL_DISC_DSTATE = 2 ∧
      let own := ownSerial s.fuse reports
      let at_ := fun (y : Nat) => (d.placings own).filter fun z => z.1 = own y
      let wrong := fun (y : Nat) => decide (1 < (at_ y).length) || (at_ y).any fun z => (s.fuse.serialOf z.2).toNat ≠ own y
      e.f pgWHL WHL_DISC_MISMATCH = ((List.range 112).filter fun y => d.present y && wrong y).length ∧
      (x < 112 → d.present x = true → e.f (pgDIE x) DIE_LOC_DISC =
        if wrong x then 3 else if at_ x = [] then 2 else 1))

/-- A memory endpoint answers a read with the bytes it holds, stores a write's bytes, and performs an atomic operation on its word,
answering the old value; poisoned data are answered POISONED and an atomic leaves them; the patrol scrub counts and poisons an
uncorrectable line, and corrects and counts a correctable one. -/
def Obligations.MemoryAccessesComplete : Prop :=
  ∀ (s : State) (ix a c k : Nat) (q : Pkt) (tier : Bool), s.dev.obeys = true → s.dev.net.pkts[ix]? = some q → q.loc = .dst a c →
    112 ≤ a → s.dev.replies a q →
    s.dev.servedAt a q.addr (if q.typ = T_ATOM then (if q.sub = 0xA then 16 else 8) else firstPart q.addr q.len) = .ok (k, tier) →
    let d := s.dev
    let whole := q.len = firstPart q.addr q.len
    let n := if q.sub = 0xA then 16 else 8
    let v := BitVec.ofNat 64 (leNat (q.data.take 8))
    let v2 := BitVec.ofNat 64 (leNat ((q.data.drop 8).take 8))
    (q.typ = T_RD → tier = false ∨ whole → Completes (.memRead ix [] [] 0 0) s fun e => e.mem = d.mem ∧ e.regs = d.regs ∧
      e.answered q (if d.poisMap k q.len = [] then ST_OK else ST_POISONED) (d.bytes k q.len)) ∧
    (q.typ = T_WR → tier = true → whole → q.pois = [] → Completes (.memWrite ix [] [] 0 0) s fun e =>
      e.mem = memWrite d.mem k (q.data.take q.len) ∧ e.regs = d.regs ∧
      e.answered q (if d.mergesPoison k q.len then ST_POISONED else ST_OK) []) ∧
    (q.typ = T_ATOM → tier = true → d.poisoned k n = false → Completes (.memAtomic ix ⟨[], [], 0, 0⟩) s fun e =>
      e.mem = memWrite d.mem k (atomBytes q.sub (d.bytes k n) v v2) ∧ e.answered q ST_OK ((d.bytes k n).take 8) ∧
      (a < 168 → e.f (pgMBD (a - 112)) MBD_ATOM_COUNT = (d.f (pgMBD (a - 112)) MBD_ATOM_COUNT + 1) % 2 ^ 48)) ∧
    (q.typ = T_ATOM → tier = true → d.poisoned k n = true → Completes (.memAtomic ix ⟨[], [], 0, 0⟩) s fun e =>
      e.mem = d.mem ∧ e.answered q ST_POISONED [])

/-- The patrol scrub of a memory endpoint finds nothing, or a line; a channel or a package is retired at the host's request, and the
migration of a channel ends. -/
def Obligations.MemoryServiceCommandsComplete : Prop :=
  ∀ (s : State) (port x first count i m ch k pkg : Nat), s.dev.obeys = true → isMB x = true ∨ isIOD x = true →
    m < Config.baseDies → ch < 32 → k < Config.iods → pkg < 4 →
    let d := s.dev
    let on := if isMB x then d.fb (pgMBD (x - 112)) MBD_CTL_SCRUBH else d.fb (pgIOD (x - 168)) IOD_LPCTL_SCRUBH
    let last := if isMB x then 96 * 2 ^ 24 else 4 * 2 ^ 30
    let g := lineKey x (first + i)
    let l := lineAt g
    let row := (SMap.get [] (d.mb l.at_).rowCe (Config.memRow g)).filter fun t => d.gt < t + 345600000000000
    let pg := pgMBD m
    let ret := d.f pg MBD_STATE_CHRET
    let old := d.f (pgIOD k) IOD_LPSTATE_RET
    (on = false ∨ d.present x = false → ∀ u v st r, Answers (.memPatrolScrub x first count u v st r) s d) ∧
    (Answers (.memPatrolScrub x first count [] [] 0 0) s d) ∧
    (on = true → d.present x = true → i < count → first + i < last → d.isPois g = false →
      (d.quietScore l.kind l.idx (d.weight 13) → Completes (.memPatrolScrub x first count [i] [] 0 0) s fun e =>
        e.mem = d.mem ∧ e.isPois g = true ∧ d.counted e l.ecc MBD_ECC_UE 1 ∧ e.f l.uea MBD_UEADDR_VALID = 1 ∧
        e.caused l.page (if l.t1 then EV_MEM_UE else EV_LP_UE)) ∧
      (d.quietScore l.kind l.idx (d.weight 12) → SMap.get 0 (d.mb l.at_).ceAt l.ch = 0 → row.length < 3 →
        Completes (.memPatrolScrub x first count [] [i] 0 0) s fun e =>
          e.mem = d.mem ∧ e.pois = d.pois ∧ d.counted e l.ecc MBD_ECC_CE 1 ∧ e.caused l.page (if l.t1 then EV_MEM_CE else EV_LP_CE))) ∧
    (d.owner port → d.present (112 + m) = true → d.isRetired U_CHAN (32 * m + ch) = false → (d.mb m).migrating = none → ch ∉ (d.mb m).wait →
      (3 * ((d.chRet m).length + 1) ≤ d.spareBands → Completes (.mbdRetreq port m ch) s fun e => (e.mb m).migrating = some ch ∧
        e.f pg MBD_STATE_MIG = 1 ∧ e.f pg MBD_CTL_RETREQ = 1 ∧ e.f pg MBD_CTL_RETCH = ch ∧ e.mem = d.mem ∧ e.net = d.net) ∧
      (d.spareBands < 3 * ((d.chRet m).length + 1) → Completes (.mbdRetreq port m ch) s fun e => ch ∈ (e.mb m).holes ∧
        e.f pg MBD_STATE_CHRET = ret ||| 2 ^ ch ∧ e.f pg MBD_STATE_MIG = 3 ∧ e.f pg MBD_CTL_RETREQ = 0 ∧ e.caused pg EV_MEM_CHRET)) ∧
    ((d.mb m).migrating = some ch → (d.mb m).wait = [] → d.present (112 + m) = true → Completes (.channelMigrationDone m []) s fun e =>
      (e.mb m).migrating = none ∧ e.f pg MBD_STATE_CHRET = ret ||| 2 ^ ch ∧ e.f pg MBD_STATE_MIG = 2 ∧
      e.f pg MBD_CTL_RETREQ = 0 ∧ e.caused pg EV_MEM_CHRET ∧ e.caused pg EV_MEM_MIGDONE ∧ e.mem = d.mem ∧ e.net = d.net) ∧
    (d.owner port → d.present (168 + k) = true → d.isRetired U_PKG (4 * k + pkg) = false → Completes (.iodRetreq port k pkg) s fun e =>
      e.f (pgIOD k) IOD_LPSTATE_RET = old ||| 2 ^ pkg ∧ e.f (pgIOD k) IOD_LPCTL_RETPKG = pkg ∧
      e.f (pgIOD k) IOD_LPCTL_RETREQ = 0 ∧ e.caused (pgIOD k) EV_LP_RET)

/-- A fabric port trains through its states at the host's start, or ends ABSENT with the cause of Table 8.22; in service its counts
grow and a POOR lane retrains it; the host retrains and holds it. -/
def Obligations.FabricPortCommandsComplete : Prop :=
  ∀ (s : State) (port q lane cable : Nat) (bad : List Nat) (cap : Word), s.dev.obeys = true → q < Config.fabricPorts → lane < 16 →
    let d := s.dev
    let pg := pgTUB (q + 1)
    let st := d.f pg TUB_PSTATE_STATE
    let absent := fun (c : Instr) (cause : Nat) => Completes c s fun e => e.f pg TUB_PSTATE_STATE = 6 ∧
      e.f pg TUB_PSTATE_CAUSE = cause ∧ e.f pg TUB_PSTATE_WIDTH = 0 ∧ e.caused pg EV_TUB_PABSENT ∧ e.mem = d.mem
    let at_ := fun (c : Instr) (nx : Nat) (P : Dev → Prop) => Completes c s fun e => e.f pg TUB_PSTATE_STATE = nx ∧ e.mem = d.mem ∧ P e
    let marked := bad.filter (· < 32)
    (d.owner port → ({ d with fab := { d.fab with config := false } }).portBar q = none → at_ (.tubPstart port) 1 fun e =>
      e.f pg TUB_PSTATE_CAUSE = 0 ∧ e.f pg TUB_PSTATE_DIR = d.portDir q % 8 ∧ e.f (pgTUB 0) TUB_CTL_FSTATE = 1 ∧
      e.fab.config = false) ∧
    (st = 1 → at_ (.portTrainStateDone q bad) 2 fun e => e.fab = d.fab ∧ e.net = d.net) ∧
    (st = 2 → at_ (.portTrainStateDone q bad) 3 fun e => e.badOfPort q = marked.foldl setIns (d.badOfPort q) ∧ e.net = d.net) ∧
    (st = 3 → fabWidth (d.goodOf q) ≠ 0 → at_ (.portTrainStateDone q bad) 4 fun e => e.fab = d.fab ∧
      e.net = d.net ∧ e.reg (pg + 0x90) = d.fabCap q) ∧
    (st = 3 → fabWidth (d.goodOf q) = 0 → absent (.portTrainStateDone q bad) 2) ∧
    (st = 1 → absent (.portTrainTimeout q bad) 1) ∧ (st = 3 → absent (.portTrainTimeout q bad) 2) ∧
    (st = 2 → at_ (.portTrainTimeout q bad) 3 fun e => e.badOfPort q = marked.foldl setIns (d.badOfPort q)) ∧
    (st = 4 → absent (.portTrainTimeout q bad) ((d.fabCapCause q (d.reg (pg + 0x98))).getD 3)) ∧
    (st = 4 → ∀ c, d.fabCapCause q cap = some c → absent (.portCapExchange q cap cable) c) ∧
    (st = 4 → d.fabCapCause q cap = none → at_ (.portCapExchange q cap cable) 5 fun e =>
      e.f pg TUB_PSTATE_PEER = fld cap 31 20 ∧ e.f pg TUB_PSTATE_WIDTH = fabWidth (d.goodOf q) ∧
      e.f pg TUB_PSTATE_CABLE = sat 12 cable ∧ e.f pg TUB_PSTATE_CAUSE = 0 ∧ e.reg (pg + 0x98) = cap ∧ e.caused pg EV_TUB_PUP) ∧
    (st = 5 → lane ∉ d.badOfPort q →
      (∀ cls corr, cls < 2 → (cls = 1 → SMap.get 0 d.fab.thinAt (q * 16 + lane) = d.gt / 4000000000 + 1) →
        at_ (.portLaneClassWindow q lane cls corr 0) 5 fun e => d.counted e pg TUB_PERR_CORR corr ∧ e.fab = d.fab ∧ e.net = d.net) ∧
      (d.quietScore U_PORT q (d.weight 17) → d.portBar q = none → at_ (.portLaneClassWindow q lane 2 0 0) 1 fun e =>
        e.badOfPort q = setIns (d.badOfPort q) lane ∧ e.caused pg EV_TUB_PWIDTH ∧ e.f pg TUB_PSTATE_WIDTH = 0)) ∧
    (∀ n, st = 5 → 0 < n → n ≤ 4096 → at_ (.portFrameRefused q n) 5 fun e => d.counted e pg TUB_PERR_RESEND n ∧ e.net = d.net) ∧
    (d.owner port → d.present (168 + q / 2) = true →
      (d.portBar q = none → at_ (.portRetrain port q) 1 fun e => e.f pg TUB_PCTL_RETRAIN = 1 ∧ e.f pg TUB_PSTATE_CAUSE = 0) ∧
      (at_ (.portHold port q true) 6 fun e => e.f pg TUB_PSTATE_CAUSE = 8 ∧ e.f pg TUB_PCTL_HOLD = 1) ∧
      (at_ (.portHold port q false) st fun e => e.f pg TUB_PCTL_HOLD = 0 ∧ e.net = d.net))

/-- A packet from another panel goes to its target when its window admits it, is counted as rejected when its tag differs, and a
message goes to the whorl die; a packet without hops left is counted. A fabric transfer without response ends with TIMEOUT. -/
def Obligations.FabricPacketEventsComplete : Prop :=
  ∀ (s : State) (q : Nat) (hdr : BitVec 256) (pre : Word) (data : List Byte) (px : List Nat), s.dev.obeys = true →
    q < Config.fabricPorts →
    let d := s.dev
    let e0 := 168 + q / 2
    let dir := d.portDir q
    let p : Pkt := { Pkt.ofHeader hdr pre data px with dir := (if dir % 2 = 0 then dir + 1 else dir - 1) * 64 + q }
    let t := d.fabTarget e0 p
    let runs := fun (P : Dev → Prop) => Completes (.fabricIngress q hdr pre data px) s fun e => e.mem = d.mem ∧ P e
    (d.f (pgTUB (q + 1)) TUB_PSTATE_STATE = 5 → fld pre 31 0 = prefixCrc hdr pre → p.bad = false → d.draining e0 = false →
      (p.dpanel = d.self → p.typ = T_MGWR → p.addr = MBOX → d.choose e0 d.wdEp (d.inje e0) ≠ .none → runs fun e =>
        e.regs = d.regs ∧ ∃ k ∈ e.net.pkts, k.dep = d.wdEp ∧ k.typ = T_MGWR ∧ k.data = data ∧ k.spanel = p.spanel ∧ k.flow = p.flow) ∧
      (∀ dep dcl a, p.dpanel = d.self → p.typ = T_RD ∨ p.typ = T_WR → t.2.2 = .to dep dcl a →
        (d.winCheck p.typ p.tag t.1 t.2.1 = none → d.choose e0 dep (d.inje e0) ≠ .none → runs fun e =>
          e.regs = d.regs ∧ ∃ k ∈ e.net.pkts, k.dep = dep ∧ k.dcl = dcl ∧ k.addr = a ∧ k.typ = p.typ ∧ k.data = data ∧
            k.spanel = p.spanel ∧ k.epoch = d.inje e0) ∧
        (d.winCheck p.typ p.tag t.1 t.2.1 = some ST_TAG → runs fun e => d.counted e (pgTUB 0) TUB_EVCNT_TAGREJ 1)) ∧
      (p.dpanel ≠ d.self → p.ttl = 0 → p.isReq = false → runs fun e =>
        d.counted e (pgTUB 0) TUB_EVCNT_TTL 1 ∧ e.caused (pgTUB 0) EV_TUB_TTL ∧ e.net = d.net)) ∧
    (∀ ix x p' id u sq b, d.net.xfers[ix]? = some x → d.net.xfers.find? (fun y => y.flow = x.flow) = some x → x.owner = .unit p' id →
      x.absorbed = false → x.bad = none → x.left = [(sq, b)] → d.unit p' id = some u → u.status = ST_OK → x.fabric = true →
      x.since + 400000 * d.f (pgTUB 0) TUB_CTL_FTMO ≤ d.gt → (∀ y, x.fport = some y → d.quietScore U_PORT y (d.weight 18)) →
      Completes (.fabricTimeout ix) s fun e => e.net.xfers = d.net.xfers.filter (fun y => y.flow ≠ x.flow) ∧ e.mem = d.mem ∧
        ∃ v ∈ (e.cl p').units, v.id = id ∧ v.status = ST_TIMEOUT)

/-- The host sets a window, asks for a route, starts a fabric flip on the lead and sends table words; a panel that does not answer
leaves the flip, and holds its ports ABSENT itself, reached by the flip or not. -/
def Obligations.FabricRegisterCommandsComplete : Prop :=
  ∀ (s : State) (port w l ep panel : Nat) (v : Word), s.dev.obeys = true → w < 64 → l < 4096 → ep < 2 → panel < 4096 →
    let d := s.dev
    let t := pgTUB 0
    let a := t + 0x408 + 16 * w
    let keep := v &&& 0x78FFFFFFFFFFFFFF#64
    let stored := fun (c : Instr) (r : Nat) (x : Word) => Completes c s fun e => d.regsOnly e [r] ∧ e.reg r = x
    let st := d.f t TUB_FEPOCH_STATE
    let late := d.fab.askedAt + 400000 * d.f t TUB_CTL_FTMO ≤ d.gt
    (d.owner port →
      (bit v 63 = false → stored (.tubWinCtlWrite port w v) a keep) ∧
      (bit v 63 = true → d.winGood w v = true → stored (.tubWinCtlWrite port w v) a (keep ||| wbit 63)) ∧
      (bit v 63 = true → d.winGood w v = false → stored (.tubWinCtlWrite port w v) a (keep ||| wbit 58))) ∧
    (d.hostUp port = true → port < 2 → stored (.tubHopqWrite port l) (t + 0xC0) (d.hopq l)) ∧
    (d.owner port →
      (d.isLead = false ∨ st ≠ 0 → Completes (.tubFepochWrite port ep) s fun e => d.regsOnly e [t + 0x90] ∧
        e.f t TUB_FEPOCH_ERR = 1 ∧ e.f t TUB_FEPOCH_E = d.fepoch ∧ e.f t TUB_FEPOCH_STATE = st) ∧
      (d.isLead = true → st = 0 → ep = d.fepoch → Completes (.tubFepochWrite port ep) s fun e => d.regsOnly e [t + 0x90] ∧
        e.f t TUB_FEPOCH_ERR = 0 ∧ e.f t TUB_FEPOCH_E = d.fepoch ∧ e.f t TUB_FEPOCH_STATE = 0) ∧
      (d.isLead = true → st = 0 → ep ≠ d.fepoch → Completes (.tubFepochWrite port ep) s fun e =>
        e.f t TUB_FEPOCH_STATE = 1 ∧ e.f t TUB_FEPOCH_OLD = d.fepoch ∧ e.f t TUB_FEPOCH_ERR = 0 ∧ e.fab.flipLeft = d.panels ∧
        e.mem = d.mem ∧ ∀ x ∈ d.panels, ∃ m ∈ e.fab.out, m.panel = x ∧ m.w0 = msgWord 0x22 0 ep) ∧
      (d.isLead = true → Completes (.tubFtblwWrite port v) s fun e => e.regs = d.regs ∧ e.mem = d.mem ∧
        ∃ m ∈ e.fab.out, m.panel = fld v 63 52 ∧ m.w0 = msgWord 0x21 0 (fld v 47 0)) ∧
      (d.isLead = false → Answers (.tubFtblwWrite port v) s d)) ∧
    (d.isLead = true → late → panel ∈ d.fab.flipLeft → panel ≠ d.self → st = 1 → d.fab.flipLeft.filter (· ≠ panel) ≠ [] →
      Completes (.flipPanelTimeout panel) s fun e => panel ∈ e.fab.dropped ∧ e.fab.flipLeft = d.fab.flipLeft.filter (· ≠ panel) ∧
        e.regs = d.regs ∧ e.mem = d.mem) ∧
    (d.isLead = false → panel = d.self → Completes (.flipPanelTimeout panel) s fun e => e.fab.config = true ∧
      ∀ q, q < Config.fabricPorts → e.f (pgTUB (q + 1)) TUB_PSTATE_STATE = 6 ∧ e.f (pgTUB (q + 1)) TUB_PSTATE_CAUSE = 6)

/-- A write of a header with ARM = 1 opens an area or is refused, one with ARM = 0 returns it to IDLE; zeroing ends with every element
zero; a long word is combined into its element, or counted in DROP by an area that is not open; the output's end and the time limit make the area DONE with its STATUS. -/
def Obligations.WinderCommandsComplete : Prop :=
  ∀ (s : State) (ix m c k h : Nat) (q : Pkt) (a : Area), s.dev.obeys = true →
    let d := s.dev
    let f := fun (e : Dev) (hi lo : Nat) => e.hdr h hi lo
    (d.net.pkts[ix]? = some q → q.loc = .dst (112 + m) c → m < 56 →
      (q.typ = T_WR → d.replies (112 + m) q → d.resolve q.addr = .winder m (q.addr % 2 ^ 24) → k = wsKey m (q.addr % 2 ^ 24) →
        (d.areas = [] → armKeys (wsKey m 0) k q.data = [h] → d.mergesPoison k q.data.length = false →
          ((d.store k q.data q.pois).headerGood h (h - wsKey m 0) (12 * 2 ^ 20) = true → Completes (.areaArm ix) s fun e =>
            f e 61 60 = 1 ∧ f e 23 0 = 0 ∧ (∃ b ∈ e.areas, b.key = h ∧ b.complete = []) ∧ e.answered q ST_OK [] ∧ e.regs = d.regs) ∧
          ((d.store k q.data q.pois).headerGood h (h - wsKey m 0) (12 * 2 ^ 20) = false → Completes (.areaArm ix) s fun e =>
            f e 63 63 = 0 ∧ f e 61 60 = 0 ∧ f e 59 56 = ST_DENIED ∧ e.areas = [] ∧ h ∈ e.idleAreas ∧ e.answered q ST_DENIED [] ∧ e.regs = d.regs)) ∧
        (d.areas = [a] → a.key = h → disarms h k q.data = true → armKeys (wsKey m 0) k q.data = [] →
          d.mergesPoison k q.data.length = false → Completes (.areaDisarm ix) s fun e =>
            f e 61 60 = 0 ∧ e.areas = [] ∧ h ∈ e.idleAreas ∧ e.answered q ST_OK [] ∧ e.regs = d.regs)) ∧
      (q.typ = T_LWORD → k = wsKey m 0 + q.addr % 2 ^ 24 →
        let y := (LWord.ofBytes (d.bytes k 24)).combine (LWord.ofBytes q.data)
        (d.areaFor (wsKey m 0) k = none → Completes (.winderLword ix) s fun e => e = { d with net := e.net } ∧
          e.net.pkts = d.net.pkts.eraseIdx ix) ∧
        (d.areaFor (wsKey m 0) k = some h → d.area h = none → d.hdr h 61 60 = 0 → q.data.length = 24 → Completes (.winderLword ix) s fun e =>
          e = { d with net := e.net, mem := memWrite d.mem (h + 8) (leBytes 4 (sat 32 (d.hw h 1 31 0 + 1))) } ∧
          e.net.pkts = d.net.pkts.eraseIdx ix) ∧
        (d.areaFor (wsKey m 0) k = some h → d.areas = [a] → a.key = h → wsKey m 0 ≤ h → h + 64 ≤ k → k < h + 64 + d.aNelem h * 24 → (k - (h + 64)) % 24 = 0 →
          a.zeroing = false → d.hdr h 61 60 = 1 → d.aKind h ≠ 2 → d.hdr h 47 44 = q.part → q.data.length = 24 →
          (LWord.ofBytes (d.bytes k 24)).count ≠ 0 → y.kind.toNat = d.aKind h → y.mism = false → y.wrapped = false →
          y.count.toNat < d.hw h 1 63 32 → (∀ i, i < d.aNelem h → (d.aElem h i).count.toNat < d.hw h 1 63 32) →
          Completes (.winderLword ix) s fun e => e.mem = memWrite d.mem k y.bytes ∧ e.areas = d.areas ∧ e.regs = d.regs ∧
            e.net.pkts = d.net.pkts.eraseIdx ix))) ∧
    (d.area h = some a →
      (a.zeroing = true → a.heldPkts = [] → Completes (.areaZeroDone h) s fun e =>
        e.area h = some { a with zeroing := false } ∧ e.regs = d.regs ∧ e.net = d.net ∧
        ∀ x, memByte e.mem x = if h + 64 ≤ x ∧ x < h + 64 + d.aNelem h * d.aSize h then 0 else memByte d.mem x) ∧
      (a.sent = true → f d 61 60 = 2 → d.net.xfers = [] → Completes (.areaOutputDone h) s fun e => f e 61 60 = 3 ∧
        f e 59 56 = (if f d 55 55 = 1 then ST_BROKEN else if f d 54 54 = 1 then ST_MISMATCH else a.outStatus % 16) ∧
        e.regs = d.regs ∧ e.areas = d.areas) ∧
      (f d 61 60 = 1 ∨ f d 61 60 = 2 → d.hw h 2 15 0 ≠ 0 → a.armedAt + 4000 * d.hw h 2 15 0 ≤ d.gt →
        Completes (.areaTimeout h) s fun e => f e 61 60 = 3 ∧ f e 59 56 = ST_TIMEOUT ∧ e.regs = d.regs ∧ e.areas = d.areas))

/-- A skein operation at its slice answers at once with the value Table 9.3 gives, leaves the skein as the table says, and records the
signal; a wait whose condition does not hold joins the skein's order. -/
def Obligations.SkeinOperationsComplete : Prop :=
  ∀ (s : State) (ix e0 c id : Nat) (q : Pkt) (x : Skein), s.dev.obeys = true → s.dev.net.pkts[ix]? = some q → q.loc = .dst e0 c →
    q.typ = T_SKOP → id = q.addr % 2 ^ 32 → skValid id = true → skHome id = (e0, c) → s.dev.skein id = x → s.dev.skn.polled = [] →
    s.dev.skCut id q = false → s.dev.replies e0 q →
    let d := s.dev
    let opd : Word := BitVec.ofNat 64 (leNat q.data)
    let v : Int := x.value + sgn 32 (fld opd 31 0)
    let n := fld opd 47 0
    let j := fld opd 5 0
    let mask := x.mask ||| BitVec.ofNat 64 (2 ^ j)
    let full := mask.toNat % 2 ^ (x.pm1 + 1) = 2 ^ (x.pm1 + 1) - 1
    let mine := d.skOwner id = q.part ∧ q.part < 16
    let ends := fun (op : Instr) (st val : Nat) (P : Skein → Prop) => Completes op s fun e =>
      P (e.skein id) ∧ e.answered q st (leBytes 8 val) ∧ e.regs = d.regs ∧ e.mem = d.mem
    let signalled := fun (y : Skein) (sop st : Nat) => y.lastSrc = lastWord sop st q.skSrc ∧ y.lastGt = d.gtAt e0
    (q.sub = SOP_READ → ends (.skeinRead ix) (if x.st = .broken then ST_BROKEN else ST_OK) x.value (· = x)) ∧
    (q.sub = SOP_ADD →
      (x.st = .live → v < 0 → ends (.skeinAdd ix) ST_UNDERFLOW x.value fun y => y.value = x.value ∧ signalled y SOP_ADD ST_UNDERFLOW) ∧
      (x.st = .live → 0 ≤ v → x.waiters = [] → ends (.skeinAdd ix) ST_OK (sat 48 v.toNat) fun y => y.st = .live ∧
        y.value = sat 48 v.toNat ∧ y.sat = (x.sat || decide (2 ^ 48 ≤ v)) ∧ signalled y SOP_ADD ST_OK) ∧
      (x.st = .barrier → ends (.skeinAdd ix) ST_DENIED x.value fun y => y.value = x.value ∧ signalled y SOP_ADD ST_DENIED) ∧
      (x.st = .broken → ends (.skeinAdd ix) ST_BROKEN x.value fun y => y.value = x.value ∧ y.st = .broken)) ∧
    (q.sub = SOP_WAIT →
      (x.st ≠ .broken → n ≤ x.value → ends (.skeinWaitGe ix) ST_OK x.value (· = x)) ∧
      (x.st ≠ .broken → x.value < n → d.flowLive q = true → d.skRoom id = true → Completes (.skeinWaitGe ix) s fun e =>
        e.net = { d.net with pkts := d.net.pkts.eraseIdx ix } ∧ ∃ w, e.skein id = { x with waiters := x.waiters ++ [w] } ∧
          w.kind = 0 ∧ w.n = n ∧ w.flow = q.flow ∧ w.sq = q.sq)) ∧
    (q.sub = SOP_ACQ →
      (x.st = .live → n ≤ x.value → x.waiters = [] → ends (.skeinAcquire ix) ST_OK (x.value - n) fun y =>
        y.value = x.value - n ∧ y.st = .live ∧ signalled y SOP_ACQ ST_OK) ∧
      (x.st = .barrier → ends (.skeinAcquire ix) ST_DENIED x.value fun y => y.value = x.value ∧ signalled y SOP_ACQ ST_DENIED)) ∧
    (q.sub = SOP_SET →
      (mine → fld opd 62 54 = 0 → bit opd 63 = true ∨ fld opd 53 48 = 0 → x.waiters = [] → ends (.skeinSet ix) ST_OK n fun y =>
        y.value = n ∧ y.pm1 = fld opd 53 48 ∧ y.sat = false ∧ signalled y SOP_SET ST_OK ∧
        (bit opd 63 = true → y.st = .barrier ∧ y.mask = 0 ∧ y.early = 0) ∧ (bit opd 63 = false → y.st = .live)) ∧
      (¬ mine → ends (.skeinSet ix) ST_DENIED x.value fun y => y.value = x.value ∧ y.st = x.st ∧ signalled y SOP_SET ST_DENIED)) ∧
    (q.sub = SOP_ARRIVE →
      (x.st = .barrier → j ≤ x.pm1 → bit x.mask j = false → ¬ full → ends (.skeinArrive ix) ST_OK x.value fun y =>
        y.mask = mask ∧ y.early = x.early ∧ y.value = x.value ∧ signalled y SOP_ARRIVE ST_OK) ∧
      (x.st = .barrier → j ≤ x.pm1 → bit x.mask j = false → full → x.early = 0 → x.waiters = [] →
        ends (.skeinArrive ix) ST_OK ((x.value + 1) % 2 ^ 48) fun y => y.mask = 0 ∧ y.value = (x.value + 1) % 2 ^ 48 ∧
          signalled y SOP_ARRIVE ST_OK) ∧
      (x.st = .barrier → j ≤ x.pm1 → bit x.mask j = true → bit x.early j = true → ends (.skeinArrive ix) ST_EARLY x.value fun y =>
        y.mask = x.mask ∧ y.early = x.early ∧ y.value = x.value) ∧
      (x.st = .live → ends (.skeinArrive ix) ST_DENIED x.value fun y => y.value = x.value ∧ signalled y SOP_ARRIVE ST_DENIED))

/-- A waiter past its deadline is answered TIMEOUT; a polled wait repeats or times out; the host sets and breaks a skein and arms a
notifier, which fires at once where its condition holds; an absent die's waiters are withdrawn; a cluster parked long enough gates. -/
def Obligations.SkeinServiceCommandsComplete : Prop :=
  ∀ (s : State) (id i port page n e0 p : Nat) (v : Word) (x : Skein) (w : Waiter) (y : Polled) (u : UCmd), s.dev.obeys = true →
    s.dev.skein id = x → page < 2 → n < 64 → e0 < Config.endpoints → p < Config.clusters →
    let d := s.dev
    let pg := pgSKN page
    let sk : Word := BitVec.ofNat 64 id
    let src := d.whorlSrc
    let own := d.skOwner id
    let thr := fld v 47 0
    let quiet := fun (e : Dev) => e.net = d.net ∧ e.mem = d.mem
    (x.waiters[i]? = some w → w.det = false → w.kind < 2 → (∃ t, w.due = some t ∧ t ≤ d.gt) → d.replies (skHome id).1 (d.waiterPkt w) →
      Completes (.waiterTimeout id i) s fun e => e.skein id = { x with waiters := x.waiters.eraseIdx i } ∧
        e.answered (d.waiterPkt w) ST_TIMEOUT (leBytes 8 x.value) ∧ e.regs = d.regs) ∧
    (d.skn.polled[i]? = some y → y.frozen = false → d.net.xfers = [] → d.unit y.p y.id = some u →
      ((∃ t, y.due = some t ∧ t ≤ d.gt) → Completes (.pollRetry i) s fun e => e.skn.polled = d.skn.polled.eraseIdx i ∧
        e.unit y.p y.id = some { u with status := ST_TIMEOUT, val := 0 } ∧ quiet e) ∧
      (y.due = none → y.nextAt ≤ d.gt → d.shadowing y.p = false → Completes (.pollRetry i) s fun e =>
        e.net.xfers.length = 1 ∧ e.skn.sk = d.skn.sk ∧ e.skn.polled = d.skn.polled.map (fun z =>
          if z.p = y.p ∧ z.id = y.id then { z with interval := min 64 (2 * z.interval) } else z)) ) ∧
    (d.owner port → id < 2 ^ 32 → d.skReach id = ST_OK →
      (fld v 62 54 = 0 → bit v 63 = true ∨ fld v 53 48 = 0 → x.waiters = [] → Completes (.sknHostSet port page sk v) s fun e =>
        (e.skein id).value = thr ∧ (e.skein id).pm1 = fld v 53 48 ∧ (e.skein id).lastSrc = lastWord SOP_SET ST_OK src ∧
        ((e.skein id).st = if bit v 63 then .barrier else .live) ∧ e.f pg SKN_CMD_RESULT = ST_OK ∧ e.f pg SKN_SEL_SKID = id ∧ quiet e) ∧
      (x.waiters = [] → Completes (.sknBreak port page sk) s fun e => (e.skein id).st = .broken ∧ (e.skein id).value = x.value ∧
        (own < 16 → d.pst own = P_IDLE → (e.skein id).record = some { st := .broken, value := x.value, pm1 := x.pm1 }) ∧
        e.f pg SKN_CMD_RESULT = ST_OK ∧ quiet e) ∧
      (d.skn.sk = [] → d.skn.base = [] → thr > 0 → Completes (.notifierArm port page n sk v) s fun e =>
        e.f pg SKN_NFYn_CTL_ARM n = 1 ∧ e.f pg SKN_NFYn_CTL_FIRED n = 0 ∧ e.f pg SKN_NFYn_CTL_THRESH n = thr ∧
        (∃ z, (e.skein id).waiters = [z] ∧ z.kind = 2 ∧ z.n = thr ∧ z.flow = page * 64 + n) ∧ quiet e) ∧
      (d.skn.sk = [] → d.skn.base = [] → thr = 0 → Completes (.notifierArm port page n sk v) s fun e =>
        e.f pg SKN_NFYn_CTL_ARM n = 0 ∧ e.f pg SKN_NFYn_CTL_FIRED n = 1 ∧ e.f pg SKN_NFYPEND_PEND = d.f pg SKN_NFYPEND_PEND ||| 2 ^ n ∧
        (e.skein id).waiters = [] ∧ quiet e)) ∧
    (d.present e0 = false → d.skn.base = [] → (d.skn.sk.map (·.1)).Pairwise (· < ·) → Completes (.dieAbsentWaiterWithdraw e0) s fun e =>
      (∀ k, (e.skein k).waiters = (d.skein k).waiters.filter (fun z => z.kind = 2 || z.ep ≠ e0) ∧ (e.skein k).value = (d.skein k).value) ∧
      e.regs = d.regs ∧ quiet e) ∧
    (∀ t, (d.cl p).park = some t → d.f pgWHL WHL_SKNCTL_LENDUS ≠ 0 → (d.cl p).gatedAt = none → (d.cl p).unitsIdle = true →
      (d.cl p).seq.st = .wait → t + 4000 * d.f pgWHL WHL_SKNCTL_LENDUS ≤ d.gt → Completes (.parkGate p) s fun e =>
        e.f (pgCLU p) CLU_PARK_GATED = 1 ∧ (e.cl p).gatedAt = some d.gt ∧ e.mem = d.mem ∧ e.net = d.net)

/-- A manager's message does its work at the worker partition enrolled with it and is acknowledged to the manager: a step starts, is
committed or aborted, a unit is fenced or swapped or put on probation, and the manager or the standby changes. -/
def Obligations.WorkerMessagesComplete : Prop :=
  ∀ (s : State) (src w0 w1 : Word) (j : Nat), s.dev.obeys = true → src.toNat < 4096 → j < Config.partitions →
    let d := s.dev
    let t := pgTUB 0
    let job := fld w0 55 52
    let a := fld w0 47 0
    let pg := pgPART j
    let code := fld w0 63 56
    let st := d.pst j
    let u := a % 2 ^ 32
    let kind := a / 2 ^ 44 % 16
    let replied := fun (e : Dev) (x : Nat) => src.toNat = d.self → ∃ r ∈ e.net.pkts, r.typ = T_MGRSP ∧ r.flow = w1.toNat ∧ r.status = x
    let acked := fun (e : Dev) (x : Nat) => ∃ m ∈ e.fab.out, m.panel = src.toNat ∧ m.w0 = msgWord 0x0E job x
    let does := fun (c : Instr) (x : Nat) (P : Dev → Prop) => Completes c s fun e => P e ∧ acked e x ∧ replied e ST_OK
    (d.enrolled src.toNat job false = [j] → d.f pg PART_SPL_ROLE = 0 →
      (code = 0x01 →
        (st = P_RUN → d.stepOf j = a → does (.start src w0 w1) 1 fun e => e.regs = d.regs ∧ e.clu = d.clu) ∧
        (st = P_IDLE → d.startRule j a false = ST_OK →
          (∀ x ∈ d.streams j, 16 * d.entryOf x < STORE_END ∧ 16 * (d.cl x).seq.pc < STORE_END) → does (.start src w0 w1) 1 fun e => e.pst j = P_RUN ∧ e.stepOf j = a)) ∧
      (code = 0x03 → st = P_DONE → d.stepOf j = a → d.fb pg PART_PLYSTAT_ABORTREQ = false → a ≠ d.f pg PART_CMT_LASTCMT →
        does (.commit src w0 w1) 3 fun e => e.pst j = P_IDLE ∧ e.f pg PART_CMT_LASTCMT = a ∧ e.f pg PART_CMT_ERR = 0 ∧ e.mem = d.mem) ∧
      (code = 0x04 → st = P_RUN ∨ st = P_DONE → d.stepOf j = a →
        does (.abort src w0 w1) 4 fun e => e.pst j = P_ABORTING ∧ e.f pg PART_CMT_ERR = 0 ∧ e.caused pg EV_PART_FAIL) ∧
      (code = 0x06 → kind = 2 → u < Config.dabinLinks → d.isRetired U_LINK u = false → does (.fence src w0 w1) 6 fun e => e.f (pgLink u) DBL_STATE_STATE = 8 ∧
        e.f (pgLink u) DBL_STATE_CAUSE = 9 ∧ (SMap.get {} e.lnk u).retired = true ∧ e.mem = d.mem) ∧
      (code = 0x06 → kind = 0 → u < Config.clusters → d.partOf u = 15 → d.lcOf u = 0x3FF → d.areas = [] →
        does (.fence src w0 w1) 6 fun e => (e.cl u).fenced = true ∧ (e.cl u).units = [] ∧ e.f (pgCLU u) CLU_RST_CLU = 1) ∧
      (code = 0x07 → d.genBusy = true → Completes (.swap src w0 w1) s fun e => e.gens = d.gens ∧ e.regs = d.regs ∧ replied e ST_BUSY) ∧
      (code = 0x07 → d.genBusy = false → ∀ p, p = a % 1024 → p ≠ 0x3FF →
        (d.lcPhys (a / 2 ^ 16 % 1024) = some p → does (.swap src w0 w1) 7 fun e => e.gens = d.gens ∧ e.regs = d.regs) ∧
        (d.lcPhys (a / 2 ^ 16 % 1024) ≠ some p → (∀ x ∈ d.slub.sc, x.2.prob = false) → d.genErr (d.curGen.swapIn (a / 2 ^ 16 % 1024) p) true = 0 →
          Completes (.swap src w0 w1) s fun e => e.f pgWHL WHL_GENCTL_STATE = 1 ∧ (e.gens.next.isSome ∨ e.gens.job.isSome) ∧
            replied e ST_OK)) ∧
      (code = 0x08 →
        (kind = 0 → u < Config.clusters → (d.score U_CLUSTER u).prob = false → does (.probation src w0 w1) 8 fun e =>
          (e.score U_CLUSTER u) = { d.score U_CLUSTER u with prob := true } ∧ e.caused (pgCLU u) EV_SLUB_PROB ∧ e.mem = d.mem) ∧
        (kind = 1 → u < Config.computeDies → does (.probation src w0 w1) 8 fun e =>
          slubKey U_DIE u ∈ e.slub.msgProb ∧ e.regs = d.regs ∧ e.mem = d.mem)) ∧
      (code = 0x0B → does (.newstby src w0 w1) 0x0B fun e => e.f t TUB_JOBp_STBY j = a % 4096 ∧ e.f t TUB_JOBp_MGR j = src.toNat ∧
        e.mem = d.mem)) ∧
    (d.enrolled src.toNat job true = [j] →
      (code = 0x09 → d.mst job ≠ 3 → d.f t TUB_JOBp_MGR j = src.toNat → does (.beat src w0 w1) 9 fun e => e.regs = d.regs ∧
        e.mgrs = d.mgrs ∧ e.mem = d.mem) ∧
      (code = 0x0A → d.f t TUB_JOBp_MGR j ≠ src.toNat → does (.takeover src w0 w1) (d.f pg PART_CMT_LASTCMT) fun e =>
        e.f t TUB_JOBp_MGR j = src.toNat ∧ e.f t TUB_JOBp_STBY j = 0xFFF ∧ e.caused t EV_TUB_TAKEOVER ∧ e.mem = d.mem) ∧
      (code = 0x0A → d.f t TUB_JOBp_MGR j = src.toNat → does (.takeover src w0 w1) (d.f pg PART_CMT_LASTCMT) fun e =>
        e.regs = d.regs ∧ e.mem = d.mem)) ∧
    (code = 0x03 → d.enrolled src.toNat job false = [] → Completes (.commit src w0 w1) s fun e =>
      d.counted e t TUB_EVCNT_MSGDROP 1 ∧ e.caused t EV_TUB_MSGDROP ∧ e.parts = d.parts ∧ replied e ST_DENIED)

/-- A worker's DONE, FAULT and ACK move its manager's slot along; the lead's REMAPDONE ends a wait; a BEAT keeps a standby's slot. A
repeated FAULT has no further effect. -/
def Obligations.ManagerMessagesComplete : Prop :=
  ∀ (s : State) (src w0 w1 : Word) (i : Nat), s.dev.obeys = true → src.toNat < 4096 →
    let d := s.dev
    let job := fld w0 55 52
    let a := fld w0 47 0
    let code := fld w0 63 56
    let m := d.mg job
    let ws := d.workers job
    let mine := fun x => d.rosterPanel job x = some src.toNat
    let runs := fun (c : Instr) (P : Dev → Prop) => Completes c s fun e => P e ∧ e.mem = d.mem
    (d.splicedTo src.toNat job = [] → d.mst job = 1 →
      (code = 0x02 → a = d.mstep job + 1 → i ∈ ws → mine i → i ∉ m.done → (∀ x ∈ ws, mine x → x = i) →
        ((∃ x ∈ ws, x ∉ m.done ∧ x ≠ i) → runs (.done src w0 w1) fun e => e.mg job = { m with done := setIns m.done i } ∧ e.regs = d.regs) ∧
        ((∀ x ∈ ws, x ∈ m.done ∨ x = i) → m.phase = .start → runs (.done src w0 w1) fun e => (e.mg job).phase = .commit ∧
          (e.mg job).left = ws ∧ (e.mg job).done = setIns m.done i ∧ e.regs = d.regs)) ∧
      (code = 0x02 → a ≠ d.mstep job + 1 → runs (.done src w0 w1) fun e => e.mgrs = d.mgrs ∧ e.regs = d.regs) ∧
      (code = 0x05 → a = 0 → i ∈ ws → mine i → (∀ x ∈ ws, mine x → x = i) → m.phase = .start → m.replays < d.mgrMax job → ∀ r,
        ((d.fresh src w0 w1).isSome = true → runs (.fault src w0 w1 r) fun e => e.mst job = 2 ∧ (e.mg job).replays = m.replays + 1) ∧
        (d.fresh src w0 w1 = none → runs (.fault src w0 w1 r) fun e => e.mgrs = d.mgrs ∧ e.regs = d.regs)) ∧
      (code = 0x0E → a % 256 = 3 → m.phase = .commit → dropFirst (fun x => decide (mine x)) m.left ≠ [] →
        runs (.ack src w0 w1) fun e => e.mg job = { m with left := dropFirst (fun x => decide (mine x)) m.left } ∧ e.regs = d.regs) ∧
      (code = 0x0E → a % 256 = 1 → m.phase = .start → runs (.ack src w0 w1) fun e =>
        e.mg job = { m with left := dropFirst (fun x => decide (mine x)) m.left } ∧ e.regs = d.regs) ∧
      (code = 0x0D → src.toNat = d.f (pgTUB 0) TUB_DOMAIN_LEAD → m.phase ≠ .repair → runs (.remapdone src w0 w1) fun e =>
        e.mg job = { m with awaited := dropFirst (· = a / 2 ^ 12 % 4096) m.awaited } ∧ e.regs = d.regs)) ∧
    (d.splicedTo src.toNat job = [] → d.mst job = 0 →
      (code = 0x02 → runs (.done src w0 w1) fun e => d.counted e (pgTUB 0) TUB_EVCNT_MSGDROP 1 ∧ e.mgrs = d.mgrs) ∧
      (code = 0x0E → runs (.ack src w0 w1) fun e => d.counted e (pgTUB 0) TUB_EVCNT_MSGDROP 1 ∧ e.mgrs = d.mgrs)) ∧
    (code = 0x09 → d.mst job = 3 → d.enrolled src.toNat job true = [] → runs (.beat src w0 w1) fun e => e.mstep job = a ∧
      (e.mg job).beatAt = d.gt ∧ (e.mg job).old = src.toNat ∧ e.mst job = 3)

/-- The lead's messages, each with the state it answers: a table word, the switch and the sweeps of a fabric flip at every panel; bundles,
remaps and sweep answers at the lead. A repeat of a message applied before has no further effect (R239). -/
def Obligations.LeadMessagesComplete : Prop :=
  ∀ (s : State) (src w0 w1 : Word), s.dev.obeys = true → src.toNat < 4096 →
    let d := s.dev
    let t := pgTUB 0
    let a := fld w0 47 0
    let code := fld w0 63 56
    let ep := a % 2
    let bank := a / 2 ^ 47 % 2
    let table := a / 2 ^ 44 % 4
    let idx := a / 2 ^ 32 % 1024
    let hi := a / 2 ^ 46 % 2
    let key := a % 4096 * 8 + a / 2 ^ 12 % 8
    let lost := if a / 2 ^ 15 % 2 = 1 then setIns d.fab.lost key else setDel d.fab.lost key
    let first := a / 2 % 2 = 0
    let l := a / 2 ^ 12 % 4096
    let r : Remap := { src := src.toNat, job := fld w0 55 52, l := l, q := a % 4096 }
    let st := d.f t TUB_FEPOCH_STATE
    let new := (d.fresh src w0 w1).isSome = true
    let touched := d.fab.touch.contains ep
    let clean := d.fabCount ep = 0 ∧ d.fab.count1 = 0 ∧ touched = false
    let rest := d.fab.sweepLeft.filter (· ≠ src.toNat)
    let dirty := d.fab.dirty || decide (a % 2 ^ 32 ≠ 0) || (decide (d.fab.sweep = 2) && decide (a / 2 ^ 32 % 2 = 1))
    let same := fun (e : Dev) => e.mem = d.mem ∧ e.clu = d.clu
    (src.toNat = d.f t TUB_DOMAIN_LEAD →
      (code = 0x21 → bank ≠ d.fepoch → st = 0 → idx < fabWords table → ∃ e, exec (.ftbl src w0 w1) s = .next { s with dev := e } ∧
        same e ∧ e.fabWord bank table idx = setFld (d.fabWord bank table idx) (32 * hi + 31) (32 * hi) (a % 2 ^ 32) ∧ e.regs = d.regs) ∧
      (code = 0x21 → bank = d.fepoch → idx < fabWords table → ∃ e, exec (.ftbl src w0 w1) s = .next { s with dev := e } ∧
        same e ∧ e.fab.tbl = d.fab.tbl ∧ e.caused t EV_TUB_TBLERR) ∧
      (code = 0x22 → ep ≠ d.fepoch → ∃ e, exec (.fflip src w0 w1) s = .next { s with dev := e } ∧
        same e ∧ e.fepoch = ep ∧ e.f t TUB_FEPOCH_OLD = d.fepoch ∧ e.f t TUB_FEPOCH_STATE = if d.isLead then st else 2) ∧
      (code = 0x22 → ep = d.fepoch → ∃ e, exec (.fflip src w0 w1) s = .next { s with dev := e } ∧ same e ∧ e.regs = d.regs) ∧
      (code = 0x23 → new → (∀ q ∈ d.net.pkts, q.loc = .dst d.wdEp 0 → q.inFab = false) →
        ∃ e, exec (.fsweep src w0 w1) s = .next { s with dev := e } ∧ same e ∧
          e.f t TUB_FEPOCH_STATE = (if d.isLead then st else if first ∨ ¬ clean then 2 else 0) ∧
          (first → ep ∉ e.fab.touch ∧ e.fab.count1 = d.fabCount ep) ∧
          ∃ m ∈ e.fab.out, m.panel = src.toNat ∧ m.w0 = msgWord 0x24 0 (b2n touched * 2 ^ 32 + d.fabCount ep % 2 ^ 32)) ∧
      (code = 0x23 → ¬ new → ∃ e, exec (.fsweep src w0 w1) s = .next { s with dev := e } ∧ same e ∧ e.regs = d.regs ∧ e.fab = d.fab)) ∧
    (d.isLead = true → d.inDomain src.toNat = true →
      (code = 0x20 → new → ∃ e, exec (.bundle src w0 w1) s = .next { s with dev := e } ∧ same e ∧ e.fab.lost = lost ∧
        (d.fb t TUB_CTL_AUTOFIX = false → e.regs = d.regs) ∧
        (d.fb t TUB_CTL_AUTOFIX = true → st = 0 → d.fab.prepared = false → e.fab.prepared = true ∨ e.f t TUB_FEPOCH_STATE = 1) ∧
        (d.fb t TUB_CTL_AUTOFIX = true → st ≠ 0 → key ∈ e.fab.affected ∧ e.fab.again = true)) ∧
      (code = 0x20 → ¬ new → ∃ e, exec (.bundle src w0 w1) s = .next { s with dev := e } ∧ same e ∧ e.regs = d.regs ∧ e.fab = d.fab) ∧
      (code = 0x0C → l ≠ 0 → r ∉ d.fab.remaps → r ∉ d.fab.serving → d.fab.prepared = false →
        ∃ e, exec (.remap src w0 w1) s = .next { s with dev := e } ∧ same e ∧
          (st = 0 → e.fab.serving = d.fab.remaps ++ [r] ∧ e.fab.remaps = [] ∧ (e.fab.prepared = true ∨ e.f t TUB_FEPOCH_STATE = 1)) ∧
          (st ≠ 0 → e.fab.again = true ∧ e.fab.remaps = d.fab.remaps ++ [r] ∧ e.regs = d.regs)) ∧
      (code = 0x24 → new → src.toNat ∈ d.fab.sweepLeft → rest ≠ [] → ∃ e, exec (.fresid src w0 w1) s = .next { s with dev := e } ∧
        same e ∧ e.fab.sweepLeft = rest ∧ e.fab.dirty = dirty ∧ e.regs = d.regs) ∧
      (code = 0x24 → new → src.toNat ∈ d.fab.sweepLeft → rest = [] → st = 2 → d.fab.sweep = 2 → dirty = false → d.fab.again = false →
        ∃ e, exec (.fresid src w0 w1) s = .next { s with dev := e } ∧ same e ∧ e.f t TUB_FEPOCH_STATE = 0 ∧
          e.f t TUB_FEPOCH_FLIPS = (d.f t TUB_FEPOCH_FLIPS + 1) % 2 ^ 32 ∧ e.caused t EV_TUB_FLIPDONE) ∧
      (code = 0x24 → ¬ new → ∃ e, exec (.fresid src w0 w1) s = .next { s with dev := e } ∧ same e ∧ e.regs = d.regs ∧ e.fab = d.fab)) ∧
    (code = 0x0C → l = 0 → ∃ e, exec (.remap src w0 w1) s = .next { s with dev := e } ∧ same e ∧
      d.counted e t TUB_EVCNT_MSGDROP 1 ∧ e.caused t EV_TUB_MSGDROP)

/-- A message without a good reply is sent again, three times at most; GO makes a slot manage its job or stand by, STOP ends it between
steps, the beat timer sends BEAT, and a standby that misses beats takes over. -/
def Obligations.ManagerSlotCommandsComplete : Prop :=
  ∀ (s : State) (port n ix : Nat) (sh : Option Nat) (lost : List Nat) (m : Msg), s.dev.obeys = true → n < Config.managerSlots →
    let d := s.dev
    let pg := pgTUB (64 + n)
    let st := d.mst n
    let x := d.mg n
    let stby := d.f pg TUB_MGR_CTL_STBY
    let standby := stby = d.self ∨ ∃ j, j < Config.partitions ∧ d.fb (pgTUB 0) TUB_JOBp_EN j = true ∧ d.f (pgTUB 0) TUB_JOBp_JSLOT j = n ∧
      d.f (pgTUB 0) TUB_JOBp_STBY j = d.self ∧ d.f (pgTUB 0) TUB_JOBp_MGR j ≠ d.self
    let late := m.bad = true ∨ m.sentAt + 400000 * d.f (pgTUB 0) TUB_CTL_FTMO ≤ d.gt
    let again : Msg := { m with tries := m.tries + 1, sentAt := d.gt, bad := false }
    (d.fab.out[ix]? = some m → late →
      (m.tries < 3 → Completes (.msgResendTimeout ix sh) s fun e => e.regs = d.regs ∧ e.mem = d.mem ∧
        e.fab.out = d.fab.out.map (fun y => if y.id = m.id then again else y)) ∧
      (m.tries = 3 → fld m.w0 63 56 = 0x0E → Completes (.msgResendTimeout ix sh) s fun e => e.regs = d.regs ∧ e.mem = d.mem ∧
        e.fab.out = d.fab.out.filter (fun y => y.id ≠ m.id) ∧ e.net = d.net)) ∧
    (d.owner port →
      (st = 0 ∨ st = 5 → standby → Completes (.mgrGo port n) s fun e => e.mst n = 3 ∧ e.mg n = { beatAt := d.gt } ∧ e.mem = d.mem) ∧
      (st = 0 ∨ st = 5 → ¬ standby → Completes (.mgrGo port n) s fun e => e.mst n = 1 ∧ (e.mg n).beatAt = d.gt ∧ e.mem = d.mem) ∧
      (st = 1 → x.phase = .rest → x.moves = [] → Completes (.mgrStop port n) s fun e => e.mst n = 5 ∧ (e.mg n).stop = false ∧
        e.mem = d.mem ∧ e.net = d.net) ∧
      (st = 1 → x.phase ≠ .rest → Completes (.mgrStop port n) s fun e => e.mst n = 1 ∧ e.mg n = { x with stop := true } ∧
        e.mem = d.mem ∧ e.net = d.net)) ∧
    (st = 1 ∨ st = 2 → x.beatAt + d.beatPeriod n ≤ d.gt → Completes (.beatTimer n) s fun e => e.mg n = { x with beatAt := d.gt } ∧
      e.regs = d.regs ∧ e.mem = d.mem ∧ (stby ≠ 0xFFF → ∃ y ∈ e.fab.out, y.panel = stby ∧ y.w0 = msgWord 9 n (d.mstep n))) ∧
    (st = 3 → x.beatAt + d.f pg TUB_MGR_CTL_LOSTN * d.beatPeriod n ≤ d.gt → Completes (.managerLost n lost) s fun e => e.mst n = 4 ∧
      ((e.mg n).phase = .wait ∨ (e.mg n).phase = .take) ∧ e.caused (pgTUB 0) EV_TUB_MGRLOST ∧ e.mem = d.mem)

/-- The host starts a step of an idle partition: its sequencers run from their entries; a suspension stops them where they stand and a
resumption returns them; a step that is over is DONE and its digests are latched. -/
def Obligations.StepCommandsComplete : Prop :=
  ∀ (s : State) (port j k p : Nat), s.dev.obeys = true → j < Config.partitions → k < 2 ^ 48 → s.dev.followers j = [] →
    s.dev.f (pgPART j) PART_SPL_ROLE = 0 →
    let d := s.dev
    let pg := pgPART j
    let st := d.pst j
    let susp := d.fb pg PART_STEP_SUSPD
    let q := (d.cl p).seq
    let res := fun (e : Dev) => e.f pg PART_STEP_RESULT
    let sum := (d.mapped j).foldl (fun a p => a + (d.cl p).sdig) (d.pt j).areaDig
    (d.owner port →
      (st = P_IDLE → d.startRule j k true = ST_OK → d.fb pg PART_RPL_SKRST = false → bit (d.reg (pg + 0x800)) 63 = false →
        d.copyShadows j = [] → (∀ x ∈ d.streams j, 16 * d.entryOf x < STORE_END ∧ 16 * (d.cl x).seq.pc < STORE_END) →
        Completes (.partStepStart port j k) s fun e => e.pst j = P_RUN ∧ e.stepOf j = k ∧ res e = ST_OK ∧
          e.f pg PART_CMT_FAILC = 0 ∧ e.mem = d.mem ∧ e.net = d.net ∧
          (p ∈ d.mapped j → q.st = .idle → (e.cl p).seq =
            { ({} : Seq) with st := .run, pc := d.entryOf p, slots := q.slots, last := q.last, fcode := q.fcode }) ∧
          (p ∈ d.mapped j → q.st ≠ .idle → (e.cl p).seq = q ∧ e.caused (pgCLU p) EV_SEQ_OVERLAP)) ∧
      (d.startRule j k true ≠ ST_OK → Completes (.partStepStart port j k) s fun e => res e = d.startRule j k true ∧ e.pst j = st ∧
        e.stepOf j = d.stepOf j ∧ e.clu = d.clu ∧ e.mem = d.mem ∧ e.net = d.net) ∧
      (st = P_RUN → susp = false → (d.pt j).phase = .none → Completes (.partSusp port j) s fun e => res e = ST_OK ∧
        e.fb pg PART_STEP_SUSPD = true ∧ e.pst j = P_RUN ∧ e.mem = d.mem ∧ e.net = d.net ∧
        (p ∈ d.mapped j → q.st = .run ∨ q.st = .wait → (e.cl p).seq = { q with st := .suspended, resume := q.st }) ∧
        (p ∈ d.mapped j → q.st = .idle ∨ q.st = .fault → (e.cl p).seq = q)) ∧
      (st ≠ P_RUN ∨ susp = true → Completes (.partSusp port j) s fun e => res e = ST_BUSY ∧ e.clu = d.clu ∧ e.fb pg PART_STEP_SUSPD = susp) ∧
      (susp = true → (d.pt j).phase = .none → d.skn.sk = [] → (∀ x n, n < 4 → ((d.cl x).eng n).st ≠ .suspended) →
        Completes (.partResume port j) s fun e => res e = ST_OK ∧ e.fb pg PART_STEP_SUSPD = false ∧ e.mem = d.mem ∧ e.net = d.net ∧
          (p ∈ d.mapped j → q.st = .suspended → q.resume ≠ .idle → (e.cl p).seq = { q with st := q.resume })) ∧
      (susp = false → Completes (.partResume port j) s fun e => res e = ST_BUSY ∧ e.clu = d.clu)) ∧
    (d.stepOver j = true → d.fb (pgTUB 0) TUB_JOBp_EN j = false → Completes (.stepComplete j) s fun e => e.pst j = P_DONE ∧
      e.caused pg EV_PART_STEPDONE ∧ e.f pg PART_SDIG_LO_D = fld sum 63 0 ∧ e.f pg PART_SDIG_HI_D = fld sum 127 64 ∧
      (p ∈ d.mapped j → e.f (pgCLU p) CLU_SDIG_LO_D = fld (d.cl p).sdig 63 0) ∧ e.clu = d.clu ∧ e.mem = d.mem ∧ e.net = d.net) ∧
    (d.stepOver j = false → Answers (.stepComplete j) s d)

/-- The host commits a step that is done, aborts one that runs, acknowledges a memory loss and asks for a restore; an abort, a seed copy
and a restore come to their ends. -/
def Obligations.StepOutcomeCommandsComplete : Prop :=
  ∀ (s : State) (port j status : Nat), s.dev.obeys = true → j < Config.partitions → status < 16 →
    s.dev.f (pgPART j) PART_SPL_ROLE = 0 →
    let d := s.dev
    let pg := pgPART j
    let st := d.pst j
    let k := d.stepOf j
    let ph := (d.pt j).phase
    let n := sat 4 (d.f pg PART_CMTST_RPLN + 1)
    let degr := d.fb pg PART_CMT_DEGR
    let emp := d.fb (pgTUB 0) TUB_JOBp_EN j
    let halves := d.restoreHalves j
    let cmt := fun (c : Instr) (P : Dev → Prop) => Completes c s fun e => P e ∧ e.mem = d.mem
    let failed := fun (e : Dev) => e.pst j = P_STUCK ∧ e.f pg PART_CMT_FAILC = FC_SETUP ∧ e.caused pg EV_PART_FAIL
    (d.owner port →
      (st = P_DONE → d.fb pg PART_PLYSTAT_ABORTREQ = false → cmt (.partCommit port j) fun e => e.pst j = P_IDLE ∧
        e.f pg PART_CMT_LASTCMT = k ∧ e.f pg PART_CMTST_RPLN = 0 ∧ e.f pg PART_CMT_ERR = 0) ∧
      (st ≠ P_DONE → cmt (.partCommit port j) fun e => e.pst j = st ∧ e.f pg PART_CMT_LASTCMT = d.f pg PART_CMT_LASTCMT ∧
        e.f pg PART_CMT_ERR = 1) ∧
      (st = P_RUN ∨ st = P_DONE → d.areas = [] → cmt (.partAbort port j) fun e => e.pst j = P_ABORTING ∧ (e.pt j).phase = .abort ∧
        (d.f pg PART_CMT_FAILC = 0 → e.f pg PART_CMT_FAILC = FC_ABORT) ∧ e.caused pg EV_PART_FAIL ∧ e.f pg PART_CMT_ERR = 0) ∧
      (st = P_IDLE → cmt (.partAbort port j) fun e => e.pst j = st ∧ e.f pg PART_CMT_ERR = 1 ∧ e.clu = d.clu) ∧
      (cmt (.partAckloss port j) fun e => e.f pg PART_CMT_MEMLOSS = 0 ∧ e.f pg PART_CMT_ERR = 0 ∧ e.pst j = st ∧ e.clu = d.clu) ∧
      (st = P_ABORTED → degr = false → cmt (.partRestore port j) fun e => e.pst j = P_RESTORING ∧ (e.pt j).phase = .hostRestore) ∧
      (st = P_ABORTED → degr = true → emp = false → cmt (.partRestore port j) failed) ∧
      (st ≠ P_ABORTED → cmt (.partRestore port j) fun e => e.pst j = st ∧ e.f pg PART_CMT_ERR = 1)) ∧
    (st = P_ABORTING → ph = .abort → d.partXfers j = false →
      (emp = true → n < max 1 (d.f pg PART_RPL_MAXRPL) → cmt (.abortDrainEnd j) fun e => e.pst j = P_ABORTED ∧
        e.f pg PART_CMTST_RPLN = n ∧ (e.pt j).phase = .none) ∧
      (emp = true → max 1 (d.f pg PART_RPL_MAXRPL) ≤ n → cmt (.abortDrainEnd j) fun e => e.pst j = P_STUCK ∧ e.f pg PART_CMTST_RPLN = n) ∧
      (emp = false → d.fb pg PART_RPL_AUTOSWAP = false → d.genBusy = false → cmt (.abortDrainEnd j) fun e => e.pst j = P_ABORTING ∧
        (e.pt j).phase = .abortFlip ∧ e.gens.job = some (.drain j) ∧ e.f pgWHL WHL_RTEPOCH_STATE = 1)) ∧
    (st = P_RUN → ph = .seed →
      (status = ST_OK ∨ status = ST_POISONED → (d.seedAll j).1 = true →
        (∀ x ∈ d.streams j, 16 * d.entryOf x < STORE_END ∧ 16 * (d.cl x).seq.pc < STORE_END) → Completes (.seedCopyDone j status) s fun e =>
        e.pst j = P_RUN ∧ (e.pt j).phase = .none ∧ e.f pg PART_CMT_FAILC = 0) ∧
      (status = ST_ABSENT → emp = false → Completes (.seedCopyDone j status) s failed)) ∧
    (ph = .hostRestore →
      (status = ST_OK → (∀ h ∈ halves, ∀ i, i < h.2 / 64 → (d.lineAtAddr ((h.1 + 64 * i) % 2 ^ 52)).isSome) →
        Completes (.restoreDone j status []) s fun e => e.pst j = P_ABORTED ∧ (e.pt j).phase = .none ∧ e.net = d.net ∧
          ∀ h ∈ halves, ∀ i g b, i < h.2 / 64 → d.lineAtAddr ((h.1 + 64 * i) % 2 ^ 52) = some g → b < 64 → memByte e.mem (g + b) = 0) ∧
      (status = ST_ABSENT → emp = false → cmt (.restoreDone j status []) failed))

/-- A record from the shadow panel is compared with the panel's own digest; the host's parity, mirror and rotation entries are kept
where they are valid, and lose their valid bit with ERR where they are not. -/
def Obligations.PartitionTableCommandsComplete : Prop :=
  ∀ (s : State) (port j i : Nat) (v : Word), s.dev.obeys = true → j < Config.partitions → i < 16 →
    let d := s.dev
    let pg := pgPART j
    let spr := pg + 0x408 + 16 * i
    let mir := pg + 0x708 + 16 * i
    let sprW : Dev := d.setReg spr (setFld (setFld (d.reg spr) 63 63 1) 5 0 (fld v 5 0))
    let mirW : Dev := d.setReg mir (setFld (d.reg mir) 63 63 1)
    let g := fld v 55 48
    let rotGood := 2 ≤ g ∧ g ≤ 64 ∧ fld v 24 3 * 8 ≤ 0x17FFFF8
    let entry := fun (c : Instr) (a : Nat) (x y : Fld) (ix ok err : Nat) (P : Dev → Prop) => Completes c s fun e =>
      d.regsOnly e [a] ∧ e.f pg x ix = ok ∧ e.f pg y ix = err ∧ P e
    let spl := d.f pg PART_SPL_STATE
    let clean := sat 8 (d.f pg PART_SPL_CLEAN + 1)
    (d.owner port → d.f pgWHL WHL_GENCTL_STATE = 0 →
      (bit v 63 = false → entry (.partSprCtlWrite port j i v) spr PART_SPR_CTLi_VALID PART_SPR_CTLi_ERR i 0 (d.f pg PART_SPR_CTLi_ERR i) fun e =>
        e.f pg PART_SPR_CTLi_HLOG2 i = fld v 5 0) ∧
      (bit v 63 = true → sprW.sprGood j i = true → entry (.partSprCtlWrite port j i v) spr PART_SPR_CTLi_VALID PART_SPR_CTLi_ERR i 1 0
        fun e => e.f pg PART_SPR_CTLi_HLOG2 i = fld v 5 0) ∧
      (bit v 63 = true → sprW.sprGood j i = false → entry (.partSprCtlWrite port j i v) spr PART_SPR_CTLi_VALID PART_SPR_CTLi_ERR i 0 1
        fun _ => True) ∧
      (bit v 63 = false → entry (.partMirCtlWrite port j i v) mir PART_MIRi_CTL_V PART_MIRi_CTL_ERR i 0 0 fun _ => True) ∧
      (bit v 63 = true → mirW.mirGood j i = true → entry (.partMirCtlWrite port j i v) mir PART_MIRi_CTL_V PART_MIRi_CTL_ERR i 1 0
        fun _ => True) ∧
      (bit v 63 = true → mirW.mirGood j i = false → entry (.partMirCtlWrite port j i v) mir PART_MIRi_CTL_V PART_MIRi_CTL_ERR i 0 1
        fun _ => True) ∧
      (bit v 63 = false ∨ rotGood → entry (.partRotWrite port j v) (pg + 0x800) PART_ROT_EN PART_ROT_ERR 0 (b2n (bit v 63)) 0 fun e =>
        e.f pg PART_ROT_GSIZE = g ∧ e.f pg PART_ROT_OFS = fld v 24 3 ∧ e.f pg PART_ROT_ROT = d.f pg PART_ROT_ROT) ∧
      (bit v 63 = true → ¬ rotGood → entry (.partRotWrite port j v) (pg + 0x800) PART_ROT_EN PART_ROT_ERR 0 0 1 fun _ => True)) ∧
    (d.f pg PART_SPL_ROLE = 2 → spl = 1 ∨ spl = 2 → ∀ p z k x, d.resolve (d.f pg PART_SPLREC_ADDR * 64) = .t2 p z →
      d.splMatch j (leNat ((d.bytes (t2Key p z) 32).take 8)) = some (k, x) →
      (leNat ((d.bytes (t2Key p z) 32).drop 16) = x.toNat → Completes (.spliceRecordCompare j) s fun e =>
        e.f pg PART_SPL_CLEAN = clean ∧ e.mem = d.mem ∧ (spl = 1 → max 1 (d.f pg PART_SPL_NEED) ≤ clean →
          e.f pg PART_SPL_STATE = 2 ∧ e.caused pg EV_PART_SPLICE) ∧ (e.pt j).digs = (d.pt j).digs.filter (fun y => y.1 ≠ k)) ∧
      (leNat ((d.bytes (t2Key p z) 32).drop 16) ≠ x.toNat → Completes (.spliceRecordCompare j) s fun e =>
        e.f pg PART_SPL_CLEAN = 0 ∧ d.counted e pg PART_SPL_MISS 1 ∧ e.f pg PART_SPL_STATE = spl ∧ e.mem = d.mem))

/-- A decay tick lowers a score by its share; a retirement older than an hour leaves the window; the host loads scores, weights and
thresholds, the last only in order. -/
def Obligations.ScoreCommandsComplete : Prop :=
  ∀ (s : State) (port kind idx i : Nat) (v : Word) (x : Score), s.dev.obeys = true → idx < 2 ^ 40 →
    let d := s.dev
    let c := fld v 39 32
    let n := fld v 31 0
    let k := decayK (d.f pgWHL WHL_SLUBCTL_HLH)
    let thr := d.retireThr kind * 65536
    let young := fun (t : Nat) => decide (d.gt < t + 14400000000000)
    let w : Dev := ({ d with regs := (d.setReg (pgWHL + 0x3A0 + 8 * i) v).regs } : Dev)
    (d.f pgWHL WHL_SLUBCTL_HLH = 0 → k = 0) ∧
    (d.slub.sc = [(slubKey kind idx, x)] → 1 ≤ kind → kind < 8 → x.ret = false → x.prob = false →
      x.s < thr → Completes .slubDecayTick s fun e => e.score kind idx = { x with s := x.s - (x.s * k + 2 ^ 32 - 1) / 2 ^ 32 } ∧
        e = { d with slub := e.slub }) ∧
    ((∀ y ∈ d.slub.sc, y.2.prob = false) → Answers .ret1hWindowExpiry s { d with slub := { d.slub with
      rets := d.slub.rets.filter young, panelRets := d.slub.panelRets.filter (fun y => young y.2) } }) ∧
    (d.owner port →
      (d.slubSel = some (kind, idx) → 1 ≤ kind → kind < 8 → (d.score kind idx).ret = false → (d.score kind idx).prob = false → n < thr →
        Completes (.slubvalWrite port v) s fun e => e.score kind idx = { d.score kind idx with s := n } ∧ e = { d with slub := e.slub }) ∧
      (d.slubSel = none → Answers (.slubvalWrite port v) s d) ∧
      (c < 21 → Completes (.slubwWrite port v) s fun e => e.weight c = fld v 15 0 ∧ (∀ b, b ≠ c → e.weight b = d.weight b) ∧
        e.slub.sc = d.slub.sc ∧ e.mem = d.mem ∧ e.net = d.net) ∧
      (i = 0 → d.slub.sc = [] → d.slub.msgProb = [] →
        (w.thrOrder = true → Completes (.slubthrWrite port i v) s fun e => d.regsOnly e [pgWHL + 0x3A0] ∧ e.reg (pgWHL + 0x3A0) = v) ∧
        (w.thrOrder = false → Answers (.slubthrWrite port i v) s d)) ∧
      (i = 2 → d.thrOrder = true → d.slub.sc = [] → d.slub.msgProb = [] → Completes (.slubthrWrite port i v) s fun e => d.regsOnly e [pgWHL + 0x3B0] ∧
        e.reg (pgWHL + 0x3B0) = v) ∧
      (i = 1 → d.f pgWHL WHL_SLUBTHR0_M4 < fld v 63 48 → d.thrOrder = true → d.slub.sc = [] → d.slub.msgProb = [] → Completes (.slubthrWrite port i v) s fun e =>
        d.regsOnly e [pgWHL + 0x3A8] ∧ e.f pgWHL WHL_SLUBTHR1_CLRET = fld v 63 48 ∧ e.f pgWHL WHL_SLUBTHR1_CKRET = fld v 47 32) ∧
      (i = 3 → d.thrOrder = true → d.slub.sc = [] → d.slub.msgProb = [] → Completes (.slubthrWrite port i v) s fun e =>
        d.regsOnly e [pgWHL + 0x3B8] ∧ e.f pgWHL WHL_SLUBTHR3_FPRET = fld v 63 48 ∧ e.f pgWHL WHL_SLUBTHR3_PNRET = fld v 47 32))

/-- Beacons bring a die's count to the whorl die's and lock it; a die without reference goes into holdover and stops if it lasts;
the fabric's beacons correct domain time. -/
def Obligations.GlobalTimeCommandsComplete : Prop :=
  ∀ (s : State) (e0 q gt : Nat) (ofs : Int), s.dev.obeys = true → e0 < Config.endpoints → q < Config.fabricPorts →
    let d := s.dev
    let k := d.clk
    let err := -(SMap.get 0 d.gtOfs e0 + ofs)
    let good := if -4 ≤ err ∧ err ≤ 4 then SMap.get 0 k.good e0 + 1 else 0
    let hears := e0 < 184 ∧ k.beacon.isSome = true ∧ d.powered e0 = true ∧ (∀ x ∈ k.lost, x.1 ≠ e0)
    let got := fun (P : Dev → Prop) => Completes (.gtBeaconReceive e0 ofs) s fun e => P e ∧ e.mem = d.mem ∧ e.net = d.net
    let ofsOf := fun (e : Dev) => SMap.get 0 e.gtOfs e0
    let lost := fun (t : Nat) => k.lost.find? (fun x => x.1 = e0) = some (e0, t)
    let D := (gt : Int) - 4 * d.f (pgTUB (q + 1)) TUB_PSTATE_CABLE - d.gt
    let dom := fun (e : Dev) => e.f pgWHL WHL_CLKSTAT_DOMSTATE
    (k.started = true → k.beacon = none → Answers .gtBeaconSend s { d with clk := { k with beacon := some d.gt } }) ∧
    (∀ t, k.started = true → k.beacon = some t → t + 4000 ≤ d.gt →
      Answers .gtBeaconSend s { d with clk := { k with beacon := some d.gt } }) ∧
    (hears →
      (d.gstate e0 = 0 → got fun e => e.gstate e0 = 1 ∧ ofsOf e = 0 ∧
        (e0 < 112 → e.f (pgDIE e0) DIE_CLK_PT = d.f pgWHL WHL_FREQ_CUR)) ∧
      (d.gstate e0 = 1 ∨ d.gstate e0 = 3 → -16 ≤ err → err ≤ 16 → good < 4 → got fun e => e.gstate e0 = d.gstate e0 ∧
        ofsOf e = max (-4) (min 4 err) - err) ∧
      (d.gstate e0 ≠ 0 → -4 ≤ err → err ≤ 4 → 4 ≤ good → d.present e0 = true → got fun e => e.gstate e0 = 2 ∧ ofsOf e = 0 ∧
        (e0 < 112 → e.f (pgDIE e0) DIE_CLK_LERR = wrap 16 err)) ∧
      (d.gstate e0 ≠ 0 → err < -16 ∨ 16 < err → got fun e => e.gstate e0 = 1 ∧ ofsOf e = 0 ∧
        (e0 < 112 → e.caused (pgDIE e0) EV_CLK_GTERR))) ∧
    (e0 < 184 → d.powered e0 = true → d.gstate e0 ≠ 0 → SMap.get 0 k.last e0 + 20000 ≤ d.gt → Completes (.gtBeaconMissing e0) s fun e =>
      e.gstate e0 = 3 ∧ SMap.get 0 e.clk.good e0 = 0 ∧ e.mem = d.mem ∧ e.net = d.net) ∧
    (k.started = true → d.powered e0 = true → (∀ x ∈ k.lost, x.1 ≠ e0) → Completes (.refEdgeLoss e0) s fun e => e.gstate e0 = 3 ∧
      (e0, d.gt) ∈ e.clk.lost ∧ (e0 < 112 → e.caused (pgDIE e0) EV_CLK_NOREF) ∧ e.mem = d.mem ∧ e.net = d.net) ∧
    (∀ t, lost t →
      (d.gt ≤ t + 400000 → Completes (.referenceEdgeReturn e0) s fun e => e.gstate e0 = 1 ∧ (∀ x ∈ e.clk.lost, x.1 ≠ e0) ∧
        e.mem = d.mem ∧ e.net = d.net) ∧
      (t + 400000 ≤ d.gt → e0 = d.wdEp → Answers (.holdoverStop e0) s { d with stopped := true }) ∧
      (t + 400000 ≤ d.gt → e0 ≠ d.wdEp → Completes (.holdoverStop e0) s fun e => e0 ∈ e.clk.dead ∧ e.present e0 = false)) ∧
    ((d.dirPorts (d.portDir q)).head? = some q → SMap.get 0 d.fab.beaconOut q = 0 → Answers (.fabricBeaconSend q) s
      { d with fab := { d.fab with beaconOut := SMap.set 0 d.fab.beaconOut q d.gt } }) ∧
    (d.self ≠ d.f (pgTUB 0) TUB_DOMAIN_TMASTER → q ∈ d.dirPorts d.timeDir → k.samples = [] →
      (-8 ≤ D → D ≤ 8 → Completes (.fabricBeaconReceive q gt) s fun e => e.clk.samples = [D] ∧ e.clk.adj = max (-4) (min 4 D) ∧
        e.clk.domGood = k.domGood + 1 ∧ dom e = (if 16 ≤ k.domGood + 1 then 2 else 1) ∧ e.reg (pgWHL + 0x228) = BitVec.ofInt 64 D ∧
        e.gt = d.gt) ∧
      (4000 < D ∨ D < -4000 → d.fb pgWHL WHL_TIMECTL_STEPOK = true → d.anyBusy = false →
        Completes (.fabricBeaconReceive q gt) s fun e => e.gt = ((d.gt : Int) + D).toNat ∧ e.clk.samples = [] ∧ dom e = 1 ∧ e.mem = d.mem)) ∧
    (dom d = 1 ∨ dom d = 2 → k.domLast + 200000 ≤ d.gt → Completes .domainHoldover s fun e => dom e = 3 ∧ e.clk.adj = 0 ∧
      e.clk.domGood = 0 ∧ e.caused pgWHL EV_CLK_DOMHOLD ∧ e.mem = d.mem ∧ e.net = d.net)

/-- A change of the operating point is asked for, refused with the code of Table 12.4, cancelled, ramped, made die by die and ended;
the replica monitors count stretched cycles and move the step of the cluster. -/
def Obligations.FrequencyCommandsComplete : Prop :=
  ∀ (s : State) (port tgt h e0 p cyc slack now : Nat) (t : Word), s.dev.obeys = true → tgt < 256 → h < Config.hanks →
    e0 < Config.endpoints → p < Config.clusters → slack < 4 → now < 64 → 0 < cyc →
    let d := s.dev
    let fst := fun (e : Dev) => e.f pgWHL WHL_FREQ_FSTATE
    let errc := fun (e : Dev) => e.f pgWHL WHL_FREQ_ERRC
    let T := (d.reg (pgWHL + 0x210)).toNat
    let want := d.f pgWHL WHL_FREQ_TGT
    let cur := d.f pgWHL WHL_FREQ_CUR
    let top := if s.fuse.code = 0 then 30 else 12
    let c := pgCLU p
    let die := pgDIE (dieOf p)
    let rst := d.f c CLU_RMON_RSTEP
    let quiet := fun (e : Dev) => e.mem = d.mem ∧ e.net = d.net
    let refused := fun (i : Instr) (x : Nat) => Completes i s fun e => errc e = x ∧ fst e = fst d ∧ e.caused pgWHL EV_CLK_FERR ∧ e.clk = d.clk ∧ quiet e
    (d.owner port →
      (fst d = 0 → want ≤ top → d.gt + 200000 ≤ T → d.unlocked = 0 → Completes (.freqArm port) s fun e => fst e = 1 ∧ errc e = 0 ∧
        e.clk.tgt = want ∧ quiet e) ∧
      (fst d = 0 → top < want → refused (.freqArm port) 1) ∧
      (fst d = 0 → want ≤ top → T < d.gt + 200000 → refused (.freqArm port) 2) ∧
      (fst d ≠ 0 → refused (.freqArm port) 3) ∧
      (fst d = 0 → want ≤ top → d.gt + 200000 ≤ T → d.unlocked ≠ 0 → refused (.freqArm port) 5) ∧
      (fst d = 1 → d.gt + 80000 ≤ T → Completes (.freqCancel port) s fun e => fst e = 0 ∧ e.clk.ramped = [] ∧ quiet e) ∧
      (fst d = 1 → T < d.gt + 80000 → refused (.freqCancel port) 4) ∧
      (fst d = 0 → Completes (.freqParamWrite port tgt t) s fun e => e.f pgWHL WHL_FREQ_TGT = tgt ∧ e.reg (pgWHL + 0x210) = t ∧
        fst e = 0 ∧ e.clk = d.clk ∧ quiet e) ∧
      (fst d = 1 → Completes (.freqParamWrite port tgt t) s fun e => errc e = 3 ∧ e.f pgWHL WHL_FREQ_TGT = want ∧
        e.reg (pgWHL + 0x210) = d.reg (pgWHL + 0x210) ∧ fst e = 1 ∧ quiet e)) ∧
    (fst d = 1 → cur < d.clk.tgt → T ≤ d.gt + 160000 → (∃ x ∈ hankEps h, d.present x = true) → Answers (.railRampStart h) s
      { d with clk := { d.clk with ramped := setIns d.clk.ramped h } }) ∧
    (fst d = 1 → d.present e0 = true → T ≤ d.gtAt e0 → d.clk.tgt ≠ cur → Completes (.freqApply e0) s fun e => fst e = 2 ∧
      e.clk.switchLeft = d.eps.filter (· ≠ e0) ∧ (e0 < 112 → e.f (pgDIE e0) DIE_CLK_PT = d.clk.tgt % 256) ∧ quiet e) ∧
    (fst d = 2 → d.clk.switchLeft = [] → Completes .freqSwitchDone s fun e => fst e = 0 ∧ e.f pgWHL WHL_FREQ_CUR = d.clk.tgt % 256 ∧
      e.caused pgWHL EV_CLK_FDONE ∧ e.clk.ramped = [] ∧ quiet e) ∧
    (d.present (dieOf p) = true → (d.cl p).on = true →
      (Completes (.replicaStretch p cyc slack) s fun e => d.counted e die DIE_STRETCH_SCYC cyc ∧ d.counted e die DIE_STRETCH_DROOPS 1 ∧
        e.f c CLU_RMON_MIN = min (d.f c CLU_RMON_MIN) slack ∧ e.f c CLU_RMON_NOW = slack ∧ quiet e) ∧
      (1000 ≤ cyc → rst < 2 → Completes (.rstepWindow p cyc slack now) s fun e => e.f c CLU_RMON_RSTEP = rst + 1 ∧
        e.f c CLU_RMON_NOW = now ∧ SMap.get 0 e.clk.rmonAt p = d.gt ∧ e.caused c EV_RMON_STEP ∧ quiet e) ∧
      (cyc < 1000 → Completes (.rstepWindow p cyc slack now) s fun e => e.f c CLU_RMON_RSTEP = rst ∧
        e.f c CLU_RMON_MIN = min (d.f c CLU_RMON_MIN) slack ∧ e.f c CLU_RMON_NOW = now ∧ e.clk = d.clk ∧ quiet e)) ∧
    (0 < rst → SMap.get 0 d.clk.rmonAt p + 240000000000 ≤ d.gt → Completes (.rstepDecay p) s fun e => e.f c CLU_RMON_RSTEP = rst - 1 ∧
      e.caused c EV_RMON_STEP ∧ quiet e)

/-- The host asks for a hank's power to come on or go off and clears a fault; the hank goes off, trips, locks, or is ready; a cluster's
header switch closes and opens. A hank's VL rail is what R368 computes for its clusters that are powered. -/
def Obligations.HankPowerCommandsComplete : Prop :=
  ∀ (s : State) (port h p temp stk : Nat), s.dev.obeys = true → h < Config.hanks → p < Config.clusters →
    let d := s.dev
    let pg := pgHNK h
    let st := d.hst h
    let res := fun (e : Dev) => e.f pg HNK_PCTL_RESULT
    let cause := fun (e : Dev) => e.f pg HNK_PSTATE_CAUSE
    let quiet := fun (e : Dev) => e.mem = d.mem ∧ e.net = d.net ∧ e.clu = d.clu
    let gone := fun (e : Dev) => ∀ x ∈ hankEps h, e.present x = false
    let trips := fun (i : Instr) (to_ why : Nat) => Completes i s fun e => e.hst h = to_ ∧ cause e = why ∧ e.caused pg EV_HNK_TRIP ∧ gone e
    (d.owner port →
      (st = H_OFF → Completes (.hankOnreq port h) s fun e => e.hst h = H_POWERING ∧ res e = ST_OK ∧ e.caused pg EV_HNK_STATE ∧ quiet e) ∧
      (st = H_TRIPPED ∨ st = H_LOCKED → Completes (.hankOnreq port h) s fun e => e.hst h = st ∧ res e = ST_DENIED ∧ quiet e) ∧
      (st = H_ON → d.hankIdle h = true → Completes (.hankOffreq port h) s fun e => e.hst h = H_DRAINING ∧ res e = ST_OK ∧
        (e.hp13 h).offAt = some d.gt ∧ e.caused pg EV_HNK_STATE ∧ quiet e) ∧
      (st ≠ H_ON ∨ d.hankIdle h = false → Completes (.hankOffreq port h) s fun e => e.hst h = st ∧ res e = ST_BUSY ∧ quiet e) ∧
      (st = H_TRIPPED → Completes (.hankClrflt port h) s fun e => e.hst h = H_OFF ∧ res e = ST_OK ∧ quiet e ∧
        (cause d = 2 → (e.hp13 h).clrAt = some d.gt)) ∧
      (st ≠ H_TRIPPED → Completes (.hankClrflt port h) s fun e => e.hst h = st ∧ res e = ST_DENIED ∧ quiet e)) ∧
    (∀ x ∈ hankClusters h, (d.cl x).on = true → d.hankUp h = true →
      let asks := Config.vf h (d.railPoint h) + d.cluTrim x
      d.vlRail h ≤ 850 ∧ min 850 (asks + 15) ≤ d.vlRail h ∧ d.ldo x = min asks 835) ∧
    (d.hankUp h = false → d.vlRail h = 0 ∧ d.vmRail h = 0) ∧
    (∀ t, st = H_DRAINING → (d.hp13 h).offAt = some t → t + 4000000 ≤ d.gt → Completes (.hankSwitchOff h) s fun e => e.hst h = H_OFF ∧
      cause e = 1 ∧ e.caused pg EV_HNK_STATE ∧ gone e) ∧
    (1 ≤ st → st ≤ 3 →
      ((d.hp13 h).clrAt = none → trips (.hankShort h) H_TRIPPED 2) ∧
      (∀ t, (d.hp13 h).clrAt = some t → d.gt ≤ t + 2400000000000 → trips (.hankShort h) H_LOCKED 2) ∧
      (110 ≤ temp ∨ 105 ≤ stk → trips (.hankThermalTrip h temp stk) H_TRIPPED 3)) ∧
    (st = H_POWERING → 5 ≤ d.f pgWHL WHL_BOOT_BSTEP → d.hankReady h = true → d.slub.sc = [] → ∀ cs ls,
      Completes (.hankPowerOnDone h cs ls) s fun e => e.hst h = H_ON ∧ e.f (pgMBD (2 * h)) MBD_STATE_TSTATE = 1 ∧
        e.f (pgMBD (2 * h + 1)) MBD_STATE_TSTATE = 1 ∧ e.caused pg EV_HNK_STATE ∧
        ∀ k, t1Key (2 * h) 0 ≤ k → k < t1Key (2 * h) 0 + 2 ^ 38 → memByte e.mem k = 0) ∧
    (d.wantOn p = true → (d.cl p).on = false → d.gens.next = none → Completes (.headerSwitchStaged p true) s fun e =>
      (e.cl p).on = true ∧ e.mem = d.mem ∧ e.net = d.net) ∧
    (d.wantOn p = false → (d.cl p).on = true → Completes (.headerSwitchStaged p false) s fun e => (e.cl p).on = false ∧
      (e.cl p).needSeed = true ∧ ∀ o, o < STORE_END → memByte e.mem (csKey p o) = 0)

/-- The power budget is divided, a hank's issue limit follows its share, and limits bind on the input, the coolant and the host's cap;
readings are published and wear is counted. -/
def Obligations.PowerBudgetCommandsComplete : Prop :=
  ∀ (s : State) (port h p pfix pr mv ma mw cap tj tstk fcst el ratio temp : Nat) (pts : List (Nat × Nat)), s.dev.obeys = true →
    h < Config.hanks → p < Config.clusters → cap < 65536 →
    let d := s.dev
    let pg := pgHNK h
    let fused := if s.fuse.code = 0 then 24000 else 16000
    let ons := (List.range Config.hanks).filter (fun x => d.hst x = H_ON)
    let m := ons.foldl (fun a x => a + d.assigned x) 0
    let bud := fun (e : Dev) => SMap.get 0 e.pwr.budget h
    let share := fun (e : Dev) => (e.pwr.peff * 98 / 100 - pfix) * d.assigned h / m
    let ws := d.workingIn h
    let sum := (pts.filter (fun x => ws.contains x.1)).foldl (fun a x => a + x.2) 0
    let n := if d.pwr.coolCrit then 1 else min 16 (max 1 (16 * (bud d - pr) / max 1 sum))
    let cl := d.cl p
    let quiet := fun (e : Dev) => e.mem = d.mem ∧ e.net = d.net
    let runs := fun (i : Instr) (P : Dev → Prop) => Completes i s fun e => P e ∧ quiet e
    (runs (.budgetDivide pfix) fun e => e.pwr.host = d.f pgWHL WHL_PCAP_HOST ∧ e.pwr.peff ≤ 1000 * fused ∧
      e.pwr.peff ≤ 1000 * max 4000 (d.f pgWHL WHL_PCAP_HOST) ∧
      (d.hst h ≠ H_ON → bud e = 0) ∧
      (d.hst h = H_ON → 0 < m → d.fb pg HNK_PSTATE_DERATE = false → bud e = share e) ∧
      (d.hst h = H_ON → 0 < m → d.fb pg HNK_PSTATE_DERATE = true → bud e = share e * 3 / 4) ∧
      e.f pg HNK_BUDGET_BW = min 65535 (bud e / 1000)) ∧
    (runs (.hankNcapEval h pr pts) fun e => e.f pg HNK_BUDGET_NCAP = n ∧ e.f pg HNK_BUDGET_RW = min 65535 (pr / 1000) ∧
      e.f pg HNK_BUDGET_W = ws.length ∧ e.clu = d.clu) ∧
    (d.owner port → runs (.pcapHostWrite port cap) fun e => e.f pgWHL WHL_PCAP_HOST = min cap fused ∧ e.pwr = d.pwr) ∧
    (Answers (.noticePreposition p) s d) ∧
    (cl.nramp < 16 → (∀ x ∈ cl.notices, x.covers (d.gtAt (dieOf p)) = false) → cl.rampAt + 2000 ≤ d.gt → runs (.issueRampStep p) fun e =>
      e.cl p = { cl with nramp := cl.nramp + 1, rampAt := d.gt }) ∧
    (cl.nramp < 16 → (∃ x ∈ cl.notices, x.covers (d.gtAt (dieOf p)) = true) → runs (.issueRampStep p) fun e =>
      e.cl p = { cl with nramp := 16 }) ∧
    (d.present (dieOf p) = true →
      (runs (.hotspotSense p true) fun e => e.cl p = { cl with nhot := max 1 (cl.nhot - 1) } ∧
        (d.hotn (hankOf (dieOf p)) = 0 → e.caused (pgHNK (hankOf (dieOf p))) EV_HNK_HOT)) ∧
      (runs (.hotspotSense p false) fun e => e.cl p = { cl with nhot := min 16 (cl.nhot + 1) })) ∧
    (runs (.telemetryPublish [(144, mv, ma, mw)] [] tj tstk fcst ratio) fun e => e.f pgWHL WHL_PIN_MV = min 65535 mv ∧
      e.f pgWHL WHL_PIN_CUR = min 65535 (ma / 100) ∧ e.f pgWHL WHL_PIN_MW = mw % 2 ^ 32 ∧
      e.reg (pgWHL + 0x410) = d.reg (pgWHL + 0x410) + BitVec.ofNat 64 ((SMap.get 0 d.pwr.frac 144 + mw) / 1000) ∧
      e.f pgWHL WHL_COOL_TIN = min 4095 tj ∧ e.f pgWHL WHL_COOL_TOUT = min 4095 tstk ∧ e.f pgWHL WHL_COOL_DP = min 65535 fcst ∧
      e.f pgWHL WHL_COOL_FLOW = min 4095 ratio ∧ e.pwr.measured = true ∧ e.pwr.peff ≤ 1000 * fused) ∧
    (d.pwr.measured = true → d.f pgWHL WHL_COOL_FLOW < 100 ∨ 1040 < d.f pgWHL WHL_COOL_TOUT → runs .coolantCritical fun e =>
      e.pwr.coolCrit = true ∧ e.f pg HNK_BUDGET_NCAP = 1 ∧ (d.pwr.coolCrit = false → e.caused pgWHL EV_COOL_CRIT)) ∧
    (el < 192 → 115 * 4096 < 100 * ratio → runs (.connectionMonitor [(el, ratio, ma)]) fun e => e.caused pgWHL EV_PWR_SUSPECT ∧
      SMap.get [] e.pwr.susp el = (true :: SMap.get [] d.pwr.susp el).take 16 ∧ SMap.get 0 e.pwr.ratio el = min 65535 ratio) ∧
    (runs (.thermalForecast h tj tstk fcst) fun e => e.f pg HNK_TEMP_TJMAX = min 255 tj ∧ e.f pg HNK_TEMP_TSTK = min 255 tstk ∧
      e.f pg HNK_TEMP_FCST = min 255 fcst ∧ (d.thot h ≤ fcst → e.caused pg EV_HNK_TFCST)) ∧
    ((d.hp13 h).turns = [] → runs (.thermalCycleCount h temp) fun e => (e.hp13 h).turns = [(temp : Int)] ∧ e.regs = d.regs) ∧
    (∀ a b : Nat, (d.hp13 h).turns = [(a : Int), (b : Int)] → b + 160 ≤ a → a < b + 320 → temp ≤ b →
      runs (.thermalCycleCount h temp) fun e => (e.hp13 h).turns = [(temp : Int), (a : Int)] ∧ d.counted e pg HNK_CYC0_B0 1) ∧
    (mv < 11400 → runs (.inputUndervoltage mv) fun e => e.pwr.underV = true ∧ e.f pgWHL WHL_PIN_MV = mv ∧ e.pwr.peff ≤ 2105 * mv ∧
      (d.pwr.underV = false → e.caused pgWHL EV_PWR_UV)) ∧
    (11400 ≤ mv → d.pwr.underV = true → runs (.undervoltageClear mv) fun e => e.pwr.underV = false ∧ e.f pgWHL WHL_PIN_MV = min 65535 mv ∧
      e.pwr.peff ≤ 1000 * fused) ∧
    (mv < 10800 ∨ 13000 < mv → Answers (.inputCriticalStop mv) s { stopped := true })

/-- 12 V enters range and the hardware stage runs; the host starts the bring-up steps in their order and each does what Table 14.1 says
when it starts. -/
def Obligations.BringUpStartsComplete : Prop :=
  ∀ (s : State) (port h p m : Nat) (hard : List (Nat × Nat)) (ok0 ok1 : Bool), h < Config.hanks → p < Config.clusters → m < Config.baseDies →
    let d := s.dev
    let n := d.f pgWHL WHL_BOOT_BSTEP
    let b := d.f pgWHL WHL_BOOT_BSTATE
    let goes := fun (k : Nat) (e : Dev) => e.f pgWHL WHL_BOOT_BSTATE = 1 ∧ e.f pgWHL WHL_BOOT_ERRC = 0 ∧ e.f pgWHL WHL_BOOT_BSTEP = n ∧
      e.boot.step = some k
    let rows : List (Instr × Nat) := [(.bootEnumerate port, 1), (.bootClockStart port, 2), (.bootPower port, 3),
      (.bootMemoryTrain port hard, 5), (.bootSelfTest port, 6), (.bootReconcile port, 7), (.bootRelease port, 11)]
    let images := (List.range 3).all (fun t => d.boot.loaded.any (fun x => x.1 = t))
    (Completes (.hardwareStage ok0 ok1) s fun e => e.stopped = !(ok0 || ok1) ∧ e.net.present = [168, 176, if ok0 then 184 else 185] ∧
      e.f pgWHL WHL_CLKSTAT_WD = (if ok0 then 0 else 1) ∧ e.sec.presence = s.fuse.sealBlown ∧ e.sec.count = 1 ∧ e.mem = [] ∧ e.clu = [] ∧
      e.boot = {} ∧ e.f pgWHL WHL_BOOT_BSTEP = 0) ∧
    (d.obeys = true → d.owner port →
      (∀ c k, (c, k) ∈ rows →
        (b = 1 → Completes c s fun e => d.regsOnly e [pgWHL + 0x500] ∧ e.f pgWHL WHL_BOOT_ERRC = 2 ∧ e.f pgWHL WHL_BOOT_BSTATE = 1) ∧
        (b ≠ 1 → n ≠ k - 1 → Completes c s fun e => d.regsOnly e [pgWHL + 0x500] ∧ e.f pgWHL WHL_BOOT_ERRC = 1 ∧
          e.f pgWHL WHL_BOOT_BSTATE = b ∧ e.f pgWHL WHL_BOOT_BSTEP = n)) ∧
      (b ≠ 1 →
        (n = 0 → Completes (.bootEnumerate port) s fun e => goes 1 e ∧
          e = { d with regs := e.regs, boot := { d.boot with step := some 1, fmap := s.fuse.bad } }) ∧
        (n = 1 → Completes (.bootClockStart port) s fun e => goes 2 e ∧
          e = { d with regs := e.regs, boot := { d.boot with step := some 2 }, clk := { d.clk with started := true } }) ∧
        (n = 2 → Completes (.bootPower port) s fun e => goes 3 e ∧
          e = { d with regs := e.regs, boot := { d.boot with step := some 3 }, pwr := { d.pwr with edge := e.pwr.edge } } ∧
          ((d.f pgWHL WHL_BOOTMASK_HANKM).testBit h = true → e.hst h = H_POWERING ∧ e.caused (pgHNK h) EV_HNK_STATE) ∧
          ((d.f pgWHL WHL_BOOTMASK_HANKM).testBit h = false → e.hst h = d.hst h ∧ e.f (pgHNK h) HNK_PSTATE_CAUSE = 4)) ∧
        (n = 4 → d.boot.step = none → ∃ e,
          exec (.bootMemoryTrain port hard) s = .next { s with
            fuse := { s.fuse with hardRows := s.fuse.hardRows ++ d.hardened hard }, dev := e } ∧ goes 5 e ∧ e.clu = d.clu ∧ e.net = d.net ∧
          (d.present (112 + m) = true → e.f (pgMBD m) MBD_STATE_TSTATE = 3 ∧
            e.f (pgMBD m) MBD_STATE_CHRET = d.f (pgMBD m) MBD_CTL_RETMASK)) ∧
        (n = 5 → Completes (.bootSelfTest port) s fun e => goes 6 e ∧
          ((d.cl p).on = true → e.cl p = { d.cl p with stRun := true } ∧ e.f (pgCLU p) CLU_STEST_RESULT = 1 ∧
            e.f (pgCLU p) CLU_STEST_FAILBLK = 0) ∧
          ((d.cl p).on = false → e.cl p = d.cl p)) ∧
        (n = 6 → Completes (.bootReconcile port) s fun e => goes 7 e ∧
          (d.present (dieOf p) = true → e.pstate p = if d.cluBad p then PS_DISABLED else PS_SPARE) ∧
          (d.present (dieOf p) = false → e.pstate p = PS_OFF) ∧
          e.f pgWHL WHL_RECON_GOODC = ((List.range Config.clusters).filter (fun q => e.pstate q = PS_SPARE)).length) ∧
        (n = 10 →
          (images = true → d.gens.cur.num ≠ 0 → Completes (.bootRelease port) s fun e => e.f pgWHL WHL_BOOT_BSTATE = 2 ∧
            e.f pgWHL WHL_BOOT_BSTEP = 11 ∧ e.f pgWHL WHL_BOOT_ERRC = 0 ∧ e.caused pgWHL EV_BOOT_STEP ∧
            e = { d with regs := e.regs, boot := { d.boot with step := none } }) ∧
          (images = false → Completes (.bootRelease port) s fun e => d.regsOnly e [pgWHL + 0x500] ∧ e.f pgWHL WHL_BOOT_ERRC = 3 ∧
            e.f pgWHL WHL_BOOT_BSTEP = 10) ∧
          (images = true → d.gens.cur.num = 0 → Completes (.bootRelease port) s fun e => d.regsOnly e [pgWHL + 0x500] ∧
            e.f pgWHL WHL_BOOT_ERRC = 4 ∧ e.f pgWHL WHL_BOOT_BSTEP = 10))))

/-- A bring-up step whose completion condition holds ends, with its event; step 5 leaves the memory in service and cleared, and the masked
hanks ON. Self-tests start at once, wait, or are refused, and end with their finding. -/
def Obligations.BringUpEndsAndSelfTestsComplete : Prop :=
  ∀ (s : State) (port h p m k blk : Nat) (bad : List Nat) (dfr : Bool), s.dev.obeys = true → h < Config.hanks → p < Config.clusters →
    m < Config.baseDies → blk < 65536 →
    let d := s.dev
    let n := d.f pgWHL WHL_BOOT_BSTEP
    let ends := fun (j : Nat) (e : Dev) => e.f pgWHL WHL_BOOT_BSTEP = j ∧ e.f pgWHL WHL_BOOT_BSTATE = 0 ∧ e.boot.step = none ∧
      e.caused pgWHL EV_BOOT_STEP
    let pg := pgCLU p
    let res := fun (e : Dev) => e.f pg CLU_STEST_RESULT
    let c := d.cl p
    let quiet := fun (e : Dev) => e.mem = d.mem ∧ e.net = d.net
    (d.boot.step = some k → d.stepHolds k = false → Answers (.bootStepDone bad) s d) ∧
    (d.boot.step = some k → d.stepHolds k = true →
      (k ∈ [1, 2, 3, 6, 7] → Completes (.bootStepDone bad) s fun e => ends k e ∧
        e = { d with regs := e.regs, boot := { d.boot with step := none } }) ∧
      (k = 5 → Completes (.bootStepDone bad) s fun e => ends 5 e ∧
        (d.present (112 + m) = true → e.f (pgMBD m) MBD_STATE_TSTATE = 1 ∧
          ∀ x, t1Key m 0 ≤ x → x < t1Key m 0 + 2 ^ 37 → memByte e.mem x = 0) ∧
        (d.present (112 + m) = false → e.f (pgMBD m) MBD_STATE_TSTATE = 2) ∧
        e.hst h = if d.hst h = H_POWERING then H_ON else d.hst h)) ∧
    (d.boot.step = none →
      (n = 3 → d.f pgWHL WHL_DISC_DSTATE = 2 → Completes (.bootStepDone bad) s fun e => ends 4 e ∧ quiet e) ∧
      (n = 8 → (List.range 3).all (fun t => d.boot.loaded.any (fun x => x.1 = t)) = true → Completes (.bootStepDone bad) s fun e =>
        ends 9 e ∧ quiet e) ∧
      (n = 9 → d.f pgWHL WHL_OPTCTL_CSTATE = 2 ∨ d.f pgWHL WHL_OPTCTL_CSTATE = 3 → Completes (.bootStepDone bad) s fun e =>
        ends 10 e ∧ quiet e) ∧
      (n ≠ 3 → n ≠ 8 → n ≠ 9 → Answers (.bootStepDone bad) s d)) ∧
    (d.owner port → d.present (dieOf p) = true →
      (c.stRun = false → d.drained p = true → Completes (.cluStestGo port p dfr) s fun e => e.cl p = { c with stRun := true, stDefer := false } ∧
        res e = 1 ∧ quiet e) ∧
      (c.stRun = false → d.drained p = false → dfr = true → Completes (.cluStestGo port p dfr) s fun e => e.cl p = { c with stDefer := true } ∧
        res e = 5 ∧ quiet e) ∧
      (c.stRun = false → d.drained p = false → dfr = false → Completes (.cluStestGo port p dfr) s fun e => e.cl p = { c with stDefer := false } ∧
        res e = 4 ∧ quiet e) ∧
      (c.stRun = true → Completes (.cluStestGo port p dfr) s fun e => d.regsOnly e [pg + 0x388] ∧ res e = res d)) ∧
    (c.stDefer = true → d.drained p = true → Completes (.stestDeferredStart p) s fun e => e.cl p = { c with stRun := true, stDefer := false } ∧
      res e = 1 ∧ quiet e) ∧
    (c.stDefer = false ∨ d.drained p = false → Answers (.stestDeferredStart p) s d) ∧
    (c.stRun = true → c.on = true → d.areas = [] →
      (Completes (.stestDone p 0) s fun e => e.cl p = { c with stRun := false, needSeed := true } ∧ res e = 2 ∧ e.caused pg EV_STEST_DONE ∧
        ∀ o, o < STORE_END → memByte e.mem (csKey p o) = 0) ∧
      (blk ≠ 0 → d.boot.step = some 6 → Completes (.stestDone p blk) s fun e => res e = 3 ∧ e.f pg CLU_STEST_FAILBLK = blk ∧
        e.caused pg EV_STEST_DONE ∧ unitNo U_CLUSTER p ∈ e.boot.tbad) ∧
      (blk ≠ 0 → d.boot.step ≠ some 6 → d.pstate p = PS_SPARE → d.partOf p = 15 → d.lcOf p = 0x3FF → d.gens.next = none →
        Completes (.stestDone p blk) s fun e => e.pstate p = PS_RETIRED))

/-- An image is staged, measured, found good or not, loaded into the clusters, confirmed by each and dropped; after release a load waits
for every partition to be settled (R413). The fuse map takes an override before the step that tests the unit, and an addition that is
blown; both need presence. -/
def Obligations.FirmwareCommandsComplete : Prop :=
  (∀ (s : State) (port p off typ len : Nat) (data : List Byte) (im : Image), s.dev.obeys = true → p < Config.clusters →
    off + data.length ≤ FWBUF → typ < 4 → len < 2 ^ 26 →
    let d := s.dev
    let st := d.f pgWHL WHL_FWSTAT_FSTATE
    let fst := fun (e : Dev) => e.f pgWHL WHL_FWSTAT_FSTATE
    let cause := fun (e : Dev) => e.f pgWHL WHL_FWSTAT_CAUSE
    let b := d.imageBytes len
    let c := d.cl p
    let ons := (List.range Config.clusters).filter (fun q => (d.cl q).on)
    let rest := setDel d.boot.confirm p
    let wait := rest.filter (fun q => (d.cl q).on)
    let settled := ∀ j, j < Config.partitions → (d.pst j = P_IDLE ∨ d.pst j = P_ABORTED ∨ d.pst j = P_STUCK) ∧
      d.fb (pgPART j) PART_STEP_SUSPD = false
    let quiet := fun (e : Dev) => e.mem = d.mem ∧ e.net = d.net
    (d.owner port →
      (st = 0 ∨ st = 4 → Answers (.fwStagingWrite port off data) s { d with mem := memWrite d.mem (fwKey off) data }) ∧
      (st = 2 ∨ st = 5 → Completes (.fwStagingWrite port off data) s fun e => fst e = 0 ∧ cause e = 0 ∧
        e = { d with mem := memWrite d.mem (fwKey off) data, regs := e.regs }) ∧
      (st = 1 ∨ st = 3 → Answers (.fwStagingWrite port off data) s d) ∧
      (st ≠ 1 → st ≠ 3 → Completes (.fwMeasure port typ len) s fun e => fst e = 1 ∧ cause e = 0 ∧ quiet e ∧
        e.boot.staged = some { typ := typ, svn := leNat ((b.drop 8).take 4), keysel := leNat ((b.drop 6).take 1), digest := Config.sha3 b } ∧
        e.boot.outcome = imageCheck s.fuse typ len b ∧ e.sec.count = d.sec.count + 1) ∧
      (st = 1 ∨ st = 3 → Completes (.fwMeasure port typ len) s fun e => d.regsOnly e [pgWHL + 0x530, pgWHL + 0x538] ∧ fst e = st ∧
        cause e = 4) ∧
      (d.f pgWHL WHL_FWCTL_TYPE < 4 →
        (d.f pgWHL WHL_BOOT_BSTEP < 8 → Completes (.fwLoad port) s fun e => d.regsOnly e [pgWHL + 0x530, pgWHL + 0x500] ∧
          e.f pgWHL WHL_BOOT_ERRC = 1 ∧ fst e = st) ∧
        (8 ≤ d.f pgWHL WHL_BOOT_BSTEP → d.f pgWHL WHL_BOOT_BSTATE = 2 → ¬ settled → Completes (.fwLoad port) s fun e =>
          d.regsOnly e [pgWHL + 0x530, pgWHL + 0x538] ∧ cause e = 4 ∧ fst e = st) ∧
        (8 ≤ d.f pgWHL WHL_BOOT_BSTEP → d.f pgWHL WHL_BOOT_BSTATE ≠ 2 ∨ settled → d.boot.staged = some im → st = 2 →
          (s.fuse.keyHash im.keysel = none → Completes (.fwLoad port) s fun e => d.regsOnly e [pgWHL + 0x530, pgWHL + 0x538] ∧ fst e = 5 ∧
            cause e = 1) ∧
          (s.fuse.keyHash im.keysel ≠ none → im.typ < 3 → ons ≠ [] → Completes (.fwLoad port) s fun e => fst e = 3 ∧ cause e = 0 ∧
            e.boot.confirm = ons ∧ e.f pgWHL WHL_FWSTAT_CONFN = 0 ∧ quiet e ∧
            (c.on = true → (e.cl p).fwGot = setDel c.fwGot im.typ ∧ (e.cl p).fwTries = 0)) ∧
          (s.fuse.keyHash im.keysel ≠ none → im.typ = 3 → Completes (.fwLoad port) s fun e => fst e = 4 ∧ e.caused pgWHL EV_FW_DONE ∧
            (e.f pgWHL WHL_FWSTAT_LOADEDM).testBit 3 = true ∧ e.sec.count = d.sec.count + 1 ∧ e.clu = d.clu ∧ quiet e)) ∧
        (st ≠ 1 → st ≠ 3 → Completes (.fwDrop port) s fun e => fst e = 0 ∧ cause e = 0 ∧ e.boot.staged = none ∧
          (∀ o, o < FWBUF → memByte e.mem (fwKey o) = 0) ∧ (∀ x, x < fwKey 0 → memByte e.mem x = memByte d.mem x) ∧ e.net = d.net) ∧
        (st = 1 ∨ st = 3 → Completes (.fwDrop port) s fun e => d.regsOnly e [pgWHL + 0x530] ∧ fst e = st))) ∧
    (st = 1 → d.boot.outcome = 0 → Completes .fwMeasureDone s fun e => d.regsOnly e [pgWHL + 0x538] ∧ fst e = 2 ∧ cause e = 0) ∧
    (st = 1 → 1 ≤ d.boot.outcome → d.boot.outcome ≤ 3 → Completes .fwMeasureDone s fun e => d.regsOnly e [pgWHL + 0x538] ∧ fst e = 5 ∧
      cause e = if d.boot.outcome = 3 then 5 else d.boot.outcome) ∧
    (st ≠ 1 → Answers .fwMeasureDone s d) ∧
    (d.boot.staged = some im → st = 3 → p ∈ d.boot.confirm → c.on = true →
      (wait ≠ [] → Completes (.fwConfirm p true) s fun e => fst e = 3 ∧ e.boot.confirm = rest ∧ im.typ ∈ (e.cl p).fwGot ∧
        d.counted e pgWHL WHL_FWSTAT_CONFN 1 ∧ quiet e) ∧
      (wait = [] → Completes (.fwConfirm p true) s fun e => fst e = 4 ∧ e.caused pgWHL EV_FW_DONE ∧ im.typ ∈ (e.cl p).fwGot ∧ quiet e) ∧
      (c.fwTries = 0 → Completes (.fwConfirm p false) s fun e => e.cl p = { c with fwTries := 1 } ∧ e = { d with clu := e.clu }) ∧
      (c.fwTries ≠ 0 → d.f pgWHL WHL_BOOT_BSTATE ≠ 2 → d.partOf p = 15 → d.lcOf p = 0x3FF → Completes (.fwConfirm p false) s fun e =>
        e.pstate p = PS_DISABLED ∧ e.caused pgWHL EV_FW_FAIL)) ∧
    (st ≠ 3 → Answers (.fwConfirm p true) s d) ∧
    (c.on = true → d.hasFw p = false → p ∉ d.boot.confirm → d.gens.next = none →
      (Completes (.fwClusterCopyDone p true) s fun e => e.hasFw p = true ∧ (e.cl p).fwTries = 0 ∧ e = { d with clu := e.clu }) ∧
      (c.fwTries = 0 → Completes (.fwClusterCopyDone p false) s fun e => e.cl p = { c with fwTries := 1 } ∧ e = { d with clu := e.clu })) ∧
    (d.hasFw p = true → Answers (.fwClusterCopyDone p true) s d)) ∧
  (∀ (s : State) (port k i : Nat), s.dev.obeys = true → s.dev.hostUp port = true →
    let d := s.dev
    let res := fun (e : Dev) => e.f pgWHL WHL_FUSECMD_RESULT
    let only := fun (e : Dev) => d.regsOnly e [pgWHL + 0x520]
    (d.sec.presence = true → d.fuseSel = some (k, i) → d.ovrInTime k = true → Completes (.fuseOvr port) s fun e => res e = ST_OK ∧
      unitNo k i ∈ e.boot.ovr ∧ (∀ u ∈ d.boot.ovr, u ∈ e.boot.ovr) ∧ e.sec.count = d.sec.count + 1 ∧ e.mem = d.mem ∧ e.net = d.net) ∧
    (d.sec.presence = true → d.fuseSel = some (k, i) → d.ovrInTime k = false → Completes (.fuseOvr port) s fun e => only e ∧
      res e = ST_DENIED) ∧
    (d.sec.presence = true → d.fuseSel = none → Completes (.fuseOvr port) s (fun e => only e ∧ res e = ST_DENIED) ∧
      Completes (.fuseAdd port) s (fun e => only e ∧ res e = ST_DENIED)) ∧
    (d.sec.presence = true → d.fuseSel = some (k, i) → ∃ e,
      exec (.fuseAdd port) s = .next { s with fuse := { s.fuse with bad := setIns s.fuse.bad (unitNo k i) }, dev := e } ∧ res e = ST_OK ∧
        e.boot = d.boot ∧ e.sec.count = d.sec.count + 1 ∧ e.mem = d.mem ∧ e.net = d.net) ∧
    (d.sec.presence = false → ∀ c ∈ [Instr.fuseOvr port, .fuseAdd port], Completes c s fun e =>
      d.regsOnly e [pgWHL + 0x520, pgWHL + 0x20] ∧ res e = ST_DENIED ∧ e.caused pgWHL EV_PRES_DENIED))

/-- A sequencer, a cluster and a partition are reset by the host, drain, and come back; the panel is reset, or frozen. -/
def Obligations.ResetCommandsComplete : Prop :=
  ∀ (s : State) (port p j h scrub : Nat) (scr : Bool), p < Config.clusters → j < Config.partitions → h < Config.hanks → scrub < 3 →
    let d := s.dev
    let pg := pgCLU p
    let pp := pgPART j
    let c := d.cl p
    let res := fun (e : Dev) => e.f pg CLU_RST_RESULT
    let rising := (d.clu.map (·.1)).Pairwise (· < ·)
    (d.obeys = true → d.owner port →
      (d.present (dieOf p) = true →
        (c.resetting = false → d.inPartReset p = false → (∀ n, n < 4 → (c.eng n).st = .idle) → Completes (.cluSeqReset port p) s fun e =>
          res e = ST_OK ∧ (rising → (e.cl p).seq = {} ∧ (e.cl p).stag = [] ∧ (e.cl p).park = none) ∧ e.mem = d.mem) ∧
        (c.resetting = true ∨ d.inPartReset p = true →
          Completes (.cluSeqReset port p) s (fun e => d.regsOnly e [pg + 0x380] ∧ res e = ST_OK) ∧
          Completes (.cluReset port p scr) s (fun e => d.regsOnly e [pg + 0x380] ∧ res e = ST_OK)) ∧
        (c.resetting = false → d.inPartReset p = false → c.stRun = false → d.areas = [] → d.pstate p = PS_SPARE ∨
          (d.pst (d.partOf p) ≠ P_RUN ∧ d.pst (d.partOf p) ≠ P_DONE) → Completes (.cluReset port p scr) s fun e =>
          (e.cl p).resetting = true ∧ (e.cl p).fenced = true ∧ (e.cl p).units = [] ∧ (e.cl p).pass = none ∧ (e.cl p).rlog = [] ∧
            (rising → (e.cl p).seq = {}) ∧ e.f pg CLU_RST_CLU = 1 ∧ res e = ST_OK ∧ e.mem = d.mem)) ∧
      (d.pst j = P_RESETTING → Completes (.partReset port j scrub) s fun e => d.regsOnly e [pp + 0x908] ∧
        e.f pp PART_RST_RESULT = ST_OK ∧ e.pst j = P_RESETTING) ∧
      (d.pst j ≠ P_RESETTING → Completes (.partReset port j scrub) s fun e => e.pst j = P_RESETTING ∧ e.f pp PART_RST_RST = 1 ∧
        (e.pt j).phase = .reset)) ∧
    (d.obeys = true →
      (c.resetting = true → d.inPartReset p = false → d.cluXfers p = false → Completes (.cluResetDone p) s fun e =>
        (e.cl p).resetting = false ∧ (e.cl p).fenced = decide (d.pstate p = PS_RETIRED) ∧ e.f pg CLU_RST_CLU = 0 ∧ res e = ST_OK ∧
          e.net = d.net ∧ (d.fb pg CLU_RST_SCRUB = false → e.mem = d.mem) ∧
          (d.fb pg CLU_RST_SCRUB = true → (e.cl p).needSeed = true ∧ ∀ o, o < STORE_END → memByte e.mem (csKey p o) = 0)) ∧
      (c.resetting = false ∨ d.cluXfers p = true → Answers (.cluResetDone p) s d) ∧
      (d.pst j = P_RESETTING → (d.pt j).phase = .reset → d.partXfers j = false → d.members j = [] → Completes (.partResetDone j) s fun e =>
        (e.pt j).phase = .resetFlip ∧ e.pst j = P_RESETTING ∧ e.mem = d.mem) ∧
      (d.pst j = P_RESETTING → (d.pt j).phase = .none → Completes (.partResetDone j) s fun e => e.pst j = P_IDLE ∧
        e.f pp PART_CMT_FAILC = 0 ∧ e.f pp PART_CMTST_RPLN = 0 ∧ e.f pp PART_STEP_SUSPD = 0 ∧ e.f pp PART_JKCTL_VALID = 0 ∧
        (e.pt j).k0 = 0 ∧ (e.pt j).k1 = 0 ∧ e.f pp PART_RST_RST = 0 ∧ e.f pp PART_RST_RESULT = ST_OK) ∧
      (d.pst j ≠ P_RESETTING → Answers (.partResetDone j) s d)) ∧
    (d.stopped = false → d.owner port →
      (Completes (.panelReset port) s fun e => e.frozen = false ∧ e.stopped = false ∧ e.sec.count = d.sec.count + 1 ∧ e.mem = [] ∧ e.clu = [] ∧
        e.boot = {} ∧ e.f pgWHL WHL_BOOT_BSTEP = 0 ∧ e.f pgWHL WHL_OWN_OWNER = 0 ∧
        e.net.present = [168, 176, 184 + d.f pgWHL WHL_CLKSTAT_WD] ∧
        (e.hp port).up = (d.hp port).up ∧ (e.hp port).memOn = (d.hp port).memOn ∧ e.sec.presence = d.sec.presence) ∧
      (d.frozen = false → Completes (.panelFreeze port) s fun e => e.frozen = true ∧ e.f (pgHNK h) HNK_BUDGET_NCAP = 1 ∧
        e.f pgWHL WHL_FREQ_FSTATE ≠ 1 ∧ e.mem = d.mem ∧ e.net = d.net) ∧
      (d.frozen = true → Completes (.panelFreeze port) s fun e => d.regsOnly e [pgWHL + 0x540] ∧ e.frozen = true))

/-- The host commits the generation it staged, goes back to the one before, or gives up what it staged; what R425 does not allow is
refused with its code and an event, and changes nothing else. -/
def Obligations.GenerationCommandsComplete : Prop :=
  ∀ (s : State) (port num : Nat) (g : Gen), s.dev.obeys = true → s.dev.owner port → num < 2 ^ 32 →
    let d := s.dev
    let n := d.gens.cur.num
    let code := fun (e : Dev) => e.f pgWHL WHL_GENCTL_ERRC
    let gst := fun (e : Dev) => e.f pgWHL WHL_GENCTL_STATE
    let refused := fun (i : Instr) (c : Nat) => Completes i s fun e =>
      d.regsOnly e [pgWHL + 0x550, pgWHL + 0x500, pgWHL + 0x20] ∧ code e = c ∧ e.caused pgWHL EV_GEN_REFUSED ∧ gst e = gst d
    let held := (List.range Config.partitions).all (fun j =>
      (d.pst j = P_IDLE || d.pst j = P_ABORTED || d.pst j = P_STUCK) && !d.fb (pgPART j) PART_STEP_SUSPD)
    let c := d.genErr d.stagedGen d.xlateSame
    let r := d.genErr g true
    let up := 7 ≤ d.f pgWHL WHL_BOOT_BSTEP
    let calm := ∀ x ∈ d.slub.sc, x.2.prob = false
    (num = n + 1 → up → d.genBusy = false → c = 0 → calm → Completes (.genCommit port num) s fun e => gst e = 1 ∧ code e = 0 ∧
      e.f pgWHL WHL_GENCTL_LOST = 0 ∧ e.f pgWHL WHL_GENCTL_NUM = num ∧ e.mem = d.mem ∧
      ∃ x : Gen, x.num = num ∧ x.tbl = d.stagedTbl ∧ x.regs = d.stagedWords ∧ x.own = d.skn.ownStaged ∧
        (e.gens.next = some (x, 0, none) ∨ (e.gens.cur = x ∧ e.f pgWHL WHL_RTEPOCH_STATE = 1 ∧
          e.f pgWHL WHL_RTEPOCH_E = 1 - d.f pgWHL WHL_RTEPOCH_E))) ∧
    (num ≠ n + 1 ∨ ¬up → refused (.genCommit port num) 1) ∧
    (num = n + 1 → up → d.genBusy = true → refused (.genCommit port num) 2) ∧
    (num = n + 1 → up → d.genBusy = false → c ≠ 0 → refused (.genCommit port num) c) ∧
    (¬up → refused (.genRevert port) 1) ∧
    (up → d.genBusy = true → refused (.genRevert port) 2) ∧
    (up → d.genBusy = false → d.gens.prev = none → refused (.genRevert port) 8) ∧
    (up → d.genBusy = false → d.gens.prev = some g →
      (held = false → refused (.genRevert port) 9) ∧
      (held = true → r ≠ 0 → refused (.genRevert port) r) ∧
      (held = true → r = 0 → calm → Completes (.genRevert port) s fun e => gst e = 2 ∧ code e = 0 ∧ e.mem = d.mem ∧
        ∃ x : Gen, x.num = n + 1 ∧ x.tbl = g.tbl ∧ x.regs = g.regs ∧ x.own = g.own ∧
          (e.gens.next = some (x, 2, none) ∨ (e.gens.cur = x ∧ e.f pgWHL WHL_RTEPOCH_STATE = 1)))) ∧
    (Completes (.genDiscard port) s fun e => e.skn.ownStaged = d.gens.cur.own ∧ code e = 0 ∧ gst e = gst d ∧ e.gens = d.gens ∧
      e.mem = d.mem ∧ e.net = d.net ∧ ∀ a ∈ stagedRegs, writable a (e.reg a) = writable a (d.gens.cur.reg a))

/-- Control of the panel is taken, renewed, forced under presence and lost by time; a refused request changes no owner. -/
def Obligations.OwnershipCommandsComplete : Prop :=
  ∀ (s : State) (port expect new : Nat), s.dev.stopped = false → s.dev.hostUp port = true → expect < 3 → new < 3 →
    let d := s.dev
    let w := port + 1
    let own := fun (e : Dev) => e.f pgWHL WHL_OWN_OWNER
    let res := fun (e : Dev) => e.f pgWHL WHL_OWN_RESULT
    let expired := d.fb pgWHL WHL_OWN_EXPIRED
    let may := own d = expect ∧ (expect = 0 ∨ expect = w ∨ expired = true) ∧ (new = w ∨ own d = w)
    let kept := d.f pgWHL WHL_OWN_EXPECT < 3 ∧ d.f pgWHL WHL_OWN_NEW < 3
    let leased := fun (e : Dev) => e.fb pgWHL WHL_OWN_EXPIRED = false ∧ e.sec.leaseEnd = d.gt + 8000000000
    let only := fun (e : Dev) => d.regsOnly e [pgWHL + 0x548] ∧ own e = own d
    (may → Completes (.ownCas port expect new) s fun e => own e = new ∧ res e = ST_OK ∧ leased e ∧
      (own d ≠ new → e.caused pgWHL EV_OWN_CHANGE) ∧ e = { d with regs := e.regs, sec := { d.sec with leaseEnd := d.gt + 8000000000 } }) ∧
    (¬may → Completes (.ownCas port expect new) s fun e => only e ∧ res e = ST_DENIED) ∧
    (kept →
      (d.owns port = true → Completes (.ownRenew port) s fun e => own e = w ∧ res e = ST_OK ∧ leased e ∧
        e = { d with regs := e.regs, sec := { d.sec with leaseEnd := d.gt + 8000000000 } }) ∧
      (d.owns port = false → Completes (.ownRenew port) s fun e => only e ∧ res e = ST_DENIED) ∧
      (d.sec.presence = true → Completes (.ownForce port) s fun e => own e = w ∧ res e = ST_OK ∧ leased e ∧ e.caused pgWHL EV_OWN_CHANGE ∧
        e.f pgWHL WHL_SECST_FORCED = 1 ∧ e.sec.count = d.sec.count + 1 ∧ e.mem = d.mem ∧ e.net = d.net) ∧
      (d.sec.presence = false → Completes (.ownForce port) s fun e => d.regsOnly e [pgWHL + 0x548, pgWHL + 0x20] ∧ own e = own d ∧
        res e = ST_DENIED ∧ e.caused pgWHL EV_PRES_DENIED)) ∧
    (own d ≠ 0 → d.sec.leaseEnd ≤ d.gt → Completes .ownLeaseExpiry s fun e => only e ∧ e.fb pgWHL WHL_OWN_EXPIRED = true) ∧
    (own d = 0 ∨ d.gt < d.sec.leaseEnd → Answers .ownLeaseExpiry s d) ∧
    fld (d.hostRead s.fuse port (pgWHL + 0x548)) 31 0 = (if own d = 0 then 0 else (d.sec.leaseEnd - d.gt) / 4000 % 2 ^ 32) ∧
    (d.owns port = true → Completes (.panelReset port) s fun e => own e = 0)

/-- Presence comes and goes with its input and stays once the seal fuse is blown; owner keys are enrolled and revoked under presence and
blown; debug mode is entered and left; a report is asked for and signed. Each leaves its entries in the measurement log. -/
def Obligations.SecurityCommandsComplete : Prop :=
  ∀ (s : State) (port slot : Nat) (h : BitVec 512), s.dev.stopped = false → slot < 4 →
    let d := s.dev
    let fu := s.fuse
    let on := d.sec.presence
    let one := fun (e : Dev) => e.sec.count = d.sec.count + 1
    let kres := fun (e : Dev) => e.f pgWHL WHL_KEYCMD_RESULT
    let inp := fun (e : Dev) => e.f pgWHL WHL_SECST_INPUT
    let known := slot ∈ fu.enrolled ∨ slot ∈ fu.revoked
    let quiet := fun (e : Dev) => e.mem = d.mem ∧ e.net = d.net ∧ e.clu = d.clu
    let st := d.f pgWHL WHL_ATTCTL_STATE
    (Completes .presenceAssertHeld s fun e => e.sec.presence = true ∧ inp e = 1 ∧ quiet e ∧
      (on = false → one e ∧ e.caused pgWHL EV_PRES_CHANGE) ∧ (on = true → e.sec = d.sec)) ∧
    (Completes .presenceRelease s fun e => e.sec.presence = fu.sealBlown ∧ inp e = 0 ∧ quiet e ∧
      (on ≠ fu.sealBlown → one e ∧ e.caused pgWHL EV_PRES_CHANGE) ∧ (on = fu.sealBlown → e.sec = d.sec)) ∧
    (fu.sealBlown = false → ∃ e, exec .sealLoopOpen s = .next { s with fuse := { fu with sealBlown := true }, dev := e } ∧
      e.sec.presence = true ∧ e.f pgWHL WHL_SECST_LOOP = 1 ∧ one e ∧ quiet e ∧ (on = false → e.caused pgWHL EV_PRES_CHANGE)) ∧
    (fu.sealBlown = true → Completes .sealLoopOpen s fun e => d.regsOnly e [pgWHL + 0x608] ∧ e.f pgWHL WHL_SECST_LOOP = 1) ∧
    (d.frozen = false → d.hostUp port = true →
      (on = true →
        (d.sec.keyCmd = none → ¬known → Completes (.keyEnrol port slot) s fun e =>
          e.sec.keyCmd = some (true, slot, d.keyHashReg port) ∧ one e ∧ quiet e) ∧
        (d.sec.keyCmd = none → known → Completes (.keyEnrol port slot) s fun e => d.regsOnly e [pgWHL + 0x610] ∧ kres e = ST_DENIED) ∧
        (d.sec.keyCmd = none → Completes (.keyRevoke port slot) s fun e => e.sec.keyCmd = some (false, slot, 0) ∧ one e ∧ quiet e) ∧
        (d.sec.keyCmd ≠ none → ∀ c ∈ [Instr.keyEnrol port slot, .keyRevoke port slot], Completes c s fun e =>
          d.regsOnly e [pgWHL + 0x610] ∧ kres e = ST_BUSY) ∧
        (d.fb pgWHL WHL_DBG_EN = false → Completes (.dbgEnter port) s fun e => e.f pgWHL WHL_DBG_EN = 1 ∧ e.f pgWHL WHL_DBG_SEEN = 1 ∧
          e.sec.count = d.sec.count + 2 ∧ quiet e)) ∧
      (on = false →
        (∀ c ∈ [Instr.keyEnrol port slot, .keyRevoke port slot], Completes c s fun e =>
          d.regsOnly e [pgWHL + 0x610, pgWHL + 0x20] ∧ kres e = ST_DENIED ∧ e.caused pgWHL EV_PRES_DENIED) ∧
        (Completes (.dbgEnter port) s fun e => d.regsOnly e [pgWHL + 0x20] ∧ e.caused pgWHL EV_PRES_DENIED)) ∧
      (d.fb pgWHL WHL_DBG_EN = true → Completes (.dbgExit port) s fun e => e.f pgWHL WHL_DBG_EN = 0 ∧ one e ∧ quiet e ∧
        e.f pgWHL WHL_DBG_SEEN = d.f pgWHL WHL_DBG_SEEN) ∧
      (d.fb pgWHL WHL_DBG_EN = false → Answers (.dbgExit port) s d) ∧
      (st ≠ 1 → Completes (.attReq port) s fun e => e.f pgWHL WHL_ATTCTL_STATE = 1 ∧ e.f pgWHL WHL_ATTCTL_RESULT = ST_OK ∧
        e.sec.draft = d.attBody fu port ∧ quiet e) ∧
      (st = 1 → Completes (.attReq port) s fun e => d.regsOnly e [pgWHL + 0x6B0] ∧ e.f pgWHL WHL_ATTCTL_RESULT = ST_BUSY)) ∧
    (d.sec.keyCmd = some (true, slot, h) → ∃ e, exec .keycmdDone s = .next { s with
      fuse := { fu with slots := SMap.set 0 fu.slots slot h, enrolled := setIns fu.enrolled slot }, dev := e } ∧ kres e = ST_OK ∧
      e.sec = { d.sec with keyCmd := none } ∧ quiet e) ∧
    (d.sec.keyCmd = some (false, slot, h) → ∃ e, exec .keycmdDone s = .next { s with
      fuse := { fu with revoked := setIns fu.revoked slot }, dev := e } ∧ kres e = ST_OK ∧ e.sec = { d.sec with keyCmd := none } ∧ quiet e) ∧
    (d.sec.keyCmd = none → Answers .keycmdDone s d) ∧
    (st = 1 → Completes .attDone s fun e => e.f pgWHL WHL_ATTCTL_STATE = 2 ∧ e.caused pgWHL EV_ATT_DONE ∧ quiet e ∧
      e.sec.report = d.sec.draft ++ Config.mldsaSign fu.seed attContext d.sec.draft ∧
      e.f pgWHL WHL_ATTCTL_SEQ = (d.f pgWHL WHL_ATTCTL_SEQ + 1) % 2 ^ 32) ∧
    (st ≠ 1 → Answers .attDone s d)

/-- Host reads that latch or step answer the selected word and leave what they latch for the port's next reads; the identity bus reads the
identity block. An access to the data window goes out as a transfer of its port, or is refused whole with DENIED when neither ownership nor
the partition's limits allow it; a write that no byte enable covers ends at once. -/
def Obligations.HostReadAndWindowCommandsComplete : Prop :=
  (∀ (s : State) (port p page off len : Nat) (idk : Bool), s.dev.stopped = false → p < Config.clusters → page < 2 → off < 256 →
    let d := s.dev
    let a := pgCLU p + 0x108
    let k := d.accView p
    let gives := fun (e : Dev) (v : Word) => (e.hp port).rdata = leBytes 8 v.toNat ∧ (e.hp port).rstat = 0
    let x := portReg port (if idk then 0x6C8 else 0x6B8)
    let r := d.reg x
    (d.hostUp port = true →
      (d.present (dieOf p) = true → d.fb pgWHL WHL_DBG_EN = true → Completes (.accLoRead port p) s fun e =>
        gives e (BitVec.ofNat 64 k.1.toNat) ∧ e.reg (a + 8) = BitVec.ofNat 64 (k.1.toNat / 2 ^ 64) ∧ e.reg (a + 16) = k.2 ∧
        e = { d with regs := e.regs, ports := e.ports } ∧ ∀ y, y ≠ a + 8 → y ≠ a + 16 → e.reg y = d.reg y) ∧
      (d.present (dieOf p) = false ∨ d.fb pgWHL WHL_DBG_EN = false → Completes (.accLoRead port p) s fun e => gives e 0 ∧
        e = { d with ports := e.ports }) ∧
      (Completes (.sknValueRead port page) s fun e => gives e (d.skValue page) ∧ e.regs = d.regs ∧ e.skn.sk = d.skn.sk ∧
        ∀ o ∈ [0x90, 0x98, 0xA0, 0xA8, 0xB0], SMap.get 0 e.skn.latch (page * 4096 + o) = d.skLatch page o) ∧
      (bit r 63 = true → Completes (.attWordRead port idk) s fun e => gives e (d.attWord port idk) ∧
        fld (e.reg x) 9 0 = (fld r 9 0 + 1) % 1024 ∧ fld (e.reg x) 63 10 = fld r 63 10 ∧ e = { d with regs := e.regs, ports := e.ports }) ∧
      (bit r 63 = false → Completes (.attWordRead port idk) s fun e => gives e (d.attWord port idk) ∧ e = { d with ports := e.ports }) ∧
      (∀ ws, d.logEntry port = some ws → Completes (.logdataRead port) s fun e => gives e (ws.headD 0) ∧ (e.hp port).logLatch = ws ∧
        e = { d with ports := e.ports }) ∧
      (d.logEntry port = none → Completes (.logdataRead port) s fun e => (e.hp port).logLatch.length = 16 ∧ (e.hp port).rstat = 0 ∧
        e = { d with ports := e.ports, free := d.free + 16 })) ∧
    (off < 96 → Answers (.identityBusRead off len) s
      { d with idBus := (List.range len).map (fun i => (d.idBlock s.fuse).getD ((off + i) % 96) 0) }) ∧
    (96 ≤ off → Completes (.identityBusRead off len) s fun e => e.idBus.length = len ∧
      e = { d with idBus := e.idBus, free := d.free + len })) ∧
  (∀ (s : State) (port base off len : Nat) (data : List Byte) (dis : List Nat), s.dev.obeys = true → s.dev.hostUp port = true → base < 2 ^ 18 →
    0 < len → len ≤ 4096 → off + len ≤ 2 ^ 34 → data.length = len →
    let d := s.dev
    let a := base * 2 ^ 34 + off
    let ok := (d.owns port = true ∨ d.dwMay port a len = true) ∧ d.resolve a ≠ .aperture
    let rd := Instr.dataWindowAccess port false base off len [] dis
    let wr := Instr.dataWindowAccess port true base off len data dis
    let pg := pgIOD (8 * port)
    let denied := fun (e : Dev) => (e.hp port).dwBase = base ∧ d.counted e pg HP_ERR_DENY 1 ∧ e.f pg HP_ERR_LAST = ST_DENIED ∧
      e.mem = d.mem ∧ e.net = d.net ∧ e.clu = d.clu
    let sent := fun (e : Dev) (typ k : Nat) => (e.hp port).dwBase = base ∧ e.mem = d.mem ∧ ∃ x ∈ e.net.xfers, x.flow = d.net.nextFlow ∧
      x.owner = .host port len ∧ x.ep = 168 + 8 * port ∧ x.typ = typ ∧ x.part = 15 ∧ x.left.length = k
    (¬ok → Completes rd s (fun e => denied e ∧ (e.hp port).rdata = List.replicate len 0xFF ∧ (e.hp port).rstat = ST_DENIED) ∧
      Completes wr s (fun e => denied e ∧ (e.hp port).rdata = (d.hp port).rdata)) ∧
    (ok → a % 256 + len ≤ 256 → Completes rd s (fun e => sent e T_RD 1) ∧ (dis = [] → Completes wr s fun e => sent e T_WR 1)) ∧
    (ok → (∀ i, i < len → i ∈ dis) → Completes wr s fun e => (e.hp port).dwBase = base ∧ e = { d with ports := e.ports }))

/-- An endpoint's causes reach its die summary, the panel summary and the vectors; a host clears latches, unmasks vectors, clears and forces
causes and clears error logs. -/
def Obligations.EventCommandsComplete : Prop :=
  ∀ (s : State) (port ep i k vec page n : Nat) (c : Cls) (v : Word), s.dev.stopped = false → ep < 192 → i < 4 → k < 64 → vec < 256 → page < 16384 →
    let d := s.dev
    let base := barPage page
    let w := d.dsumNow ep
    let x := 64 * i + k
    let h := d.hp port
    (Completes (.eventSummaryPropagate ep) s fun e => SMap.get 0 e.dsum (2 * ep) = w.1 ∧ SMap.get 0 e.dsum (2 * ep + 1) = w.2 ∧
      e.evsum ep = (w.1 != 0 || w.2 != 0) ∧ (∀ y, y < 192 → y ≠ ep → e.evsum y = d.evsum y) ∧
      (∀ q y, q < 2 → y < 256 → e.vecHolds q y = true → e.latched q y = true) ∧ e.mem = d.mem ∧ e.net = d.net ∧ e.clu = d.clu) ∧
    (d.hostUp port = true →
      (Completes (.vpendClear port i v) s fun e => e = { d with regs := e.regs, ports := e.ports } ∧
        (d.vecHolds port x = true → e.latched port x = true) ∧
        (d.vecHolds port x = false → e.latched port x = (d.latched port x && !bit v k))) ∧
      (vec ∈ h.pba → h.msixOn = true → Completes (.msixVectorUnmask port vec) s fun e => (e.hp port).sent = vec :: h.sent ∧
        vec ∈ (e.hp port).unmasked ∧ vec ∉ (e.hp port).pba ∧ e = { d with ports := e.ports }) ∧
      (vec ∉ h.pba → Completes (.msixVectorUnmask port vec) s fun e => (e.hp port).sent = h.sent ∧ vec ∈ (e.hp port).unmasked ∧
        e = { d with ports := e.ports })) ∧
    (d.frozen = false → d.hostUp port = true → d.pageOn c n = true → (c, n) ≠ (.rtr, 511) → 0 < nevt c n →
      (pageOf (base + 0x20) = (c, n, 0x20) → Completes (.evtCauseClear port page v) s fun e => d.regsOnly e [base + 0x20] ∧
        ∀ y, y < nevt c n → (e.caused base y ↔ d.caused base y ∧ bit v y = false)) ∧
      (pageOf (base + 0x30) = (c, n, 0x30) → d.owns port = true → Completes (.evtForce port page v) s fun e => d.regsOnly e [base + 0x20] ∧
        ∀ y, y < nevt c n → (e.caused base y ↔ d.caused base y ∨ bit v y = true)) ∧
      (pageOf (base + 0x30) = (c, n, 0x30) → d.owns port = false → Completes (.evtForce port page v) s fun e =>
        d.regsOnly e [pgWHL + 0x20] ∧ e.caused pgWHL EV_OWN_DENIED) ∧
      (pageOf (base + 0x10) = (c, n, 0x10) → d.owns port = true → Completes (.logclr port page) s fun e =>
        e.f base HDR_STATUS_LOGV = 0 ∧ e.f base HDR_CTRL_LOGHOLD = d.f base HDR_CTRL_LOGHOLD ∧ (∀ y, y < 9 → e.reg (base + 0x38 + 8 * y) = 0) ∧
        e = { d with regs := e.regs } ∧ e.reg (base + 0x20) = d.reg (base + 0x20) ∧ e.reg (base + 0x28) = d.reg (base + 0x28)))

/-- A host port's link comes up, is lost or is reset; accesses that R462 does not allow and management accesses that time out are counted and
answered as the spec says. -/
def Obligations.HostPortCommandsComplete : Prop :=
  ∀ (s : State) (port speed width addr len i : Nat), s.dev.stopped = false → port < 2 → 1 ≤ speed → speed ≤ 5 → width ∈ [1, 2, 4, 8, 16] →
    0 < len → addr + len ≤ 2 ^ 26 → i < 4 →
    let d := s.dev
    let h := d.hp port
    let pg := pgIOD (8 * port)
    let bad := fun (wr : Bool) => Instr.bar0BadAccess port wr addr len
    let late := fun (wr : Bool) => Instr.mgtTimeout port wr addr
    (Completes (.hpLinkUp port speed width) s fun e => (e.hp port).up = true ∧ (e.hp port).speed = speed ∧ (e.hp port).width = width ∧
      (e.hp port).memOn = true ∧ (e.hp port).msixOn = true ∧ (∀ v, v < 256 → e.vecHolds port v = true → e.latched port v = true) ∧
      e = { d with regs := e.regs, ports := e.ports }) ∧
    (h.up = true → Completes (.hpLinkDown port) s fun e => e.hp port = { h with up := false } ∧ d.counted e pg HP_ERR_LDOWN 1 ∧
      e.caused pg EV_HP_LINK ∧ e = { d with regs := e.regs, ports := e.ports }) ∧
    (h.up = false → Answers (.hpLinkDown port) s d) ∧
    (Completes (.hpPerst port) s fun e => e.hp port = { h with memOn := false, msixOn := false, dwBase := 0, unmasked := [], pba := [] } ∧
      e.reg (portReg port (0xC0 + 8 * i)) = 0 ∧ e = { d with regs := e.regs, ports := e.ports }) ∧
    (d.hostUp port = true →
      (barAllowed addr len = false → ∀ wr, Completes (bad wr) s fun e => d.counted e pg HP_ERR_BADACC 1 ∧
        (h.derrAt = none → e.caused pg EV_HP_DERR) ∧ (wr = false → (e.hp port).rdata = [] ∧ (e.hp port).rstat = 16) ∧
        (wr = true → (e.hp port).rdata = h.rdata) ∧ e = { d with regs := e.regs, ports := e.ports }) ∧
      (barAllowed addr len = true → ∀ wr, Answers (bad wr) s d) ∧
      (∀ wr, leaderRing addr wr = false → addr < 2 ^ 26 → Completes (late wr) s fun e => d.counted e pgWHL WHL_MGTTMO_COUNT 1 ∧
        (wr = false → (e.hp port).rdata = List.replicate 8 0xFF) ∧ (wr = true → e.ports = d.ports) ∧
        e = { d with regs := e.regs, ports := e.ports }) ∧
      (∀ wr, leaderRing addr wr = true → addr < 2 ^ 26 → Answers (late wr) s d))

/-- A host's write of eight bytes reaches the writable fields of the register and no other; what ownership, a running commit, the freeze or the
page's absence forbids changes nothing but the record of the refusal. -/
def Obligations.RegisterWritesComplete : Prop :=
  ∀ (s : State) (port j i addr : Nat) (v : Word), s.dev.stopped = false → s.dev.hostUp port = true → j < Config.partitions → i < 8 →
    let d := s.dev
    let pg := pgIOD (8 * port)
    let w := fun (a : Nat) => Instr.registerWrite port a v
    let mem := pgPART j + 0x9C0 + 16 * i
    let only := fun (e : Dev) (as : List Nat) => d.regsOnly e as
    (addr < 2 ^ 26 → addr % 8 ≠ 0 → Completes (w addr) s fun e => d.counted e pg HP_ERR_BADACC 1 ∧ e.mem = d.mem ∧ e.net = d.net) ∧
    (addr < 2 ^ 26 → addr % 8 = 0 → (pageOf addr).1 = .none → Answers (w addr) s d) ∧
    (d.frozen = true → Answers (w (pgWHL + 0x380)) s d ∧ Answers (w mem) s d) ∧
    (Completes (w (pgWHL + 0xB0)) s fun e => only e [portReg port 0xB0] ∧ fld (e.reg (portReg port 0xB0)) 7 0 = fld v 7 0) ∧
    (d.frozen = false → d.owns port = true → Completes (w (pgWHL + 0x380)) s fun e => only e [pgWHL + 0x380] ∧
      e.f pgWHL WHL_SLUBCTL_HLH = fld v 63 48 ∧ e.f pgWHL WHL_SLUBCTL_RSV = fld v 47 40 ∧ e.f pgWHL WHL_SLUBCTL_RCAP = fld v 39 32 ∧
      e.f pgWHL WHL_SLUBCTL_PRSV = fld v 15 8 ∧ e.f pgWHL WHL_SLUBCTL_PCAP = fld v 7 0 ∧
      e.f pgWHL WHL_SLUBCTL_SPARES = d.f pgWHL WHL_SLUBCTL_SPARES) ∧
    (d.frozen = false → d.owns port = false → ∀ a ∈ [pgWHL + 0x380, mem], Completes (w a) s fun e => only e [pgWHL + 0x20] ∧
      e.caused pgWHL EV_OWN_DENIED) ∧
    (d.frozen = false → d.owns port = true → d.f pgWHL WHL_GENCTL_STATE ≠ 0 → Completes (w mem) s fun e => only e [pgWHL + 0x550] ∧
      e.f pgWHL WHL_GENCTL_ERRC = 2) ∧
    (d.frozen = false → d.owns port = true → d.f pgWHL WHL_GENCTL_STATE = 0 → Completes (w mem) s fun e => only e [mem] ∧
      e.f (pgPART j) PART_MEMi_BASE_BASE i = fld v (PART_MEMi_BASE_BASE.hi) (PART_MEMi_BASE_BASE.lo) ∧ e.gens = d.gens)
end

