-- ==== Sys2Proof/Tests/Slice0.lean ====
section
/-!
SUPPORT. Tests. First the checks of well-formedness, the queue and reset; then small runs whose results are worked out by hand from the
rules; then, for every statement that has hypotheses, a state and operands for each of its clauses that meet all of the clause's hypotheses
together.
-/

set_option Elab.async false

namespace Sys2Proof.Tests

open Sys2Proof.Machine

/-! ### States -/

/-- A state with nothing fused and no command waiting. -/
def st (d : Dev) : State := { fuse := {}, dev := d, pending := [] }
/-- The panel after reset with host port 0 up. -/
def d1 : Dev := { State.reset.dev with ports := [(0, { up := true, memOn := true })], sec := {} }
/-- The same with registers that hold words. -/
def on (l : List (Nat × Nat)) : Dev := l.foldl (fun d x => d.setReg x.1 (BitVec.ofNat 64 x.2)) d1
/-- WHL_OWN naming port 0 as the owner. -/
def own0 : Nat × Nat := (0x548, 2 ^ 62)
def s0 : State := st (on [own0])
/-- Bring-up has ended step n; BSTATE is b. -/
def boot (n b : Nat) (f : Dev → Dev := id) : State := st (f (on [(0x500, n * 2 ^ 44 + b * 2 ^ 42), own0]))
def imgs : SMap Image := [(0, ⟨0, 1, 0, 0⟩), (1, ⟨1, 1, 0, 0⟩), (2, ⟨2, 1, 0, 0⟩)]
/-- The panel with more endpoints present. -/
def Pr (es : List Nat) (d : Dev) : Dev := { d with net := { d.net with present := es } }
/-- A cluster of the panel. -/
def Cl (p : Nat) (c : Clu) (d : Dev) : Dev := { d with clu := [(p, c)] }
def Sec (f : Sec → Sec) (d : Dev) : Dev := { d with sec := f d.sec }
/-- Firmware state `f`, cause clear, after bring-up step n with BSTATE b. -/
def fw (f n b : Nat) (g : Dev → Dev := id) : State := st (g (on [(0x500, n * 2 ^ 44 + b * 2 ^ 42), (0x538, f * 2 ^ 61), own0]))
def im0 : Image := ⟨1, 7, 0, 9⟩
def im3 : Image := ⟨3, 7, 0, 9⟩
def Bt (f : Boot → Boot) (d : Dev) : Dev := { d with boot := f d.boot }
def pres (d : Dev) : Dev := { d with sec := { d.sec with presence := true } }
/-- A command word: opcode and fields (low bit, value). -/
def cmd (op : Nat) (l : List (Nat × Nat)) : Cmd :=
  BitVec.ofNat 128 (l.foldl (fun a x => a + x.2 * 2 ^ x.1) (op * 2 ^ 120))
/-- Cluster 7 (LC 5 of partition 2, die 0), which is to issue w at PC 0. -/
def runW (w : Cmd) (f : Seq → Seq := id) (c : Clu → Clu := id) (g : Dev → Dev := id) : State :=
  st (g { Pr [0, 112, 168, 176, 184] (on [own0, (0x1007080, 2 * 2 ^ 24 + 5 * 2 ^ 12)]) with
    clu := [(7, c { on := true, seq := f { st := .run } })]
    mem := memWrite [] (csKey 7 0) (leBytes 16 w.toNat) })
/-- Bytes in cluster 7's store. -/
def poke (o : Nat) (bs : List Byte) (d : Dev) : Dev := { d with mem := memWrite d.mem (csKey 7 o) bs }
def reg (l : List (Nat × Nat)) (d : Dev) : Dev := l.foldl (fun d x => d.setReg x.1 (BitVec.ofNat 64 x.2)) d
/-- Word k of the route tables of endpoint e, epoch 0. -/
def rt (e t i v : Nat) (d : Dev) : Dev := { d with net := { d.net with tbl := SMap.set 0 d.net.tbl (tblKey 0 e t 0 i) (BitVec.ofNat 64 v) } }
def ir (q : Seq) : Seq := (q.setIreg 1 (-5)).setIreg 2 3
def i1 (v : Nat) (q : Seq) : Seq := q.setIreg 1 (BitVec.ofNat 64 v)
def i2 (v : Nat) (q : Seq) : Seq := q.setIreg 2 (BitVec.ofNat 64 v)
/-- A draft descriptor in the store at 0x1000: a COPY of four runs of 64 bytes. -/
def desc : List Byte := ([2 ^ 60 + 2 ^ 42, 0, ownSlot 5 + 0x4000, 0, 63 * 2 ^ 48, 0, 0, 0, 0, 4 * 2 ^ 40 + 64] : List Nat).flatMap (leBytes 8)
def vu (k op id st : Nat) (u : UnitK) (w : Cmd := cmd op []) : UCmd :=
  { id := id, unit := u, w := w, pc := 0, args := [], started := true, fin := true, status := st, val := k, wreg := none, left := 0, due := none }

def mapped (p lc j : Nat) : Nat × Nat := (0x1000080 + p * 0x1000, j * 2 ^ 24 + lc * 2 ^ 12)
def cs (l : List (Nat × Clu)) (rs : List (Nat × Nat)) (g : Dev → Dev := id) : State :=
  st (g { Pr [0, 2, 3, 5, 112, 168, 176, 184] (on (own0 :: rs)) with clu := l })
/-- Generation 1: the XLATE entry of each pair, and register words. -/
def gen (xl : List (Nat × Nat)) (rs : List (Nat × Nat)) (d : Dev) : Dev :=
  let tb (b e : Nat) (m : SMap Word) : SMap Word := xl.foldl (fun m x => SMap.set 0 m (tblKey b e 0 0 (x.1 / 4))
    (setFld (SMap.get 0 m (tblKey b e 0 0 (x.1 / 4))) (16 * (x.1 % 4) + 15) (16 * (x.1 % 4)) (2 ^ 15 + x.2 % 8 * 256 + x.2 / 8))) m
  { d with
    gens := { d.gens with cur := { num := 1, tbl := tb 0 0 [], regs := rs.map (fun x => (x.1, BitVec.ofNat 64 x.2)) } }
    net := { d.net with tbl := d.net.present.foldl (fun m e => tb 0 e m) d.net.tbl } }
def pk (l : Loc) (t : Nat) : Pkt := { loc := l, typ := t }
def withP (ps : List Pkt) (xs : List Xfer) (d : Dev) : Dev := { d with net := { d.net with pkts := ps, xfers := xs } }
def xf (flow : Nat) (o : Own) (t part : Nat) (left : List (Nat × Nat)) : Xfer := { flow := flow, owner := o, typ := t, part := part, left := left }
def opr (lanes : Nat) (v : Byte) : Oper := { fmt := 0, lanes := lanes, ring := none, off := 0x1000, spp := 0, slotsLeft := 0, took := 0, rsk := 0, el := List.replicate lanes v, sc := [], maxes := [], pois := false }
def pas (l0 : Int) : Pass := { id := 4, set := 0, k := 1, m := 2, n := 1, tile := 5, wauto := false, l0 := l0, shift := 16, rlim := 3, tries := 0, held := false, a := opr 128 0x38, b := opr 256 0x3C }
def rpas : Pass := { pas 0 with a := { opr 128 0 with ring := some 1, slotsLeft := 2, el := [] } }
def feedE (st : DftSt) (sig con : Nat) : Draft := { st := st, desc := (([2 ^ 60 + 2 ^ 59 + 2 ^ 42 + 127 * 2 ^ 31 + 3 * 2 ^ 25, 1, 0, 0x8000, 127 * 2 ^ 48, 0, 0x100 * 2 ^ 32 + 0x101, 0, 0, 4 * 2 ^ 40 + 64] : List Nat).map (BitVec.ofNat 64)), signalled := sig, consumed := con }
def copyE (st : DftSt) (ch sig placed : Nat) : Draft := { st := st, desc := (([2 ^ 60 + 2 ^ 42, 0, 0, 0x8000, 127 * 2 ^ 48, ch * 2 ^ 58, 0x100 * 2 ^ 32 + 0x101, 0, 0, 64 * 2 ^ 40 + 64] : List Nat).map (BitVec.ofNat 64)), signalled := sig, pos := 128 * placed, done := 128 * placed }
def pr : PlyRec := { id := 6, step := 1, tile := 5, w := 0, shift := 8, rlim := 3, l := 0, k := 1, m := 1, n := 1, a := { opr 128 0x38 with slots := [(0x1000, 128)] }, b := { opr 256 0x3C with slots := [(0x2000, 256)] }, d1 := 77, d2 := none, partner := 20, referee := none, xd := [], reissues := 0, due := 5, toRef := false, flagged := false, attrib := none, sent := true }
/-- What the reads of both operands brought. -/
def got2 : List (Nat × List Byte) := [(0, List.replicate 128 0x38), (1, List.replicate 256 0x3C)]
/-- A packet at the ply mailbox of cluster p from cluster 20. -/
def mbx (p lc : Nat) (bs : List Byte) : Pkt := { pk (.dst (dieOf p) (cOf p)) T_WR with part := 15, addr := ownSlot lc + MAILBOX, data := bs, len := 64, sep := 2, scl := 4, flow := 9 }
def g20 : Dev → Dev := gen [(5, 7), (6, 20), (7, 40)] [(0x402940, 224)]
def tk (ran : Bool) (got : List (Nat × List Byte) := []) : Ticket := ⟨7, 6, ran, 0, got⟩
def up (es : List Nat) (d : Dev) : Dev := Pr es d
def opt1 (f : Opt → Opt) (d : Dev) : Dev := { d with opt := f d.opt }
/-- Optics calibrated on the endpoints. -/
def lit (es : List Nat) (d : Dev) : Dev := opt1 (fun o => { o with cal := es }) d
def G (f : Gens → Gens) (d : Dev) : Dev := { d with gens := f d.gens }
def N (f : Net → Net) (d : Dev) : Dev := { d with net := f d.net }
def cmb : Comb := { d := 0, c := 3, epoch := 0, grp := 9, addr := 0x3000, hdr := { loc := .dst 0 3, typ := T_LWORD, vc := 2, mcg := 9, dep := 2, dcl := 1, part := 2, addr := 0x3000 }, inmask := 3, joined := [1], words := [], opened := 0 }
/-- A present panel with registers. -/
def sr (rs : List (Nat × Nat)) (g : Dev → Dev := id) : State := st (g (Pr [0, 1, 2, 112, 168, 176, 184] (on (own0 :: rs))))
def lnk (n : Nat) (l : Link) (d : Dev) : Dev := d.updLink n (fun _ => l)
def l64 : Link := { actF := List.range 64, actR := List.range 64 }
def snt (pl at_ : Nat) (q : Pkt) : Sent := ⟨0, 112, 5, pl, at_, q⟩
/-- A memory that serves. -/
def mrs : List (Nat × Nat) := [(0xE00080, 1), (0xF00100, 0x55)]
def hdrOf (l : List (Nat × Nat)) : BitVec 256 := BitVec.ofNat 256 (l.foldl (fun a x => a + x.2 * 2 ^ x.1) 0)
def preOf (h : BitVec 256) (hi : Nat) : Word := BitVec.ofNat 64 (hi * 2 ^ 32 + prefixCrc h (BitVec.ofNat 64 (hi * 2 ^ 32)))
def win (d : Dev) : Dev := reg [(0x3000400, 2 ^ 49), (0x3000408, 2 ^ 63 + 15 * 2 ^ 59 + 77 * 2 ^ 40 + 16)] d
def hRD : BitVec 256 := hdrOf [(248, 1), (201, 5), (117, 64), (89, 77), (0, 2 ^ 49 + 5 * 2 ^ 25 + 0x1000 - 5 * 2 ^ 25)]
/-- Area header words: arm bit, state 61:60, kind, mode, part, NELEM; threshold; time limit. -/
def hB (l : List (Nat × Nat)) (w1 w2 : Nat) : List Byte :=
  leBytes 8 (l.foldl (fun a x => a + x.2 * 2 ^ x.1) 0) ++ leBytes 8 w1 ++ leBytes 8 w2 ++ leBytes 40 0
def lwb (c v : Nat) : List Byte := leBytes 16 v ++ leBytes 2 0 ++ [0, 0] ++ leBytes 4 c
def put (k : Nat) (bs : List Byte) (d : Dev) : Dev := { d with mem := memWrite d.mem k bs }
def ar0 : Area := ⟨wsKey 0 0x400, 112, 0, 0x400, 0, false, [], [], 0, false⟩
def sk1 (x : Skein) (d : Dev) : Dev := { d with skn := { d.skn with sk := [(0x100, x)] } }
def own1 (o : Nat) (d : Dev) : Dev := { d with gens := { d.gens with cur := { d.gens.cur with own := [(skBlock 0x100, o)] } } }
def sf (pg : Nat) (x : Fld) (v : Nat) (i : Nat) (d : Dev) : Dev := d.setf pg x v i
/-- Partition 5 enrolled with manager panel `m`, slot 3, standby panel `b`. -/
def enr (m b : Nat) (d : Dev) : Dev :=
  sf (pgTUB 0) TUB_JOBp_EN 1 5 (sf (pgTUB 0) TUB_JOBp_JSLOT 3 5 (sf (pgTUB 0) TUB_JOBp_MGR m 5 (sf (pgTUB 0) TUB_JOBp_STBY b 5 d)))
def pst5 (v : Nat) : Dev → Dev := sf (pgPART 5) PART_CMT_STATE v 0
def cur5 (v : Nat) : Dev → Dev := sf (pgPART 5) PART_CMTST_CUR v 0
/-- Manager slot 3 with a roster in tier 2 of the given entries. -/
def rost (l : List Nat) (d : Dev) : Dev :=
  { sf (pgTUB 67) TUB_MGR_ROSTER_ADDR (2 ^ 42) 0 (sf (pgTUB 67) TUB_MGR_ROSTER_NM1 (l.length - 1) 0 d) with
    mem := memWrite d.mem (t2Key 0 0) (l.flatMap (leBytes 8)) }
def mst3 (v : Nat) : Dev → Dev := sf (pgTUB 67) TUB_MGR_STATUS_MSTATE v 0
def mg3 (m : Mgr) (d : Dev) : Dev := { d with mgrs := [(3, m)] }
def ms (g : Dev → Dev) : State := st (g (Pr [0, 2, 5, 112, 168, 176, 184] (on [own0, (0x500, 2 * 2 ^ 42)])))
def run5 (d : Dev) : Dev := gen [(5, 7)] [] d

/-! ### Well-formedness: one ill-formed command for each kind of check -/

theorem test_word_of_another_row : (Instr.halt 3 (cmd 0x00 [])).wellFormed = false := by decide +kernel
theorem test_word_of_no_row : (Instr.halt 3 (cmd 0xFF [])).wellFormed = true := by decide +kernel
theorem test_cluster_absent : (Instr.seqWaitEnd 896).wellFormed = false ∧ (Instr.nop 896 (cmd 0 [])).wellFormed = false := by decide +kernel
theorem test_message_code : (Instr.start 5 (msgWord 2 0 1) 0).wellFormed = false := by decide +kernel
theorem test_message_sender : (Instr.start 4096 (msgWord 1 0 1) 0).wellFormed = false := by decide +kernel
theorem test_channel_to_itself : (Instr.optRetuneDone 7 7 0 true).wellFormed = false := by decide +kernel
theorem test_plane_absent : (Instr.planeRelockEnd 16 []).wellFormed = false := by decide +kernel
theorem test_window_too_long : (Instr.dataWindowAccess 0 false 0 0 4097 [] []).wellFormed = false ∧
    (Instr.dataWindowAccess 0 false 0 (2 ^ 34 - 4) 8 [] []).wellFormed = false := by decide +kernel
theorem test_port_absent : (Instr.panelReset 2).wellFormed = false ∧ (Instr.registerWrite 2 0 0).wellFormed = false := by decide +kernel
theorem test_address_absent : (Instr.registerWrite 0 (2 ^ 26) 0).wellFormed = false := by decide +kernel
theorem test_units_absent : (Instr.partCommit 0 16).wellFormed = false ∧ (Instr.hankShort 28).wellFormed = false ∧
    (Instr.dabinBudgetWindow Config.allLinks).wellFormed = false ∧ (Instr.portFrameRefused 32 1).wellFormed = false ∧
    (Instr.mbdRetreq 0 56 0).wellFormed = false ∧ (Instr.beatTimer Config.managerSlots).wellFormed = false ∧
    (Instr.freqApply Config.endpoints).wellFormed = false := by decide +kernel
theorem test_link_width : (Instr.hpLinkUp 0 5 3).wellFormed = false ∧ (Instr.hpLinkUp 0 6 4).wellFormed = false := by decide +kernel
theorem test_ill_formed_is_refused : exec (.seqWaitEnd 896) s0 = .refused .noSuchUnit ∧
    exec (.start 5 (msgWord 2 0 1) 0) s0 = .refused .noSuchUnit := ⟨rfl, rfl⟩

/-! ### The queue -/

/-- What a predicate says of the panel a command leaves. -/
def left (o : Host.Outcome State Fault Refusal) (P : Dev → Bool) : Bool :=
  match o with
  | .next t => P t.dev
  | _ => false

theorem test_step_takes_front : step { s0 with pending := [.presenceAssertHeld, .presenceRelease] } =
    exec .presenceAssertHeld { s0 with pending := [.presenceRelease] } := rfl
theorem test_front_of_reset : left (step (State.reset.withFetchWord 8 0)) (fun d => d.net.present = [168, 176, 184]) = true := by
  decide +kernel
theorem test_no_word_is_a_command : decodeTableWord 128 0 = none := rfl
theorem test_reset_queue_empty : State.reset.pending = [] ∧ State.reset.memOk = true := ⟨rfl, by decide +kernel⟩

/-! ### Small runs -/

/-- LDI I5, 0x1234 (R47, Table 2.10): bits 111:108 the register, 107:44 the value. -/
theorem test_ldi : left (exec (.ldi 7 (cmd 0x10 [(108, 5), (44, 0x1234)])) (runW (cmd 0x10 [(108, 5), (44, 0x1234)])))
    (fun d => (d.cl 7).seq.ireg 5 = 0x1234 && (d.cl 7).seq.pc = 1) = true := by decide +kernel
/-- I0 takes no write (R50). -/
theorem test_ldi_i0 : left (exec (.ldi 7 (cmd 0x10 [(108, 0), (44, 9)])) (runW (cmd 0x10 [(108, 0), (44, 9)])))
    (fun d => (d.cl 7).seq.ireg 0 = 0) = true := by decide +kernel
/-- ADDI I1, I1, 8 with I1 = −5: the source is the destination and the sum is 3. -/
theorem test_addi_wraps : left (exec (.addi 7 (cmd 0x11 [(108, 1), (104, 1), (72, 8)])) (runW (cmd 0x11 [(108, 1), (104, 1), (72, 8)]) ir))
    (fun d => (d.cl 7).seq.ireg 1 = 3) = true := by decide +kernel
/-- ADDI I1, I2, −4 with I2 = 3: −1. -/
theorem test_addi_negative : left (exec (.addi 7 (cmd 0x11 [(108, 1), (104, 2), (72, 2 ^ 32 - 4)]))
      (runW (cmd 0x11 [(108, 1), (104, 2), (72, 2 ^ 32 - 4)]) ir))
    (fun d => (d.cl 7).seq.ireg 1 = 2 ^ 64 - 1) = true := by decide +kernel
/-- HALT leaves the sequencer IDLE. -/
theorem test_halt : left (exec (.halt 7 (cmd 0x01 [])) (runW (cmd 0x01 []))) (fun d => (d.cl 7).seq.st = .idle) = true := by decide +kernel
/-- Port B takes over nothing while port A owns the panel and its lease stands; a CAS by the owner passes control on (R432). -/
theorem test_own_cas_denied : left (exec (.ownCas 0 2 1) s0)
    (fun d => d.f pgWHL WHL_OWN_OWNER = 1 && d.f pgWHL WHL_OWN_RESULT = ST_DENIED) = true := by decide +kernel
theorem test_own_cas_passes_on : left (exec (.ownCas 0 1 2) s0) (fun d => d.f pgWHL WHL_OWN_OWNER = 2) = true := by decide +kernel
/-- Below 10.8 V the panel stops, at 10.8 V it does not (R366). -/
theorem test_voltage_stop : left (exec (.inputCriticalStop 10799) s0) (·.stopped) = true ∧
    left (exec (.inputCriticalStop 10800) s0) (fun d => !d.stopped) = true := by decide +kernel
/-- A long word's count adds and its value wraps at 128 bits (R79). -/
theorem test_long_word_combines : ((LWord.ofBytes (lwb 3 (2 ^ 128 - 1))).combine (LWord.ofBytes (lwb 4 1))).bytes = lwb 7 0 := by
  decide +kernel
/-- A write of eight bytes where a host does not own the panel is refused with an event (R432). -/
theorem test_write_denied : left (exec (.registerWrite 0 0x380 5) (ms (sf pgWHL WHL_OWN_OWNER 2 0)))
    (fun d => d.f pgWHL WHL_SLUBCTL_HLH = s0.dev.f pgWHL WHL_SLUBCTL_HLH && bit (d.reg 0x20) EV_OWN_DENIED) = true := by decide +kernel
/-- A memory write to zero lists nothing. -/
theorem test_memory_canonical : memWrite (memWrite [] 64 [5, 6]) 64 [0, 6] = [(65, 6)] := by decide +kernel

/-! ### What every step keeps -/

theorem witness_FusesAreOnlyBlown : (∃ t, exec .sealLoopOpen s0 = .next t) ∧ (∃ t, step s0 = .next t) ∧
    (0x400610 ≠ pgWHL + 0x520 ∧ ∃ t, exec (.registerWrite 0 0x400610 5) s0 = .next t) := ⟨⟨_, rfl⟩, ⟨_, rfl⟩, by decide, ⟨_, rfl⟩⟩
theorem witness_EveryStepKeepsMemoryCanonical : State.reset.memOk = true ∧ s0.memOk = true ∧ (∃ t, exec .sealLoopOpen s0 = .next t) ∧
    (∃ t, step s0 = .next t) := ⟨by decide +kernel, by decide +kernel, ⟨_, rfl⟩, ⟨_, rfl⟩⟩


/-! What a generation that changes nothing passes (R425): lemmas for the witnesses of commits, reverts and swaps. -/

theorem get_of_unlisted {α : Type} (dflt : α) (m : SMap α) (a : Nat) (h : a ∉ m.map (·.1)) : SMap.get dflt m a = dflt := by
  induction m with
  | nil => rfl
  | cons x t ih =>
    simp only [List.map_cons, List.mem_cons, not_or] at h
    simp [SMap.get, Ne.symm h.1, ih h.2]

theorem stagedWords_nil (d : Dev) (h : ∀ a ∈ genRegs, a ∉ d.regs.map (·.1)) : d.stagedWords = [] := by
  unfold Dev.stagedWords
  rw [List.map_eq_nil_iff, List.filter_eq_nil_iff]
  intro a ha
  rw [Dev.reg, get_of_unlisted _ _ _ (h a ha)]
  simp

/-- A generation that lists nothing. -/
def bare : Gen := {}

theorem f_bare {g : Gen} (h : g.regs = []) (page : Nat) (x : Fld) (i : Nat) : g.f page x i = bare.f page x i := by
  rw [Gen.f, Gen.f, Gen.reg, Gen.reg, h]; rfl

theorem bare_lc : ∀ j < Config.partitions, ∀ i < 13, bare.f (pgPART j) PART_LCi_LC i = 0 := by decide +kernel
theorem bare_mem : ∀ j < Config.partitions, ∀ i < 8, bare.f (pgPART j) PART_MEMi_SIZE_V i = 0 := by decide +kernel
theorem pageOf_clu (p o : Nat) (h : p < Config.clusters) (ho : o < 4096) : pageOf (pgCLU p + o) = (.clu, p, o) := by
  have h : p < 896 := h
  have e : (16777216 + (p * 4096 + o)) % 4294967296 = 16777216 + (p * 4096 + o) := by omega
  have e1 : (p * 4096 + o) / 4096 = p := by omega
  have e2 : (16777216 + (p * 4096 + o)) % 4096 = o := by omega
  simp [pageOf, pgCLU, e, e1, e2, show 16777216 + (p * 4096 + o) < 20447232 by omega, Nat.add_assoc]

theorem resetAt_clu (p o : Nat) (h : p < Config.clusters) (ho : o < 4096) : resetAt (pgCLU p + o) = resetAt (pgCLU 0 + o) := by
  unfold resetAt; rw [pageOf_clu p o h ho, pageOf_clu 0 o (by decide) ho]; rfl

theorem bare_spl (p : Nat) (h : p < Config.clusters) : bare.f (pgCLU p) CLU_SPL_EN = 0 := by
  have hw : ∀ v : Word, writable (pgCLU p + 0x370) v = writable (pgCLU 0 + 0x370) v := by
    intro v; unfold writable; rw [pageOf_clu p _ h (by decide), pageOf_clu 0 _ (by decide) (by decide)]; rfl
  have ha : pgCLU p + CLU_SPL_EN.off + 0 * CLU_SPL_EN.stride = pgCLU p + 0x370 := by simp
  rw [Gen.f, Gen.reg, ha, hw, resetAt_clu p _ h (by decide)]
  simp only [bare, SMap.get]
  decide +kernel

/-- A cluster none of whose registers is listed has the PSTATE of a cluster at reset. -/
theorem pstate_unlisted (d : Dev) (p : Nat) (h : p < Config.clusters) (hd : ∀ x ∈ d.regs, x.1 < pgCLU 0) : d.pstate p = ({} : Dev).pstate 0 := by
  have ha (q : Nat) : pgCLU q + CLU_STATE_PSTATE.off + 0 * CLU_STATE_PSTATE.stride = pgCLU q + 0x80 := by simp
  have hn : pgCLU p + 0x80 ∉ d.regs.map (·.1) := by
    intro hm
    obtain ⟨x, hx, he⟩ := List.mem_map.1 hm
    have := hd x hx
    simp only [pgCLU] at *
    omega
  rw [Dev.pstate, Dev.pstate, Dev.f, Dev.f, Dev.reg, Dev.reg, ha, ha, get_of_unlisted _ _ _ hn, resetAt_clu p _ h (by decide)]
  rfl

theorem partOk_bare {g : Gen} (h : g.regs = []) : g.partOk = true := by
  simp only [Gen.partOk, f_bare h, Bool.and_eq_true, List.all_eq_true, List.mem_range]
  refine ⟨⟨fun i hi j hj k hk => ?_, fun j hj => ?_⟩, fun j hj i hi => ?_⟩
  · rw [bare_lc j hj i hi, bare_lc k hk i hi]; simp
  · rw [bare_lc j hj 12 (by decide)]; decide
  · rw [bare_mem j hj i hi]; rfl

theorem spliceOk_bare {d : Dev} {g : Gen} (h : g.regs = [])
    (hm : g.map.all (fun x => d.pstate x.2 != PS_SPLICE || d.f (pgCLU x.2) CLU_SPL_STATE = 3) = true) : d.spliceOk g = true := by
  have : (List.range Config.clusters).filter (fun p => decide (bare.f (pgCLU p) CLU_SPL_EN = 1)) = [] := by
    rw [List.filter_eq_nil_iff]
    intro p hp
    simp [bare_spl p (List.mem_range.1 hp)]
  simp only [Dev.spliceOk, f_bare h, this, hm]
  simp

theorem genErr_bare {d : Dev} {g : Gen} (h : g.regs = []) (ht : d.testBusy g = false) (hm : d.mapOk g = true)
    (hh : ∀ j < Config.partitions, d.partHeld j = false) (hb : d.bandOk g = true)
    (hs : g.map.all (fun x => d.pstate x.2 != PS_SPLICE || d.f (pgCLU x.2) CLU_SPL_STATE = 3) = true) : d.genErr g true = 0 := by
  have : (List.range Config.partitions).any (fun j => d.partHeld j && !d.partSame g j) = false := by
    rw [List.any_eq_false]
    intro j hj
    simp [hh j (List.mem_range.1 hj)]
  simp [Dev.genErr, ht, hm, this, hb, spliceOk_bare h hs, partOk_bare h]

/-- Words of other endpoints than the first do not bear on the map of a generation. -/
theorem map_near {g : Gen} {k : Nat} {w : Word} {t : SMap Word} (h : g.tbl = (k, w) :: t) (ht : ∀ x ∈ t, 208 ≤ x.1) :
    g.map = ({ tbl := [(k, w)] } : Gen).map := by
  have he : ∀ lc < Config.logicals, g.entry lc = ({ tbl := [(k, w)] } : Gen).entry lc := by
    intro lc hl
    have hl : lc < 800 := hl
    have hn : lc / 4 ∉ t.map (·.1) := by
      intro hm
      obtain ⟨x, hx, e⟩ := List.mem_map.1 hm
      have := ht x hx
      omega
    rw [Gen.entry, Gen.entry, h]
    simp only [SMap.get, get_of_unlisted _ _ _ hn]
  unfold Gen.map
  refine List.filterMap_congr fun lc hl => ?_
  rw [he lc (List.mem_range.1 hl)]

/-! A panel of which no cluster but 7 has a state word that differs from reset. -/

/-- Of the state words of clusters, only that of cluster 7 may be listed. -/
def Lone (d : Dev) : Prop := ∀ x ∈ d.regs, x.1 = pgCLU 7 + 0x80 ∨ x.1 < pgCLU 0 ∨ pgCLU 896 ≤ x.1

theorem lone_other {d : Dev} (hd : Lone d) (p : Nat) (h : p < Config.clusters) (h7 : p ≠ 7) :
    d.pstate p = PS_DISABLED ∧ d.partOf p = 15 := by
  have hn : pgCLU p + 0x80 ∉ d.regs.map (·.1) := by
    intro hm
    obtain ⟨x, hx, he⟩ := List.mem_map.1 hm
    have := hd x hx
    have h : p < 896 := h
    simp only [pgCLU] at *
    omega
  have hr : d.reg (pgCLU p + 0x80) = resetAt (pgCLU 0 + 0x80) := by
    rw [Dev.reg, get_of_unlisted _ _ _ hn, resetAt_clu p _ h (by decide)]
  have ha : pgCLU p + CLU_STATE_PSTATE.off + 0 * CLU_STATE_PSTATE.stride = pgCLU p + 0x80 := by simp
  have hb : pgCLU p + CLU_STATE_PART.off + 0 * CLU_STATE_PART.stride = pgCLU p + 0x80 := by simp
  constructor
  · rw [Dev.pstate, Dev.f, ha, hr]; decide +kernel
  · rw [Dev.partOf, Dev.f, hb, hr]; decide +kernel

theorem lone_members {d : Dev} (hd : Lone d) (h : d.partOf 7 = 5 ∧ d.pstate 7 = PS_MAPPED) : d.members 5 = [7] := by
  have : d.members 5 = (List.range Config.clusters).filter (fun p => decide (p = 7)) := by
    refine List.filter_congr fun p hp => ?_
    by_cases h7 : p = 7
    · subst h7; simp [h.1, h.2]
    · simp [h7, lone_other hd p (List.mem_range.1 hp) h7]
  rw [this]; decide +kernel

theorem lone_shadows {d : Dev} (hd : Lone d) (h : d.pstate 7 = PS_MAPPED) (j : Nat) : d.followers j = [] ∧ d.copyShadows j = [] := by
  have hs : ∀ p, p < Config.clusters → d.pstate p ≠ PS_SPLICE := by
    intro p hp
    by_cases h7 : p = 7
    · rw [h7, h]; decide
    · rw [(lone_other hd p hp h7).1]; decide
  constructor
  · rw [Dev.followers, List.filter_eq_nil_iff]
    intro p hp
    simp [hs p (List.mem_range.1 hp)]
  · rw [Dev.copyShadows, List.filterMap_eq_nil_iff]
    intro p hp
    simp [hs p (List.mem_range.1 hp)]

theorem lcsOf_five {d : Dev} (h : ∀ i < 13, d.effF (pgPART 5) PART_LCi_LC i = if i = 0 then 32 else 0) : d.lcsOf 5 = [5] := by
  have : d.lcsOf 5 = (List.range Config.logicals).filter (fun lc => (if lc / 64 = 0 then 32 else 0 : Nat).testBit (lc % 64)) := by
    refine List.filter_congr fun lc hl => ?_
    have hl : lc < 800 := List.mem_range.1 hl
    rw [Dev.inPart, h (lc / 64) (by omega)]
  rw [this]; decide +kernel


/-! ### CommandsAreServedInOrder -/

def s001 : State := s0

theorem witness_CommandsAreServedInOrder :
    (s001.pending = []) :=
  by decide +kernel

/-! ### WellFormedCommandsAnswer -/

def c002 := Instr.seqWaitEnd 896

theorem witness_WellFormedCommandsAnswer :
    (c002.wellFormed = false) :=
  by decide +kernel

/-! ### VoltageLimitsBindAndStop -/

def s002 : State := st { d1 with stopped := true }
def c003 := Instr.liveBlockUpdate

theorem witness_VoltageLimitsBindAndStop :
    (s001.dev.stopped = false ∧ 10799 < 11400 ∧ s001.dev.pwr.underV = false ∧ (10799 < 10800 ∨ 13000 < 10799)) ∧
    (s002.dev.stopped = true ∧ c003.wellFormed = true ∧ (∀ (a b : Bool), c003 ≠ Instr.hardwareStage a b) ∧ s002.pending = []) :=
  ⟨by decide +kernel,
   by decide +kernel⟩

/-! ### FrozenPanelStandsStill -/

def s003 : State := st (on [(0x540, 256), own0])

theorem witness_FrozenPanelStandsStill :
    (s003.dev.frozen = true ∧ c003.wellFormed = true ∧ actsFrozen c003 = false ∧ s003.dev.stopped = false ∧ s003.dev.owner 0 ∧ 4195856 % 8 = 0 ∧ 4195856 < 2 ^ 26 ∧ (pageOf 4195856).1 ≠ Cls.whl) :=
  by decide +kernel

/-! ### ControlCommandsComplete -/

def s004 : State := runW (cmd 3 [(85, 7)]) (id) (id) (id)
def w001 := cmd 3 [(85, 7)]
def s005 : State := runW (cmd 1 [(118, 1)]) (id) (id) (id)
def w002 := cmd 1 [(118, 1)]
def s006 : State := runW (cmd 5 [(79, 3), (91, 0)]) (id) (id) (id)
def w003 := cmd 5 [(79, 3), (91, 0)]
def s007 : State := runW (cmd 0 []) (id) (id) (id)
def w004 := cmd 0 []
def s008 : State := runW (cmd 4 []) (fun q => { q with calls := [9] }) (id) (id)
def w005 := cmd 4 []
def rs001 : List Nat := []
def s009 : State := runW (cmd 5 [(79, 3), (91, 4), (75, 1), (59, 2)]) (ir) (id) (id)
def w006 := cmd 5 [(79, 3), (91, 4), (75, 1), (59, 2)]
def s010 : State := runW (cmd 2 [(109, 2), (105, 1), (101, 2), (85, 32773)]) (ir) (id) (id)
def w007 := cmd 2 [(109, 2), (105, 1), (101, 2), (85, 32773)]
def s011 : State := runW (cmd 2 [(109, 2), (105, 2), (101, 1), (85, 32773)]) (ir) (id) (id)
def w008 := cmd 2 [(109, 2), (105, 2), (101, 1), (85, 32773)]

theorem witness_ControlCommandsComplete :
    (s004.dev.obeys = true ∧ s004.dev.ready 7 w001 ∧ opcOf w001 = 3) ∧
    (s005.dev.obeys = true ∧ s005.dev.ready 7 w002 ∧ opcOf w002 = 1) ∧
    (s006.dev.obeys = true ∧ s006.dev.ready 7 w003 ∧ opcOf w003 = 5 ∧ (if bit w003 111 = true then BitVec.toNat ((s006.dev.cl 7).seq.ireg (fld w003 110 107)) % 2 ^ 32 else fld w003 106 91) = 0) ∧
    (s007.dev.obeys = true ∧ s007.dev.ready 7 w004 ∧ opcOf w004 = 0) ∧
    (s008.dev.obeys = true ∧ s008.dev.ready 7 w005 ∧ opcOf w005 = 4 ∧ (s008.dev.cl 7).seq.calls = 9 :: rs001) ∧
    (s009.dev.obeys = true ∧ s009.dev.ready 7 w006 ∧ opcOf w006 = 5 ∧ (if bit w006 111 = true then BitVec.toNat ((s009.dev.cl 7).seq.ireg (fld w006 110 107)) % 2 ^ 32 else fld w006 106 91) ≠ 0) ∧
    (s010.dev.obeys = true ∧ s010.dev.ready 7 w007 ∧ opcOf w007 = 2 ∧ (fld w007 111 109 = 0 ∧ (s010.dev.cl 7).seq.ireg (fld w007 108 105) = (s010.dev.cl 7).seq.ireg (fld w007 104 101) ∨ fld w007 111 109 = 1 ∧ (s010.dev.cl 7).seq.ireg (fld w007 108 105) ≠ (s010.dev.cl 7).seq.ireg (fld w007 104 101) ∨ fld w007 111 109 = 2 ∧ BitVec.toInt ((s010.dev.cl 7).seq.ireg (fld w007 108 105)) < BitVec.toInt ((s010.dev.cl 7).seq.ireg (fld w007 104 101)) ∨ fld w007 111 109 = 3 ∧ BitVec.toInt ((s010.dev.cl 7).seq.ireg (fld w007 104 101)) ≤ BitVec.toInt ((s010.dev.cl 7).seq.ireg (fld w007 108 105)) ∨ fld w007 111 109 = 4 ∧ BitVec.toNat ((s010.dev.cl 7).seq.ireg (fld w007 108 105)) < BitVec.toNat ((s010.dev.cl 7).seq.ireg (fld w007 104 101)) ∨ fld w007 111 109 = 5 ∧ BitVec.toNat ((s010.dev.cl 7).seq.ireg (fld w007 104 101)) ≤ BitVec.toNat ((s010.dev.cl 7).seq.ireg (fld w007 108 105)) ∨ fld w007 111 109 = 7)) ∧
    (s011.dev.obeys = true ∧ s011.dev.ready 7 w008 ∧ opcOf w008 = 2 ∧ (¬(fld w008 111 109 = 0 ∧ (s011.dev.cl 7).seq.ireg (fld w008 108 105) = (s011.dev.cl 7).seq.ireg (fld w008 104 101) ∨ fld w008 111 109 = 1 ∧ (s011.dev.cl 7).seq.ireg (fld w008 108 105) ≠ (s011.dev.cl 7).seq.ireg (fld w008 104 101) ∨ fld w008 111 109 = 2 ∧ BitVec.toInt ((s011.dev.cl 7).seq.ireg (fld w008 108 105)) < BitVec.toInt ((s011.dev.cl 7).seq.ireg (fld w008 104 101)) ∨ fld w008 111 109 = 3 ∧ BitVec.toInt ((s011.dev.cl 7).seq.ireg (fld w008 104 101)) ≤ BitVec.toInt ((s011.dev.cl 7).seq.ireg (fld w008 108 105)) ∨ fld w008 111 109 = 4 ∧ BitVec.toNat ((s011.dev.cl 7).seq.ireg (fld w008 108 105)) < BitVec.toNat ((s011.dev.cl 7).seq.ireg (fld w008 104 101)) ∨ fld w008 111 109 = 5 ∧ BitVec.toNat ((s011.dev.cl 7).seq.ireg (fld w008 104 101)) ≤ BitVec.toNat ((s011.dev.cl 7).seq.ireg (fld w008 108 105)) ∨ fld w008 111 109 = 7))) :=
  ⟨by decide +kernel,
   by decide +kernel,
   by decide +kernel,
   by decide +kernel,
   by decide +kernel,
   by decide +kernel,
   by decide +kernel,
   by decide +kernel⟩

/-! ### LoopsIterateAndClose -/

def q001 : Seq := { pc := 5, calls := [9], loops := [], iregs := [] }
def q002 : Seq := { pc := 5, calls := [9], loops := [(⟨2, 5, 3, 1, 2, 1⟩ : LoopLv)], iregs := [] }
def l002 : LoopLv := ⟨2, 5, 3, 1, 2, 1⟩
def t001 : List LoopLv := []
def q003 : Seq := { pc := 5, calls := [9], loops := [(⟨2, 5, 1, 1, 2, 1⟩ : LoopLv)], iregs := [] }
def l003 : LoopLv := ⟨2, 5, 1, 1, 2, 1⟩
def q004 : Seq := { pc := 5, calls := [9], loops := [(⟨2, 5, 3, 1, 2, 0⟩ : LoopLv)], iregs := [] }
def l001 : LoopLv := ⟨2, 5, 3, 1, 2, 0⟩

theorem witness_LoopsIterateAndClose :
    (q001.loops = []) ∧
    (q002.loops = l002 :: t001 ∧ l002.depth = q002.calls.length ∧ l002.last = q002.pc ∧ 1 < l002.left) ∧
    (q003.loops = [l003] ∧ l003.depth = q003.calls.length ∧ l003.last = q003.pc ∧ l003.left ≤ 1) ∧
    (q004.loops = l001 :: t001 ∧ l001.depth ≠ q004.calls.length) :=
  ⟨by decide +kernel,
   by decide +kernel,
   by decide +kernel,
   by decide +kernel⟩

/-! ### IntegerCommandsComplete -/

def s012 : State := runW (cmd 24 [(108, 15), (104, 0)]) (ir) (id) (id)
def w009 := cmd 24 [(108, 15), (104, 0)]
def s013 : State := runW (cmd 68 [(110, 1), (107, 2)]) (id) (id) (id)
def w010 := cmd 68 [(110, 1), (107, 2)]
def s014 : State := runW (cmd 24 [(108, 15), (104, 1)]) (ir) (id) (id)
def w011 := cmd 24 [(108, 15), (104, 1)]
def s015 : State := runW (cmd 24 [(108, 15), (104, 2)]) (ir) (id) (id)
def w012 := cmd 24 [(108, 15), (104, 2)]
def s016 : State := runW (cmd 24 [(108, 15), (104, 3)]) (ir) (id) (id)
def w013 := cmd 24 [(108, 15), (104, 3)]
def s017 : State := runW (cmd 24 [(108, 15), (104, 4)]) (ir) (id) (id)
def w014 := cmd 24 [(108, 15), (104, 4)]
def s018 : State := runW (cmd 24 [(108, 15), (104, 5)]) (ir) (id) (id)
def w015 := cmd 24 [(108, 15), (104, 5)]
def s019 : State := runW (cmd 16 [(108, 15), (44, 9223372036854775809)]) (id) (id) (id)
def w016 := cmd 16 [(108, 15), (44, 9223372036854775809)]
def s020 : State := runW (cmd 17 [(108, 15), (104, 1), (72, 4294967295)]) (ir) (id) (id)
def w017 := cmd 17 [(108, 15), (104, 1), (72, 4294967295)]
def s021 : State := runW (cmd 18 [(108, 15), (104, 1), (100, 2), (96, 0)]) (ir) (id) (id)
def w018 := cmd 18 [(108, 15), (104, 1), (100, 2), (96, 0)]
def s022 : State := runW (cmd 18 [(108, 15), (104, 1), (100, 2), (96, 1)]) (ir) (id) (id)
def w019 := cmd 18 [(108, 15), (104, 1), (100, 2), (96, 1)]
def s023 : State := runW (cmd 18 [(108, 15), (104, 1), (100, 2), (96, 2)]) (ir) (id) (id)
def w020 := cmd 18 [(108, 15), (104, 1), (100, 2), (96, 2)]
def s024 : State := runW (cmd 18 [(108, 15), (104, 1), (100, 2), (96, 3)]) (ir) (id) (id)
def w021 := cmd 18 [(108, 15), (104, 1), (100, 2), (96, 3)]
def s025 : State := runW (cmd 18 [(108, 15), (104, 1), (100, 2), (96, 4)]) (ir) (id) (id)
def w022 := cmd 18 [(108, 15), (104, 1), (100, 2), (96, 4)]
def s026 : State := runW (cmd 18 [(108, 15), (104, 1), (100, 2), (96, 5)]) (ir) (id) (id)
def w023 := cmd 18 [(108, 15), (104, 1), (100, 2), (96, 5)]
def s027 : State := runW (cmd 18 [(108, 15), (104, 1), (100, 2), (96, 6)]) (ir) (id) (id)
def w024 := cmd 18 [(108, 15), (104, 1), (100, 2), (96, 6)]
def s028 : State := runW (cmd 18 [(108, 15), (104, 1), (100, 2), (96, 7)]) (ir) (id) (id)
def w025 := cmd 18 [(108, 15), (104, 1), (100, 2), (96, 7)]
def s029 : State := runW (cmd 18 [(108, 15), (104, 1), (100, 2), (96, 8)]) (ir) (id) (id)
def w026 := cmd 18 [(108, 15), (104, 1), (100, 2), (96, 8)]
def s030 : State := runW (cmd 18 [(108, 15), (104, 1), (100, 2), (96, 9)]) (ir) (id) (id)
def w027 := cmd 18 [(108, 15), (104, 1), (100, 2), (96, 9)]
def s031 : State := runW (cmd 18 [(108, 15), (104, 1), (100, 2), (96, 10)]) (ir) (id) (id)
def w028 := cmd 18 [(108, 15), (104, 1), (100, 2), (96, 10)]
def s032 : State := runW (cmd 32 [(106, 63), (74, 4294967295), (118, 1), (112, 63)]) (id) (id) (id)
def w029 := cmd 32 [(106, 63), (74, 4294967295), (118, 1), (112, 63)]

theorem witness_IntegerCommandsComplete :
    ((1 ≠ 0 ∧ 2 ≠ 1 ∧ s012.dev.obeys = true ∧ s012.dev.ready 7 w009 ∧ opcOf w009 = 24 ∧ fld w009 107 104 = 0) ∧
     (s013.dev.obeys = true ∧ s013.dev.ready 7 w010 ∧ opcOf w010 = 68) ∧
     (s014.dev.obeys = true ∧ s014.dev.ready 7 w011 ∧ opcOf w011 = 24 ∧ fld w011 107 104 = 1)) ∧
    ((s015.dev.obeys = true ∧ s015.dev.ready 7 w012 ∧ opcOf w012 = 24 ∧ fld w012 107 104 = 2) ∧
     (s016.dev.obeys = true ∧ s016.dev.ready 7 w013 ∧ opcOf w013 = 24 ∧ fld w013 107 104 = 3) ∧
     (s017.dev.obeys = true ∧ s017.dev.ready 7 w014 ∧ opcOf w014 = 24 ∧ fld w014 107 104 = 4)) ∧
    ((s018.dev.obeys = true ∧ s018.dev.ready 7 w015 ∧ opcOf w015 = 24 ∧ fld w015 107 104 = 5) ∧
     (s019.dev.obeys = true ∧ s019.dev.ready 7 w016 ∧ opcOf w016 = 16) ∧
     (s020.dev.obeys = true ∧ s020.dev.ready 7 w017 ∧ opcOf w017 = 17)) ∧
    ((s021.dev.obeys = true ∧ s021.dev.ready 7 w018 ∧ opcOf w018 = 18 ∧ fld w018 99 96 = 0) ∧
     (s022.dev.obeys = true ∧ s022.dev.ready 7 w019 ∧ opcOf w019 = 18 ∧ fld w019 99 96 = 1) ∧
     (s023.dev.obeys = true ∧ s023.dev.ready 7 w020 ∧ opcOf w020 = 18 ∧ fld w020 99 96 = 2)) ∧
    ((s024.dev.obeys = true ∧ s024.dev.ready 7 w021 ∧ opcOf w021 = 18 ∧ fld w021 99 96 = 3) ∧
     (s025.dev.obeys = true ∧ s025.dev.ready 7 w022 ∧ opcOf w022 = 18 ∧ fld w022 99 96 = 4) ∧
     (s026.dev.obeys = true ∧ s026.dev.ready 7 w023 ∧ opcOf w023 = 18 ∧ fld w023 99 96 = 5)) ∧
    ((s027.dev.obeys = true ∧ s027.dev.ready 7 w024 ∧ opcOf w024 = 18 ∧ fld w024 99 96 = 6) ∧
     (s028.dev.obeys = true ∧ s028.dev.ready 7 w025 ∧ opcOf w025 = 18 ∧ fld w025 99 96 = 7) ∧
     (s029.dev.obeys = true ∧ s029.dev.ready 7 w026 ∧ opcOf w026 = 18 ∧ fld w026 99 96 = 8)) ∧
    ((s030.dev.obeys = true ∧ s030.dev.ready 7 w027 ∧ opcOf w027 = 18 ∧ fld w027 99 96 = 9) ∧
     (s031.dev.obeys = true ∧ s031.dev.ready 7 w028 ∧ opcOf w028 = 18 ∧ fld w028 99 96 = 10) ∧
     (s032.dev.obeys = true ∧ s032.dev.ready 7 w029 ∧ opcOf w029 = 32)) :=
  ⟨by decide +kernel,
   by decide +kernel,
   by decide +kernel,
   by decide +kernel,
   by decide +kernel,
   by decide +kernel,
   by decide +kernel⟩

/-! ### StoreAccessCommandsComplete -/

def s033 : State := runW (cmd 22 [(108, 15), (104, 1)]) (i1 0x1000) (id) (poke 0x1000 [1,2,3,4,5,6,7,8])
def w030 := cmd 22 [(108, 15), (104, 1)]
def s034 : State := runW (cmd 23 [(108, 2), (104, 1), (80, 16777208)]) (fun q => i1 0x1008 (i2 0x12345678 q)) (id) (id)
def w031 := cmd 23 [(108, 2), (104, 1), (80, 16777208)]
def s035 : State := runW (cmd 22 [(108, 15), (104, 1)]) (i1 0x1000) (id) (fun d => poke 0x1000 [1,2,3,4,5,6,7,8] { d with pois := [csKey 7 0x1000] })

theorem witness_StoreAccessCommandsComplete :
    (s033.dev.obeys = true ∧ s033.dev.ready 7 w030 ∧ s033.dev.upsets = [] ∧ opcOf w030 = 22 ∧ s033.dev.poisMap (csKey 7 (wrap 64 (↑(BitVec.toNat ((s033.dev.cl 7).seq.ireg (fld w030 107 104))) + sgn 24 (fld w030 103 80)))) 8 = []) ∧
    (s034.dev.obeys = true ∧ s034.dev.ready 7 w031 ∧ s034.dev.upsets = [] ∧ opcOf w031 = 23 ∧ s034.dev.plainStore 7 (wrap 64 (↑(BitVec.toNat ((s034.dev.cl 7).seq.ireg (fld w031 107 104))) + sgn 24 (fld w031 103 80))) (leBytes 8 (BitVec.toNat ((s034.dev.cl 7).seq.ireg (fld w031 111 108))))) ∧
    (s035.dev.obeys = true ∧ s035.dev.ready 7 w030 ∧ s035.dev.upsets = [] ∧ opcOf w030 = 22 ∧ s035.dev.poisMap (csKey 7 (wrap 64 (↑(BitVec.toNat ((s035.dev.cl 7).seq.ireg (fld w030 107 104))) + sgn 24 (fld w030 103 80)))) 8 ≠ [] ∧ s035.dev.pst (s035.dev.partOf 7) ≠ P_RUN ∧ s035.dev.pst (s035.dev.partOf 7) ≠ P_DONE) :=
  ⟨by decide +kernel,
   by decide +kernel,
   by decide +kernel⟩

/-! ### VectorCommandsComplete -/

def s036 : State := runW (cmd 80 [(107, 3), (103, 1), (99, 0)]) (i1 0x1000) (id) (poke 0x1000 [1,2,3,4,5,6,7,0x78])
def w032 := cmd 80 [(107, 3), (103, 1), (99, 0)]
def s037 : State := runW (cmd 80 [(107, 3), (103, 1), (99, 10)]) (i1 0x1000) (id) (poke 0x1000 [1,2,3,4,5,6,7,0x78])
def w033 := cmd 80 [(107, 3), (103, 1), (99, 10)]
def s038 : State := runW (cmd 83 [(107, 0), (102, 1), (97, 1)]) (id) (fun c => { c with vregs := [(512, 0x3F800000), (513, 0x7F800001), (1024, 0x40000000), (1025,0x80000000), (1536, 0xC0400000)] }) (id)
def w034 := cmd 83 [(107, 0), (102, 1), (97, 1)]
def s039 : State := runW (cmd 84 [(110, 0), (105, 1), (100, 1)]) (id) (fun c => { c with vregs := [(512, 0x3F800000), (513, 0x7F800001), (1024, 0x40000000), (1025,0x80000000), (1536, 0xC0400000)] }) (id)
def w035 := cmd 84 [(110, 0), (105, 1), (100, 1)]
def s040 : State := runW (cmd 84 [(110, 1), (105, 1), (100, 1)]) (id) (fun c => { c with vregs := [(512, 0x3F800000), (513, 0x7F800001), (1024, 0x40000000), (1025,0x80000000), (1536, 0xC0400000)] }) (id)
def w036 := cmd 84 [(110, 1), (105, 1), (100, 1)]
def s041 : State := runW (cmd 84 [(110, 2), (105, 1), (100, 1)]) (id) (fun c => { c with vregs := [(512, 0x3F800000), (513, 0x7F800001), (1024, 0x40000000), (1025,0x80000000), (1536, 0xC0400000)] }) (id)
def w037 := cmd 84 [(110, 2), (105, 1), (100, 1)]
def s042 : State := runW (cmd 81 [(107, 1), (103, 1), (99, 10)]) (i1 0x1000) (fun c => { c with vregs := [(512, 0x3F800000), (513, 0x7F800001), (1024, 0x40000000), (1025,0x80000000), (1536, 0xC0400000)] }) (id)
def w038 := cmd 81 [(107, 1), (103, 1), (99, 10)]
def s043 : State := runW (cmd 82 [(106, 6), (101, 1), (96, 1)]) (i2 0x40400000) (fun c => { c with vregs := [(512, 0x3F800000), (513, 0x7F800001), (1024, 0x40000000), (1025,0x80000000), (1536, 0xC0400000)] }) (id)
def w039 := cmd 82 [(106, 6), (101, 1), (96, 1)]
def s044 : State := runW (cmd 82 [(106, 7), (101, 1), (96, 1)]) (i2 0x40400000) (fun c => { c with vregs := [(512, 0x3F800000), (513, 0x7F800001), (1024, 0x40000000), (1025,0x80000000), (1536, 0xC0400000)] }) (id)
def w040 := cmd 82 [(106, 7), (101, 1), (96, 1)]
def s045 : State := runW (cmd 82 [(106, 0), (101, 1), (96, 2), (91, 3)]) (i2 0x40400000) (fun c => { c with vregs := [(512, 0x3F800000), (513, 0x7F800001), (1024, 0x40000000), (1025,0x80000000), (1536, 0xC0400000)] }) (id)
def w041 := cmd 82 [(106, 0), (101, 1), (96, 2), (91, 3)]
def s046 : State := runW (cmd 82 [(106, 1), (101, 1), (96, 2), (91, 3)]) (i2 0x40400000) (fun c => { c with vregs := [(512, 0x3F800000), (513, 0x7F800001), (1024, 0x40000000), (1025,0x80000000), (1536, 0xC0400000)] }) (id)
def w042 := cmd 82 [(106, 1), (101, 1), (96, 2), (91, 3)]
def s047 : State := runW (cmd 82 [(106, 2), (101, 1), (96, 2), (91, 3)]) (i2 0x40400000) (fun c => { c with vregs := [(512, 0x3F800000), (513, 0x7F800001), (1024, 0x40000000), (1025,0x80000000), (1536, 0xC0400000)] }) (id)
def w043 := cmd 82 [(106, 2), (101, 1), (96, 2), (91, 3)]
def s048 : State := runW (cmd 82 [(106, 4), (101, 1), (96, 2), (91, 3)]) (i2 0x40400000) (fun c => { c with vregs := [(512, 0x3F800000), (513, 0x7F800001), (1024, 0x40000000), (1025,0x80000000), (1536, 0xC0400000)] }) (id)
def w044 := cmd 82 [(106, 4), (101, 1), (96, 2), (91, 3)]
def s049 : State := runW (cmd 82 [(106, 5), (101, 1), (96, 2), (91, 3)]) (i2 0x40400000) (fun c => { c with vregs := [(512, 0x3F800000), (513, 0x7F800001), (1024, 0x40000000), (1025,0x80000000), (1536, 0xC0400000)] }) (id)
def w045 := cmd 82 [(106, 5), (101, 1), (96, 2), (91, 3)]
def s050 : State := runW (cmd 82 [(106, 8), (101, 1), (96, 2), (91, 3)]) (i2 0x40400000) (fun c => { c with vregs := [(512, 0x3F800000), (513, 0x7F800001), (1024, 0x40000000), (1025,0x80000000), (1536, 0xC0400000)] }) (id)
def w046 := cmd 82 [(106, 8), (101, 1), (96, 2), (91, 3)]
def s051 : State := runW (cmd 82 [(106, 10), (101, 1), (96, 2), (91, 1)]) (i2 0x40400000) (fun c => { c with vregs := [(512, 0x3F800000), (513, 0x7F800001), (1024, 0x40000000), (1025,0x80000000), (1536, 0xC0400000)] }) (id)
def w047 := cmd 82 [(106, 10), (101, 1), (96, 2), (91, 1)]
def s052 : State := runW (cmd 82 [(106, 3), (101, 1), (96, 2), (91, 3), (86, 1)]) (i2 0x40400000) (fun c => { c with vregs := [(512, 0x3F800000), (513, 0x7F800001), (1024, 0x40000000), (1025,0x80000000), (1536, 0xC0400000)] }) (id)
def w048 := cmd 82 [(106, 3), (101, 1), (96, 2), (91, 3), (86, 1)]
def s053 : State := runW (cmd 82 [(106, 9), (101, 1), (96, 2), (91, 3), (86, 1)]) (i2 0x40400000) (fun c => { c with vregs := [(512, 0x3F800000), (513, 0x7F800001), (1024, 0x40000000), (1025,0x80000000), (1536, 0xC0400000)] }) (id)
def w049 := cmd 82 [(106, 9), (101, 1), (96, 2), (91, 3), (86, 1)]

theorem witness_VectorCommandsComplete :
    ((s036.dev.obeys = true ∧ s036.dev.ready 7 w032 ∧ s036.dev.upsets = [] ∧ opcOf w032 = 80 ∧ fld w032 102 99 ≠ 10) ∧
     (s037.dev.obeys = true ∧ s037.dev.ready 7 w033 ∧ s037.dev.upsets = [] ∧ opcOf w033 = 80 ∧ fld w033 102 99 = 10) ∧
     (s038.dev.obeys = true ∧ s038.dev.ready 7 w034 ∧ s038.dev.upsets = [] ∧ opcOf w034 = 83)) ∧
    ((s039.dev.obeys = true ∧ s039.dev.ready 7 w035 ∧ s039.dev.upsets = [] ∧ opcOf w035 = 84 ∧ fld w035 111 110 = 0) ∧
     (s040.dev.obeys = true ∧ s040.dev.ready 7 w036 ∧ s040.dev.upsets = [] ∧ opcOf w036 = 84 ∧ fld w036 111 110 = 1) ∧
     (s041.dev.obeys = true ∧ s041.dev.ready 7 w037 ∧ s041.dev.upsets = [] ∧ opcOf w037 = 84 ∧ fld w037 111 110 = 2)) ∧
    ((s042.dev.obeys = true ∧ s042.dev.ready 7 w038 ∧ s042.dev.upsets = [] ∧ opcOf w038 = 81 ∧ s042.dev.plainStore 7 (BitVec.toNat ((s042.dev.cl 7).seq.ireg (fld w038 106 103))) (List.map (fun j => leBytes (vbytes (fld w038 102 99)) (if fld w038 102 99 = 10 then ((s042.dev.cl 7).lane (fld w038 111 107) j).toNat else encodeNum (fmtOf (fld w038 102 99)) Rnd.ne (num32 ((s042.dev.cl 7).lane (fld w038 111 107) j)))) (List.range 512)).flatten) ∧
     (s043.dev.obeys = true ∧ s043.dev.ready 7 w039 ∧ s043.dev.upsets = [] ∧ opcOf w039 = 82 ∧ fld w039 111 106 = 6) ∧
     (s044.dev.obeys = true ∧ s044.dev.ready 7 w040 ∧ s044.dev.upsets = [] ∧ opcOf w040 = 82 ∧ fld w040 111 106 = 7)) ∧
    ((s045.dev.obeys = true ∧ s045.dev.ready 7 w041 ∧ s045.dev.upsets = [] ∧ opcOf w041 = 82 ∧ fld w041 111 106 = 0) ∧
     (s046.dev.obeys = true ∧ s046.dev.ready 7 w042 ∧ s046.dev.upsets = [] ∧ opcOf w042 = 82 ∧ fld w042 111 106 = 1) ∧
     (s047.dev.obeys = true ∧ s047.dev.ready 7 w043 ∧ s047.dev.upsets = [] ∧ opcOf w043 = 82 ∧ fld w043 111 106 = 2)) ∧
    ((s048.dev.obeys = true ∧ s048.dev.ready 7 w044 ∧ s048.dev.upsets = [] ∧ opcOf w044 = 82 ∧ fld w044 111 106 = 4) ∧
     (s049.dev.obeys = true ∧ s049.dev.ready 7 w045 ∧ s049.dev.upsets = [] ∧ opcOf w045 = 82 ∧ fld w045 111 106 = 5) ∧
     (s050.dev.obeys = true ∧ s050.dev.ready 7 w046 ∧ s050.dev.upsets = [] ∧ opcOf w046 = 82 ∧ fld w046 111 106 = 8)) ∧
    ((s051.dev.obeys = true ∧ s051.dev.ready 7 w047 ∧ s051.dev.upsets = [] ∧ opcOf w047 = 82 ∧ fld w047 111 106 = 10) ∧
     (s052.dev.obeys = true ∧ s052.dev.ready 7 w048 ∧ s052.dev.upsets = [] ∧ opcOf w048 = 82 ∧ fld w048 111 106 = 3) ∧
     (s053.dev.obeys = true ∧ s053.dev.ready 7 w049 ∧ s053.dev.upsets = [] ∧ opcOf w049 = 82 ∧ fld w049 111 106 = 9)) :=
  ⟨by decide +kernel,
   by decide +kernel,
   by decide +kernel,
   by decide +kernel,
   by decide +kernel,
   by decide +kernel⟩

/-! ### TensorCommandsComplete -/

def s054 : State := runW (cmd 66 [(111, 1), (107, 0), (86, 1), (82, 2)]) (fun q => i1 (ownSlot 5 + 0x3000) (i2 64 q)) (fun c => { c with acc1 := { m := 2, n := 3, a := [(0, 5), (257, 7)] } }) (id)
def w050 := cmd 66 [(111, 1), (107, 0), (86, 1), (82, 2)]
def s055 : State := runW (cmd 67 [(111, 1), (109, 0), (101, 0), (98, 3), (86, 9), (82, 1)]) (i1 0x3000) (fun c => { c with acc1 := { m := 2, n := 3, a := [(0, 5), (257, 7)] } }) (id)
def w051 := cmd 67 [(111, 1), (109, 0), (101, 0), (98, 3), (86, 9), (82, 1)]
def s056 : State := runW (cmd 64 [(108, 0), (104, 0), (101, 4), (97, 1), (94, 4), (90, 2), (89, 1), (73, 0), (66, 1), (58, 1), (34, 5)]) (fun q => i1 0x1000 (i2 0x2000 q)) (id) (id)
def w052 := cmd 64 [(108, 0), (104, 0), (101, 4), (97, 1), (94, 4), (90, 2), (89, 1), (73, 0), (66, 1), (58, 1), (34, 5)]
def s057 : State := runW (cmd 64 [(108, 0), (104, 0), (101, 0), (97, 0), (94, 4), (90, 2), (89, 1), (73, 0), (66, 1), (58, 1), (34, 5)]) (fun q => i1 0x1000 (i2 0x2000 q)) (id) (id)
def w053 := cmd 64 [(108, 0), (104, 0), (101, 0), (97, 0), (94, 4), (90, 2), (89, 1), (73, 0), (66, 1), (58, 1), (34, 5)]

theorem witness_TensorCommandsComplete :
    (s054.dev.obeys = true ∧ s054.dev.ready 7 w050 ∧ s054.dev.upsets = [] ∧ (∀ u ∈ (s054.dev.cl 7).units, u.unit ≠ UnitK.tensor) ∧ (s054.dev.cl 7).pass = none ∧ (s054.dev.cl 7).tickets = [] ∧ opcOf w050 = 66 ∧ bit w050 106 = false ∧ (s054.dev.pt (s054.dev.partEff 7)).spr = [] ∧ s054.dev.areas = [] ∧ (∀ r < ((s054.dev.cl 7).acc (fld w050 111 111)).m, (s054.dev.ownAt 7 (BitVec.toNat ((s054.dev.cl 7).seq.ireg (fld w050 89 86) + BitVec.ofNat 64 r * (s054.dev.cl 7).seq.ireg (fld w050 85 82))) (drainRow ((s054.dev.cl 7).acc (fld w050 111 111)) (fld w050 110 107) (fun _ => Rnd.ne) r).length).isSome = true ∧ armKeys (csKey 7 0) (csKey 7 ((s054.dev.ownAt 7 (BitVec.toNat ((s054.dev.cl 7).seq.ireg (fld w050 89 86) + BitVec.ofNat 64 r * (s054.dev.cl 7).seq.ireg (fld w050 85 82))) (drainRow ((s054.dev.cl 7).acc (fld w050 111 111)) (fld w050 110 107) (fun _ => Rnd.ne) r).length).getD 0)) (drainRow ((s054.dev.cl 7).acc (fld w050 111 111)) (fld w050 110 107) (fun _ => Rnd.ne) r) = [])) ∧
    (s055.dev.obeys = true ∧ s055.dev.ready 7 w051 ∧ s055.dev.upsets = [] ∧ (∀ u ∈ (s055.dev.cl 7).units, u.unit ≠ UnitK.tensor) ∧ (s055.dev.cl 7).pass = none ∧ (s055.dev.cl 7).tickets = [] ∧ opcOf w051 = 67 ∧ (isCD (fld w051 108 101) || isMB (fld w051 108 101)) = true ∧ s055.dev.shadowing 7 = false ∧ s055.dev.draining (dieOf 7) = false ∧ s055.dev.choose (dieOf 7) (fld w051 108 101) (s055.dev.inje (dieOf 7)) ≠ Path.none) ∧
    (s056.dev.obeys = true ∧ s056.dev.ready 7 w052 ∧ s056.dev.upsets = [] ∧ (∀ u ∈ (s056.dev.cl 7).units, u.unit ≠ UnitK.tensor) ∧ (s056.dev.cl 7).pass = none ∧ (s056.dev.cl 7).tickets = [] ∧ opcOf w052 = 64 ∧ s056.dev.ringCheck 7 w052 (fld w052 103 101) 0 (fld w052 111 108) = some true ∧ s056.dev.ringCheck 7 w052 (fld w052 96 94) 1 (fld w052 107 104) = some true) ∧
    (s057.dev.obeys = true ∧ s057.dev.ready 7 w053 ∧ s057.dev.upsets = [] ∧ (∀ u ∈ (s057.dev.cl 7).units, u.unit ≠ UnitK.tensor) ∧ (s057.dev.cl 7).pass = none ∧ (s057.dev.cl 7).tickets = [] ∧ opcOf w053 = 64 ∧ (s057.dev.ringCheck 7 w053 (fld w053 103 101) 0 (fld w053 111 108) = none ∨ s057.dev.ringCheck 7 w053 (fld w053 96 94) 1 (fld w053 107 104) = none)) :=
  ⟨by decide +kernel,
   by decide +kernel,
   by decide +kernel,
   by decide +kernel⟩

/-! ### DraftCommandsComplete -/

def s058 : State := runW (cmd 49 [(110, 3), (109, 1)]) (i1 0x1000) (id) (id)
def w054 := cmd 49 [(110, 3), (109, 1)]
def s059 : State := runW (cmd 48 [(110, 3), (106, 1)]) (i1 0x1000) (id) (poke 0x1000 desc)
def w055 := cmd 48 [(110, 3), (106, 1)]
def s060 : State := runW (cmd 49 [(110, 3)]) (i1 0x1000) (fun c => { c with dft := [(3, { st := .full })] }) (id)
def w056 := cmd 49 [(110, 3)]
def s061 : State := runW (cmd 48 [(110, 3), (106, 1)]) (i1 0x1000) (fun c => { c with dft := [(3, { st := .run })] }) (poke 0x1000 desc)

theorem witness_DraftCommandsComplete :
    (s058.dev.obeys = true ∧ s058.dev.ready 7 w054 ∧ s058.dev.upsets = [] ∧ (∀ u ∈ (s058.dev.cl 7).units, u.unit = UnitK.draft → u.started = true) ∧ opcOf w054 = 49 ∧ (((s058.dev.cl 7).eng (fld w054 111 110)).st = DftSt.idle ∨ ((s058.dev.cl 7).eng (fld w054 111 110)).st = DftSt.done ∨ ((s058.dev.cl 7).eng (fld w054 111 110)).st = DftSt.stopped)) ∧
    (s059.dev.obeys = true ∧ s059.dev.ready 7 w055 ∧ s059.dev.upsets = [] ∧ (∀ u ∈ (s059.dev.cl 7).units, u.unit = UnitK.draft → u.started = true) ∧ opcOf w055 = 48 ∧ (((s059.dev.cl 7).eng (fld w055 111 110)).st = DftSt.idle ∨ ((s059.dev.cl 7).eng (fld w055 111 110)).st = DftSt.done ∨ ((s059.dev.cl 7).eng (fld w055 111 110)).st = DftSt.stopped) ∧ s059.dev.descFault 7 (BitVec.toNat ((s059.dev.cl 7).seq.ireg (fld w055 109 106))) (List.map (fun i => s059.dev.word64 (csKey 7 (BitVec.toNat ((s059.dev.cl 7).seq.ireg (fld w055 109 106)) + 8 * i))) (List.range 16)) (s059.dev.poisoned (csKey 7 (BitVec.toNat ((s059.dev.cl 7).seq.ireg (fld w055 109 106)))) 128) = none) ∧
    (s060.dev.obeys = true ∧ s060.dev.ready 7 w056 ∧ s060.dev.upsets = [] ∧ (∀ u ∈ (s060.dev.cl 7).units, u.unit = UnitK.draft → u.started = true) ∧ opcOf w056 = 49 ∧ (¬(((s060.dev.cl 7).eng (fld w056 111 110)).st = DftSt.idle ∨ ((s060.dev.cl 7).eng (fld w056 111 110)).st = DftSt.done ∨ ((s060.dev.cl 7).eng (fld w056 111 110)).st = DftSt.stopped)) ∧ (bit w056 109 = false ∨ s060.dev.dftLive 7 (fld w056 111 110) = 0 ∧ ((s060.dev.cl 7).eng (fld w056 111 110)).got = [] ∧ s060.dev.dftWouts 7 (fld w056 111 110) = 0)) ∧
    (s061.dev.obeys = true ∧ s061.dev.ready 7 w055 ∧ s061.dev.upsets = [] ∧ (∀ u ∈ (s061.dev.cl 7).units, u.unit = UnitK.draft → u.started = true) ∧ opcOf w055 = 48 ∧ (¬(((s061.dev.cl 7).eng (fld w055 111 110)).st = DftSt.idle ∨ ((s061.dev.cl 7).eng (fld w055 111 110)).st = DftSt.done ∨ ((s061.dev.cl 7).eng (fld w055 111 110)).st = DftSt.stopped))) :=
  ⟨by decide +kernel,
   by decide +kernel,
   by decide +kernel,
   by decide +kernel⟩

/-! ### TransferCommandsComplete -/

def s062 : State := runW (cmd 98 [(108, 1), (104, 2), (100, 1), (94, 7)]) (fun q => i1 0x1000 (i2 0x3000 q)) (id) (id)
def w057 := cmd 98 [(108, 1), (104, 2), (100, 1), (94, 7)]
def s063 : State := runW (cmd 112 [(108, 1)]) (i1 0x1000) (id) (poke 0x1000 (([2 ^ 60, 100000, 8 * 2 ^ 27 + 5, 0] : List Nat).flatMap (leBytes 8)))
def w058 := cmd 112 [(108, 1)]
def s064 : State := runW (cmd 96 [(108, 1), (104, 2), (84, 999), (78, 63)]) (fun q => i1 0x1001 (i2 (ownSlot 5 + 0x3003) q)) (id) (id)
def w059 := cmd 96 [(108, 1), (104, 2), (84, 999), (78, 63)]
def s065 : State := runW (cmd 97 [(108, 1), (104, 2), (84, 999), (78, 63)]) (fun q => i1 0x1001 (i2 (ownSlot 5 + 0x3003) q)) (id) (id)
def w060 := cmd 97 [(108, 1), (104, 2), (84, 999), (78, 63)]

theorem witness_TransferCommandsComplete :
    (s062.dev.obeys = true ∧ s062.dev.ready 7 w057 ∧ s062.dev.upsets = [] ∧ opcOf w057 = 98 ∧ s062.dev.shadowing 7 = false ∧ s062.dev.panelShadow (s062.dev.partEff 7) = false) ∧
    (s063.dev.obeys = true ∧ s063.dev.ready 7 w058 ∧ s063.dev.upsets = [] ∧ opcOf w058 = 112 ∧ s063.dev.poisMap (csKey 7 (BitVec.toNat ((s063.dev.cl 7).seq.ireg (fld w058 111 108)))) 32 = [] ∧ s063.dev.shadowing 7 = false ∧ s063.dev.gtAt (dieOf 7) + 80000 ≤ BitVec.toNat (s063.dev.word64 (csKey 7 (BitVec.toNat ((s063.dev.cl 7).seq.ireg (fld w058 111 108)) + 8))) ∧ BitVec.toNat (s063.dev.word64 (csKey 7 (BitVec.toNat ((s063.dev.cl 7).seq.ireg (fld w058 111 108)) + 8))) ≤ s063.dev.gtAt (dieOf 7) + 4000000000 ∧ (List.filter (fun x => decide (s063.dev.gtAt (dieOf 7) < x.end_)) (s063.dev.cl 7).notices).length < 4) ∧
    (s064.dev.obeys = true ∧ s064.dev.ready 7 w059 ∧ s064.dev.upsets = [] ∧ opcOf w059 = 96 ∧ (¬(s064.dev.staggers (BitVec.toNat ((s064.dev.cl 7).seq.ireg (fld w059 107 104))) (fld w059 103 84 + 1) = true ∧ s064.dev.gt < s064.dev.staggerAt 7)) ∧ s064.dev.shadowing 7 = false ∧ s064.dev.panelShadow (s064.dev.partEff 7) = false) ∧
    (s065.dev.obeys = true ∧ s065.dev.ready 7 w060 ∧ s065.dev.upsets = [] ∧ opcOf w060 = 97) :=
  ⟨by decide +kernel,
   by decide +kernel,
   by decide +kernel,
   by decide +kernel⟩

/-! ### SkeinCommandsComplete -/

def s066 : State := runW (cmd 8 [(109, 0), (103, 5)]) (fun q => { q with slots := [(5, 0x100)] }) (id) (id)
def w061 := cmd 8 [(109, 0), (103, 5)]
def s067 : State := runW (cmd 33 [(108, 1), (102, 5)]) (fun q => { q with slots := [(5, 0x100)] }) (id) (id)
def w062 := cmd 33 [(108, 1), (102, 5)]
def s068 : State := runW (cmd 33 [(108, 1), (102, 5), (32, 1)]) (fun q => { q with slots := [(5, 0x100)] }) (id) (id)
def w063 := cmd 33 [(108, 1), (102, 5), (32, 1)]

theorem witness_SkeinCommandsComplete :
    (s066.dev.obeys = true ∧ s066.dev.ready 7 w061 ∧ s066.dev.shadowing 7 = false ∧ opcOf w061 = 8) ∧
    (s067.dev.obeys = true ∧ s067.dev.ready 7 w062 ∧ s067.dev.shadowing 7 = false ∧ opcOf w062 = 33 ∧ bit w062 32 = false) ∧
    (s068.dev.obeys = true ∧ s068.dev.ready 7 w063 ∧ s068.dev.shadowing 7 = false ∧ opcOf w063 = 33 ∧ bit w063 32 = true) :=
  ⟨by decide +kernel,
   by decide +kernel,
   by decide +kernel⟩

/-! ### WaitsEndAsTheRulesSay -/

def s069 : State := runW (cmd 0 []) (fun q => { q with st := .wait }) (fun c => { c with park := some 5 }) (id)
def s070 : State := runW (cmd 0 []) (fun q => { q with st := .wait, held := some (cmd 0 []) }) (fun c => { c with park := some 5 }) (id)
def s071 : State := runW (cmd 0 []) (fun q => { q with st := .run }) (fun c => { c with units := [vu 9 0x62 4 0 .net] }) (id)
def u001 := vu 9 0x62 4 0 .net
def s072 : State := runW (cmd 0 []) (fun q => { q with st := .run }) (fun c => { c with units := [vu 9 0x52 4 0 .vector] }) (id)
def u002 := vu 9 0x52 4 0 .vector
def s073 : State := runW (cmd 0 []) (fun q => { q with st := .wait, waitId := some 4 }) (fun c => { c with units := [vu 9 0x21 4 0 .net] }) (id)
def u003 := vu 9 0x21 4 0 .net
def s074 : State := runW (cmd 0 []) (fun q => { q with st := .wait, waitId := some 4 }) (fun c => { c with units := [vu 9 8 4 0 .seq (cmd 8 [(109, 0)])] }) (id)
def u004 := vu 9 8 4 0 .seq (cmd 8 [(109, 0)])
def s075 : State := runW (cmd 0 []) (fun q => { q with st := .run }) (fun c => { c with units := [{ vu 0 0x60 4 0 .net (cmd 96 [(108, 1), (104, 2), (84, 4999), (78, 63)]) with started := false, fin := false, args := [0x1001, ownSlot 5 + 0x3003, 5000, 0] }], stag := [(4, 5)] }) (fun d => { d with gt := 5 })
def x001 : Nat × Nat := (4, 5)
def u005 := { vu 0 0x60 4 0 .net (cmd 96 [(108, 1), (104, 2), (84, 4999), (78, 63)]) with started := false, fin := false, args := [0x1001, ownSlot 5 + 0x3003, 5000, 0] }

theorem witness_WaitsEndAsTheRulesSay :
    (s069.dev.obeys = true ∧ 7 < 896 ∧ (s069.dev.cl 7).seq.held = none ∧ (s069.dev.cl 7).seq.st = SeqSt.wait ∧ (s069.dev.cl 7).seq.waitId = none) ∧
    (s070.dev.obeys = true ∧ 7 < 896 ∧ (s070.dev.cl 7).seq.held = some w004 ∧ ((s070.dev.cl 7).seq.st = SeqSt.wait ∨ (s070.dev.cl 7).seq.st = SeqSt.run) ∧ (s070.dev.cl 7).holds w004 = false ∧ opcOf w004 = 0 ∧ fld w004 118 0 = 0) ∧
    (s071.dev.obeys = true ∧ 7 < 896 ∧ s071.dev.unit 7 4 = some u001 ∧ s071.dev.atEnd 7 u001 = true ∧ u001.orphan = false ∧ (∀ v ∈ (s071.dev.cl 7).units, v.unit ≠ UnitK.tensor) ∧ sigOf u001.w = false ∧ u001.unit = UnitK.net ∧ opcOf u001.w = 98 ∧ u001.status = ST_OK ∧ s071.dev.shadowing 7 = false) ∧
    (s072.dev.obeys = true ∧ 7 < 896 ∧ s072.dev.unit 7 4 = some u002 ∧ s072.dev.atEnd 7 u002 = true ∧ u002.orphan = false ∧ (∀ v ∈ (s072.dev.cl 7).units, v.unit ≠ UnitK.tensor) ∧ sigOf u002.w = false ∧ u002.unit = UnitK.vector ∧ opcOf u002.w = 82) ∧
    (s073.dev.obeys = true ∧ 7 < 896 ∧ s073.dev.unit 7 4 = some u003 ∧ s073.dev.atEnd 7 u003 = true ∧ u003.orphan = false ∧ (∀ v ∈ (s073.dev.cl 7).units, v.unit ≠ UnitK.tensor) ∧ sigOf u003.w = false ∧ u003.unit = UnitK.net ∧ opcOf u003.w = 33 ∧ u003.status = ST_OK ∧ s073.dev.shadowing 7 = false ∧ (s073.dev.cl 7).seq.waitId = some u003.id) ∧
    (s074.dev.obeys = true ∧ 7 < 896 ∧ s074.dev.unit 7 4 = some u004 ∧ s074.dev.atEnd 7 u004 = true ∧ u004.orphan = false ∧ (∀ v ∈ (s074.dev.cl 7).units, v.unit ≠ UnitK.tensor) ∧ sigOf u004.w = false ∧ u004.unit = UnitK.seq ∧ opcOf u004.w = 8 ∧ u004.status = ST_OK ∧ s074.dev.shadowing 7 = false ∧ (s074.dev.cl 7).seq.waitId = some u004.id) ∧
    (s075.dev.obeys = true ∧ 7 < 896 ∧ List.find? (fun y => decide (y.1 = 4)) (s075.dev.cl 7).stag = some x001 ∧ x001.2 ≤ s075.dev.gt ∧ s075.dev.unit 7 4 = some u005 ∧ s075.dev.upsets = [] ∧ s075.dev.shadowing 7 = false ∧ s075.dev.panelShadow (s075.dev.partEff 7) = false) :=
  ⟨by decide +kernel,
   by decide +kernel,
   by decide +kernel,
   by decide +kernel,
   by decide +kernel,
   by decide +kernel,
   by decide +kernel⟩

/-! ### TensorPassEventsComplete -/

def s076 : State := cs [(7, { pass := some (pas 0), units := [{ vu 0 0x40 4 0 .tensor (cmd 0x40 []) with fin := false }] })] [mapped 7 5 2] (id)
def x002 := pas 0
def u006 : UCmd := { vu 0 0x40 4 0 .tensor (cmd 0x40 []) with fin := false }
def s077 : State := cs [(7, { pass := some (pas (-100)), units := [{ vu 0 0x40 4 0 .tensor (cmd 0x40 []) with fin := false }] })] [mapped 7 5 2] (id)
def x003 := pas (-100)
def s078 : State := cs [(7, { pass := some (rpas), units := [{ vu 0 0x40 4 0 .tensor (cmd 0x40 []) with fin := false }], dft := [(1, feedE .run 2 0)] })] [mapped 7 5 2] (fun d => d.updSk 0x100 (fun s => { s with value := 3 }))
def x004 := rpas
def s079 : State := cs [(7, { pass := some (rpas), units := [{ vu 0 0x40 4 0 .tensor (cmd 0x40 []) with fin := false }], dft := [(1, feedE .done 0 0)] })] [mapped 7 5 2] (fun d => d.updSk 0x100 (fun s => { s with value := 3 }))

theorem witness_TensorPassEventsComplete :
    (s076.dev.obeys = true ∧ 7 < 896 ∧ (s076.dev.cl 7).pass = some x002 ∧ s076.dev.upsets = [] ∧ x002.full = true ∧ (¬(x002.overflow = true ∧ x002.mayRetry = true)) ∧ s076.dev.unit 7 x002.id = some u006 ∧ (∀ v ∈ (s076.dev.cl 7).units, v.unit = UnitK.tensor → v.started = true)) ∧
    (s077.dev.obeys = true ∧ 7 < 896 ∧ (s077.dev.cl 7).pass = some x003 ∧ s077.dev.upsets = [] ∧ x003.overflow = true ∧ x003.mayRetry = true) ∧
    (s078.dev.obeys = true ∧ 7 < 896 ∧ (s078.dev.cl 7).pass = some x004 ∧ s078.dev.upsets = [] ∧ 1 < 4 ∧ x004.a.ring = some 1 ∧ x004.b.ring ≠ some 1 ∧ x004.a.slotsLeft ≠ 0 ∧ ((s078.dev.cl 7).eng 1).consumed < s078.dev.fskGrowth 7 ((s078.dev.cl 7).eng 1) ∧ ((s078.dev.cl 7).eng 1).consumed < ((s078.dev.cl 7).eng 1).signalled) ∧
    (s079.dev.obeys = true ∧ 7 < 896 ∧ (s079.dev.cl 7).pass = some x004 ∧ s079.dev.upsets = [] ∧ 1 < 4 ∧ x004.a.ring = some 1 ∧ x004.b.ring ≠ some 1 ∧ x004.a.slotsLeft ≠ 0 ∧ (((s079.dev.cl 7).eng 1).st = DftSt.done ∨ ((s079.dev.cl 7).eng 1).st = DftSt.stopped ∨ ((s079.dev.cl 7).eng 1).st = DftSt.idle) ∧ ((s079.dev.cl 7).eng 1).signalled ≤ ((s079.dev.cl 7).eng 1).consumed) :=
  ⟨by decide +kernel,
   by decide +kernel,
   by decide +kernel,
   by decide +kernel⟩

/-! ### PlyEventsComplete -/

def s080 : State := cs [(7, { plys := [{ pr with sent := false }] }), (20, { tickets := [tk false] })] [mapped 7 5 2, mapped 20 6 2, mapped 40 7 2] (fun d => g20 { d with gt := 5 })
def r001 : PlyRec := { pr with sent := false }
def t002 := tk false
def rest002 : List Ticket := []
def s081 : State := cs [(7, { plys := [pr] }), (20, { tickets := [] })] [mapped 7 5 2, mapped 20 6 2, mapped 40 7 2] (fun d => withP [mbx 20 6 (ticketMail 7 6)] [] (g20 d))
def r002 := pr
def q006 := mbx 20 6 (ticketMail 7 6)
def s082 : State := cs [(7, { plys := [{ pr with sent := false }] }), (20, { tickets := [tk true got2] })] [mapped 7 5 2, mapped 20 6 2, mapped 40 7 2] (g20)
def t003 := tk true got2
def s083 : State := cs [(7, { plys := [{ pr with sent := false }] }), (20, { tickets := [] })] [mapped 7 5 2, mapped 20 6 2, mapped 40 7 2] (fun d => withP [mbx 7 5 (digestMail 20 6 77)] [] (g20 d))
def q007 := mbx 7 5 (digestMail 20 6 77)
def x005 : BitVec 128 := 77
def s084 : State := cs [(7, { plys := [{ pr with sent := false, toRef := true, d2 := some 78, referee := some 20, partner := 40 }] }), (20, { tickets := [] })] [mapped 7 5 2, (0x1007310, 3 * 2 ^ 60), mapped 20 6 2, mapped 40 7 2] (fun d => withP [mbx 7 5 (digestMail 20 6 78)] [] (g20 d))
def r003 : PlyRec := { pr with sent := false, toRef := true, d2 := some 78, referee := some 20, partner := 40 }
def q008 := mbx 7 5 (digestMail 20 6 78)
def x006 : BitVec 128 := 78

theorem witness_PlyEventsComplete :
    (s080.dev.obeys = true ∧ 20 < 896 ∧ 7 < 896 ∧ s080.dev.plyOf 7 6 = some r001 ∧ (s080.dev.cl 20).tickets = t002 :: rest002 ∧ t002.pri = 7 ∧ t002.id = 6 ∧ (s080.dev.cl 20).plyFree = true ∧ (s080.dev.cl 20).plySet = some 0 ∧ r001.id = 6 ∧ r001.due ≤ s080.dev.gt ∧ s080.dev.fb (pgPART (s080.dev.partOf 7)) PART_STEP_SUSPD = false ∧ r001.reissues < 2 ∧ (s080.dev.mapClu fun c => { c with tickets := c.tickets.filter fun t => !(decide (t.pri = 7) && decide (t.id = r001.id)) }).pick r001.step r001.tile (s080.dev.lcOf 7) (s080.dev.partOf 7) (if r001.toRef = true then 2 else 1) (plyX 7 { r001 with xd := r001.xd ++ [dieOf r001.target] } r001.toRef).1 (plyX 7 { r001 with xd := r001.xd ++ [dieOf r001.target] } r001.toRef).2 = some 40) ∧
    (s081.dev.obeys = true ∧ 20 < 896 ∧ 7 < 896 ∧ s081.dev.plyOf 7 6 = some r002 ∧ (List.find? (fun q => decide (q.loc = Loc.dst (dieOf 20) (cOf 20)) && mailbox q && decide (q.data = ticketMail 7 6)) s081.dev.net.pkts = some q006 ∧ (s081.dev.cl 20).fenced = false ∧ s081.dev.pstate 20 ≠ PS_OFF ∧ s081.dev.pstate 20 ≠ PS_RETIRED ∧ s081.dev.pstate 20 ≠ PS_DISABLED) ∧ r002.sent = true ∧ r002.target = 20 ∧ q006.spanel = s081.dev.self ∧ s081.dev.draining (dieOf 20) = false) ∧
    (s082.dev.obeys = true ∧ 20 < 896 ∧ 7 < 896 ∧ s082.dev.plyOf 7 6 = some r001 ∧ List.find? (fun x => x.ran) (s082.dev.cl 20).tickets = some t003 ∧ t003.pri = 7 ∧ t003.id = 6 ∧ 2 ≤ t003.got.length ∧ (∀ v ∈ (s082.dev.cl 20).units, v.unit = UnitK.tensor → v.started = true)) ∧
    (s083.dev.obeys = true ∧ 20 < 896 ∧ 7 < 896 ∧ s083.dev.plyOf 7 6 = some r001 ∧ (List.find? (fun q => decide (q.loc = Loc.dst (dieOf 7) (cOf 7)) && mailbox q && decide (leNat q.data % 2 ^ 128 = 2 + 2 ^ 8 * 20 + 2 ^ 64 * (6 % 2 ^ 64))) s083.dev.net.pkts = some q007 ∧ (s083.dev.cl 7).fenced = false ∧ s083.dev.pstate 7 ≠ PS_OFF ∧ s083.dev.pstate 7 ≠ PS_RETIRED ∧ s083.dev.pstate 7 ≠ PS_DISABLED) ∧ x005 = BitVec.ofNat 128 (leNat q007.data / 2 ^ 128) ∧ r001.target = 20 ∧ r001.sent = false ∧ r001.toRef = false ∧ x005 = r001.d1 ∧ r001.flagged = false ∧ r001.attrib = none) ∧
    (s084.dev.obeys = true ∧ 20 < 896 ∧ 7 < 896 ∧ s084.dev.plyOf 7 6 = some r003 ∧ (List.find? (fun q => decide (q.loc = Loc.dst (dieOf 7) (cOf 7)) && mailbox q && decide (leNat q.data % 2 ^ 128 = 2 + 2 ^ 8 * 20 + 2 ^ 64 * (6 % 2 ^ 64))) s084.dev.net.pkts = some q008 ∧ (s084.dev.cl 7).fenced = false ∧ s084.dev.pstate 7 ≠ PS_OFF ∧ s084.dev.pstate 7 ≠ PS_RETIRED ∧ s084.dev.pstate 7 ≠ PS_DISABLED) ∧ x006 = BitVec.ofNat 128 (leNat q008.data / 2 ^ 128) ∧ r003.target = 20 ∧ r003.sent = false ∧ r003.toRef = true ∧ x006 ≠ r003.d1 ∧ some x006 = r003.d2 ∧ r003.attrib = none ∧ s084.dev.quietScore U_CLUSTER 7 (s084.dev.weight 0)) :=
  ⟨by decide +kernel,
   by decide +kernel,
   by decide +kernel,
   by decide +kernel,
   by decide +kernel⟩

/-! ### DraftEventsComplete -/

def s085 : State := cs [(7, { dft := [(1, feedE .full 0 0)] })] [mapped 7 5 2] (id)
def s086 : State := cs [(7, { dft := [(1, copyE .run 0 0 64)] })] [mapped 7 5 2] (id)
def s087 : State := cs [(7, { dft := [(1, copyE .run 12 0 32)] })] [mapped 7 5 2] (id)
def s088 : State := cs [(7, { units := [{ vu 0 0x30 4 0 .draft (cmd 0x30 [(110, 1)]) with started := false, fin := false, args := [0x1000] }] })] [mapped 7 5 2] (poke 0x1000 desc)
def u007 : UCmd := { vu 0 0x30 4 0 .draft (cmd 0x30 [(110, 1)]) with started := false, fin := false, args := [0x1000] }
def s089 : State := cs [(7, { dft := [(1, feedE .run 0 0)] })] [mapped 7 5 2] (withP [{ pk (.dst 0 7) T_RDRSP with vc := 1, flow := 3, data := [1, 2, 3, 4] }] [xf 3 (.dftIdx 7 1 9) T_RD 2 [(0, 0)]])
def q009 : Pkt := { pk (.dst 0 7) T_RDRSP with vc := 1, flow := 3, data := [1, 2, 3, 4] }
def x007 := xf 3 (.dftIdx 7 1 9) T_RD 2 [(0, 0)]
def s090 : State := cs [(7, { dft := [(1, feedE .run 0 0)] })] [mapped 7 5 2] (withP [{ pk (.dst 0 7) T_RDRSP with vc := 1, flow := 3, data := List.replicate 128 5 }] [xf 3 (.dftRead 7 1 0) T_RD 2 [(0, 0)]])
def q010 : Pkt := { pk (.dst 0 7) T_RDRSP with vc := 1, flow := 3, data := List.replicate 128 5 }
def x008 := xf 3 (.dftRead 7 1 0) T_RD 2 [(0, 0)]

theorem witness_DraftEventsComplete :
    (s085.dev.obeys = true ∧ 7 < 896 ∧ 1 < 4 ∧ s085.dev.upsets = [] ∧ ((s085.dev.cl 7).eng 1).st = DftSt.full ∧ s085.dev.dftRoom 7 ((s085.dev.cl 7).eng 1) = true) ∧
    (s086.dev.obeys = true ∧ 7 < 896 ∧ 1 < 4 ∧ s086.dev.upsets = [] ∧ (((s086.dev.cl 7).eng 1).st = DftSt.run ∨ ((s086.dev.cl 7).eng 1).st = DftSt.full) ∧ ((s086.dev.cl 7).eng 1).stopping = false ∧ ((s086.dev.cl 7).eng 1).rewinding = false ∧ ((s086.dev.cl 7).eng 1).desc ≠ [] ∧ ((s086.dev.cl 7).eng 1).inLen ≤ ((s086.dev.cl 7).eng 1).done ∧ ((s086.dev.cl 7).eng 1).obuf = [] ∧ s086.dev.dftLive 7 1 = 0 ∧ s086.dev.dftWouts 7 1 = 0 ∧ (((s086.dev.cl 7).eng 1).feed = true ∧ ((s086.dev.cl 7).eng 1).slots + ((s086.dev.cl 7).eng 1).sofs ≤ ((s086.dev.cl 7).eng 1).signalled ∨ ((s086.dev.cl 7).eng 1).feed = false ∧ (((s086.dev.cl 7).eng 1).chlog2 = 0 ∨ ((s086.dev.cl 7).eng 1).slots ≤ ((s086.dev.cl 7).eng 1).signalled))) ∧
    (s087.dev.obeys = true ∧ 7 < 896 ∧ 1 < 4 ∧ s087.dev.upsets = [] ∧ ((s087.dev.cl 7).eng 1).feed = false ∧ ((s087.dev.cl 7).eng 1).desc ≠ [] ∧ ((s087.dev.cl 7).eng 1).chlog2 ≠ 0 ∧ ((s087.dev.cl 7).eng 1).signalled < ((s087.dev.cl 7).eng 1).slots ∧ s087.dev.chunkDone 7 1 ((s087.dev.cl 7).eng 1).signalled = true ∧ (((s087.dev.cl 7).eng 1).st = DftSt.run ∨ ((s087.dev.cl 7).eng 1).st = DftSt.full ∨ ((s087.dev.cl 7).eng 1).st = DftSt.suspended ∨ ((s087.dev.cl 7).eng 1).st = DftSt.stopped)) ∧
    (s088.dev.obeys = true ∧ 7 < 896 ∧ 1 < 4 ∧ s088.dev.upsets = [] ∧ List.filter (fun v => decide (v.unit = UnitK.draft) && !v.started) (s088.dev.cl 7).units = [u007] ∧ opcOf u007.w = 48 ∧ fld u007.w 111 110 = 1 ∧ s088.dev.dftFree 7 1 = true ∧ s088.dev.descFault 7 (u007.args.getD 0 0) (List.map (fun i => s088.dev.word64 (csKey 7 (u007.args.getD 0 0 + 8 * i))) (List.range 16)) (s088.dev.poisoned (csKey 7 (u007.args.getD 0 0)) 128) = none) ∧
    (s089.dev.obeys = true ∧ 7 < 896 ∧ 1 < 4 ∧ s089.dev.upsets = [] ∧ s089.dev.net.pkts[0]? = some q009 ∧ q009.loc = Loc.dst 0 7 ∧ q009.vc = 1 ∧ q009.status = ST_OK ∧ s089.dev.xferOf q009 = some x007 ∧ x007.absorbed = false ∧ x007.bad = none ∧ x007.land = none ∧ q009.sq = 0 ∧ List.filter (fun l => decide (l.1 ≠ q009.sq)) x007.left = [] ∧ x007.owner = Own.dftIdx 7 1 9) ∧
    (s090.dev.obeys = true ∧ 7 < 896 ∧ 1 < 4 ∧ s090.dev.upsets = [] ∧ s090.dev.net.pkts[0]? = some q010 ∧ q010.loc = Loc.dst 0 7 ∧ q010.vc = 1 ∧ q010.status = ST_OK ∧ s090.dev.xferOf q010 = some x008 ∧ x008.absorbed = false ∧ x008.bad = none ∧ x008.land = none ∧ q010.sq = 0 ∧ List.filter (fun l => decide (l.1 ≠ q010.sq)) x008.left = [] ∧ x008.owner = Own.dftRead 7 1 0 ∧ ((s090.dev.cl 7).eng 1).feed = true ∧ ((s090.dev.cl 7).eng 1).xpose = false ∧ ((s090.dev.cl 7).eng 1).obuf = [] ∧ q010.pois = [] ∧ ((s090.dev.cl 7).eng 1).addrAt 0 = some 0 ∧ 0 < (slice q010.data (0 % 64) (((s090.dev.cl 7).eng 1).pieceLen 0)).length ∧ 0 % ((s090.dev.cl 7).eng 1).slotBytes + (slice q010.data (0 % 64) (((s090.dev.cl 7).eng 1).pieceLen 0)).length ≤ ((s090.dev.cl 7).eng 1).slotBytes ∧ s090.dev.plainStore 7 (((s090.dev.cl 7).eng 1).placeAt 0) (slice q010.data (0 % 64) (((s090.dev.cl 7).eng 1).pieceLen 0))) :=
  ⟨by decide +kernel,
   by decide +kernel,
   by decide +kernel,
   by decide +kernel,
   by decide +kernel,
   by decide +kernel⟩

/-! ### PatrolScrubCorrectsAndPoisons -/

def s091 : State := cs [(7, {  })] [mapped 7 5 2] (id)
def s092 : State := cs [(7, {  })] [mapped 7 5 2, (0x1007310, 2 * 2 ^ 60)] (id)

theorem witness_PatrolScrubCorrectsAndPoisons :
    (s091.dev.obeys = true ∧ 7 < 896 ∧ s091.dev.upsets = [] ∧ 0 ≤ 7 ∧ 7 < 0 + 8 ∧ 7 < 3 * 2 ^ 20 ∧ s091.dev.quietScore U_CLUSTER 7 (s091.dev.weight 3)) ∧
    (s092.dev.obeys = true ∧ 7 < 896 ∧ s092.dev.upsets = [] ∧ 0 ≤ 7 ∧ 7 < 0 + 8 ∧ 7 < 3 * 2 ^ 20 ∧ s092.dev.quietScore U_CLUSTER 7 (s092.dev.weight 4)) :=
  ⟨by decide +kernel,
   by decide +kernel⟩

/-! ### PacketEventsComplete -/

def s093 : State := sr [] (fun d => { N (fun n => { n with comb := [cmb] }) d with gt := 200000 })
def x009 := cmb
def s094 : State := sr [] (fun d => (id) (withP [{ pk (.iod 0 0) T_RD with dep := 168 }] [] d))
def q011 : Pkt := { pk (.iod 0 0) T_RD with dep := 168 }
def s095 : State := sr [] (fun d => (lit [0, 112]) (withP [{ pk (.ep 0 0) T_RD with dep := 112, spanel := 0 }] [] d))
def q012 : Pkt := { pk (.ep 0 0) T_RD with dep := 112, spanel := 0 }
def s096 : State := sr [] (fun d => (sf (pgTUB 1) TUB_PSTATE_STATE 5 0) (withP [{ pk (.fab 0) T_RD with dep := 168, dpanel := 9 }] [] d))
def q013 : Pkt := { pk (.fab 0) T_RD with dep := 168, dpanel := 9 }
def s097 : State := sr [] (fun d => (lit [0, 112]) (withP [{ pk (.rx 112 0) T_RDRSP with vc := 1, dep := 0, dcl := 3 }] [] d))
def q014 : Pkt := { pk (.rx 112 0) T_RDRSP with vc := 1, dep := 0, dcl := 3 }
def s098 : State := sr [] (fun d => (id) (withP [{ pk (.router 0 3 2) T_RDRSP with vc := 1, dep := 0, dcl := 3 }] [] d))
def q015 : Pkt := { pk (.router 0 3 2) T_RDRSP with vc := 1, dep := 0, dcl := 3 }
def s099 : State := sr [] (fun d => (id) (withP [{ pk (.router 0 3 2) T_RDRSP with vc := 1, dep := 0, dcl := 6 }] [] d))
def q016 : Pkt := { pk (.router 0 3 2) T_RDRSP with vc := 1, dep := 0, dcl := 6 }
def l004 := Loc.router 0 2 1
def s100 : State := sr [(0x800080, 6)] (fun d => (id) (withP [{ pk (.link 0 true) T_RDRSP with vc := 1, dep := 1, dcl := 0 }] [] d))
def q017 : Pkt := { pk (.link 0 true) T_RDRSP with vc := 1, dep := 1, dcl := 0 }
def s101 : State := sr [(0x800080, 8)] (fun d => (id) (withP [{ pk (.link 0 true) T_RDRSP with vc := 1, dep := 1, dcl := 0 }] [] d))
def s102 : State := sr [(0x800080, 0)] (fun d => (up [0, 168]) (withP [{ pk (.link 0 true) T_RD with dep := 1, dcl := 0, sep := 0 }] [] d))
def q018 : Pkt := { pk (.link 0 true) T_RD with dep := 1, dcl := 0, sep := 0 }

theorem witness_PacketEventsComplete :
    ((s093.dev.obeys = true ∧ s093.dev.net.comb[0]? = some x009 ∧ x009.opened + 200000 ≤ s093.dev.gt) ∧
     (s094.dev.obeys = true ∧ s094.dev.net.pkts[0]? = some q011 ∧ q011.typ ≠ 0 ∧ q011.bad = false ∧ q011.mc = false ∧ q011.loc = Loc.iod 0 0 ∧ q011.dep = 168 + 0 ∧ q011.dpanel = s094.dev.self ∧ s094.dev.winner q011.loc 0 = some 0)) ∧
    ((s095.dev.obeys = true ∧ s095.dev.net.pkts[0]? = some q012 ∧ q012.typ ≠ 0 ∧ q012.bad = false ∧ q012.mc = false ∧ q012.loc = Loc.ep 0 0 ∧ nextPlane (s095.dev.planeList 0 q012.dep) (SMap.get 0 s095.dev.opt.rot (dirKey 0 q012.dep)) = some 0 ∧ s095.dev.heldOff (Loc.rx 0 q012.dep) q012.vc = false) ∧
     (s096.dev.obeys = true ∧ s096.dev.net.pkts[0]? = some q013 ∧ q013.typ ≠ 0 ∧ q013.bad = false ∧ q013.mc = false ∧ q013.loc = Loc.fab 0 ∧ s096.dev.f (pgTUB (0 + 1)) TUB_PSTATE_STATE = 5 ∧ s096.dev.portLit 0 = true)) ∧
    ((s097.dev.obeys = true ∧ s097.dev.net.pkts[0]? = some q014 ∧ q014.typ ≠ 0 ∧ q014.bad = false ∧ q014.mc = false ∧ q014.loc = Loc.rx 112 0 ∧ s097.dev.heldOff (optDest 0 q014) (q014.chan (optDest 0 q014)) = false) ∧
     (s098.dev.obeys = true ∧ s098.dev.net.pkts[0]? = some q015 ∧ q015.typ ≠ 0 ∧ q015.bad = false ∧ q015.mc = false ∧ q015.loc = Loc.router 0 3 2 ∧ q015.opt = false ∧ q015.dep < 112 ∧ s098.dev.combines 0 3 2 q015 = none ∧ (0, 3) = (q015.dep, q015.dcl) ∧ q015.typ ≠ T_RD ∧ q015.typ ≠ T_WR ∧ q015.typ ≠ T_MWR ∧ q015.typ ≠ T_LWORD ∧ s098.dev.winner q015.loc 0 = some 0)) ∧
    ((s099.dev.obeys = true ∧ s099.dev.net.pkts[0]? = some q016 ∧ q016.typ ≠ 0 ∧ q016.bad = false ∧ q016.mc = false ∧ q016.loc = Loc.router 0 3 2 ∧ q016.opt = false ∧ q016.dep < 112 ∧ s099.dev.combines 0 3 2 q016 = none ∧ (0, 3) ≠ (q016.dep, q016.dcl) ∧ s099.dev.behind 0 3 (xyPort (meshX 0 3) (meshY 0 3) (meshX q016.dep q016.dcl) (meshY q016.dep q016.dcl)) = some l004 ∧ s099.dev.winner q016.loc (xyPort (meshX 0 3) (meshY 0 3) (meshX q016.dep q016.dcl) (meshY q016.dep q016.dcl)) = some 0) ∧
     (s100.dev.obeys = true ∧ s100.dev.net.pkts[0]? = some q017 ∧ q017.typ ≠ 0 ∧ q017.bad = false ∧ q017.mc = false ∧ q017.loc = Loc.link 0 true ∧ s100.dev.linkState 0 = 6 ∧ s100.dev.linkUp 0 = true ∧ s100.dev.heldOff (linkFar 0 true) (q017.chan (linkFar 0 true)) = false)) ∧
    ((s101.dev.obeys = true ∧ 0 < Config.allLinks ∧ s101.dev.linkUp 0 = false ∧ List.filter (fun q => decide (q.loc = Loc.link 0 true)) s101.dev.net.pkts = [q017] ∧ s101.dev.present (linkFar 0 true).die = true ∧ 0 < 1) ∧
     (s102.dev.obeys = true ∧ 0 < Config.allLinks ∧ s102.dev.linkUp 0 = false ∧ List.filter (fun q => decide (q.loc = Loc.link 0 true)) s102.dev.net.pkts = [q018] ∧ s102.dev.present (linkFar 0 true).die = false ∧ q018.isReq = true ∧ q018.spanel = s102.dev.self)) :=
  ⟨by decide +kernel,
   by decide +kernel,
   by decide +kernel,
   by decide +kernel,
   by decide +kernel⟩

/-! ### TransferEventsComplete -/

def s103 : State := cs [(7, { units := [{ vu 0 0x60 4 0 .net (cmd 0x60 []) with fin := false }] })] [mapped 7 5 2] (fun d => (fun d => { d with gt := 800005 }) (withP [{ pk (.dst 0 7) T_RDRSP with vc := 1, flow := 3, sq := 1, data := [1, 2, 3, 4] }] [{ xf 3 (.unit 7 4) T_RD 2 [(0, 1)] with since := 5 }] d))
def q019 : Pkt := { pk (.dst 0 7) T_RDRSP with vc := 1, flow := 3, sq := 1, data := [1, 2, 3, 4] }
def x010 : Xfer := { xf 3 (.unit 7 4) T_RD 2 [(0, 1)] with since := 5 }
def u008 : UCmd := { vu 0 0x60 4 0 .net (cmd 0x60 []) with fin := false }
def s104 : State := cs [(7, { units := [{ vu 0 0x60 4 0 .net (cmd 0x60 []) with fin := false }] })] [mapped 7 5 2] (fun d => (id) (withP [{ pk (.dst 0 7) T_RDRSP with vc := 1, flow := 3, sq := 1, data := [1, 2, 3, 4] }] [xf 3 (.unit 7 4) T_RD 2 [(1, 0)]] d))
def x011 := xf 3 (.unit 7 4) T_RD 2 [(1, 0)]
def s105 : State := cs [(7, { units := [{ vu 0 0x60 4 0 .net (cmd 0x60 []) with fin := false }] })] [mapped 7 5 2] (fun d => (id) (withP [{ pk (.dst 0 7) T_RDRSP with vc := 1, flow := 3, sq := 1, data := [1, 2, 3, 4] }] [{ xf 3 (.unit 7 4) T_RD 2 [(0, 0), (1, 0)] with land := none }] d))
def x012 : Xfer := { xf 3 (.unit 7 4) T_RD 2 [(0, 0), (1, 0)] with land := none }
def s106 : State := cs [(7, { units := [{ vu 0 0x60 4 0 .net (cmd 0x60 []) with fin := false }] })] [mapped 7 5 2] (fun d => (id) (withP [{ pk (.dst 0 7) T_RDRSP with vc := 1, flow := 3, sq := 1, data := [1, 2, 3, 4] }] [{ xf 3 (.unit 7 4) T_RD 2 [(0, 0), (1, 0)] with land := some (csKey 7 0x1000) }] d))
def x013 : Xfer := { xf 3 (.unit 7 4) T_RD 2 [(0, 0), (1, 0)] with land := some (csKey 7 0x1000) }

theorem witness_TransferEventsComplete :
    (s103.dev.obeys = true ∧ s103.dev.net.pkts[0]? = some q019 ∧ q019.loc = Loc.dst 0 7 ∧ q019.vc = 1 ∧ q019.typ ≠ T_MGRSP ∧ s103.dev.forDraft q019 = false ∧ s103.dev.xferOf q019 = none ∧ q019.typ ≠ 0 ∧ s103.dev.net.xfers[0]? = some x010 ∧ List.find? (fun y => decide (y.flow = x010.flow)) s103.dev.net.xfers = some x010 ∧ x010.owner = Own.unit 7 4 ∧ x010.absorbed = false ∧ x010.bad = none ∧ x010.left = [(0, 1)] ∧ s103.dev.unit 7 4 = some u008 ∧ u008.status = ST_OK ∧ x010.timed = true ∧ x010.fabric = false ∧ x010.since + 800000 ≤ s103.dev.gt ∧ s103.dev.choose x010.ep 1 (s103.dev.inje x010.ep) ≠ Path.optical ∧ 1 < Config.endpoints ∧ s103.dev.present 1 = false ∧ List.filter (fun y => y.left.any fun l => decide (l.2 = 1)) s103.dev.net.xfers = [x010]) ∧
    (s104.dev.obeys = true ∧ s104.dev.net.pkts[0]? = some q019 ∧ q019.loc = Loc.dst 0 7 ∧ q019.vc = 1 ∧ q019.typ ≠ T_MGRSP ∧ s104.dev.forDraft q019 = false ∧ s104.dev.xferOf q019 = some x011 ∧ (if x011.typ = T_MWR then List.eraseP (fun l => decide (l.1 = q019.sq)) x011.left else List.filter (fun l => decide (l.1 ≠ q019.sq)) x011.left) = [] ∧ x011.owner = Own.unit 7 4 ∧ x011.absorbed = false ∧ x011.land = none ∧ x011.bad = none ∧ q019.status = ST_OK ∧ s104.dev.unit 7 4 = some u008) ∧
    (s105.dev.obeys = true ∧ s105.dev.net.pkts[0]? = some q019 ∧ q019.loc = Loc.dst 0 7 ∧ q019.vc = 1 ∧ q019.typ ≠ T_MGRSP ∧ s105.dev.forDraft q019 = false ∧ s105.dev.xferOf q019 = some x012 ∧ (if x012.typ = T_MWR then List.eraseP (fun l => decide (l.1 = q019.sq)) x012.left else List.filter (fun l => decide (l.1 ≠ q019.sq)) x012.left) ≠ [] ∧ x012.land = none) ∧
    (s106.dev.obeys = true ∧ s106.dev.net.pkts[0]? = some q019 ∧ q019.loc = Loc.dst 0 7 ∧ q019.vc = 1 ∧ q019.typ ≠ T_MGRSP ∧ s106.dev.forDraft q019 = false ∧ s106.dev.xferOf q019 = some x013 ∧ (if x013.typ = T_MWR then List.eraseP (fun l => decide (l.1 = q019.sq)) x013.left else List.filter (fun l => decide (l.1 ≠ q019.sq)) x013.left) ≠ [] ∧ x013.land = some (csKey 7 4096) ∧ x013.typ = T_RD ∧ q019.status = ST_OK ∧ x013.absorbed = false ∧ q019.pois = [] ∧ 7 < 896 ∧ 4096 + 256 * q019.sq + q019.data.length ≤ STORE_END ∧ s106.dev.plainStore 7 (4096 + 256 * q019.sq) q019.data) :=
  ⟨by decide +kernel,
   by decide +kernel,
   by decide +kernel,
   by decide +kernel⟩

/-! ### RouteTableCommandsComplete -/

def s107 : State := sr [(0x602088, (5 + 2 ^ 38 + 2 ^ 39))]
def s108 : State := sr [(0x602088, 5)]

theorem witness_RouteTableCommandsComplete :
    (s107.dev.obeys = true ∧ 2 < Config.endpoints ∧ s107.dev.present 2 = true ∧ (2 < 112 ∨ isIOD 2 = true) ∧ s107.dev.owner 0 ∧ (selOf (s107.dev.reg (pgRTR 2 + 136))).2.2.2.2 < tblWords 2 (selOf (s107.dev.reg (pgRTR 2 + 136))).2.2.1 ∧ (selOf (s107.dev.reg (pgRTR 2 + 136))).2.1 ≠ s107.dev.inje 2 ∧ s107.dev.f pgWHL WHL_RTEPOCH_STATE = 0 ∧ s107.dev.hostUp 0 = true ∧ 0 < 2) ∧
    (s108.dev.obeys = true ∧ 2 < Config.endpoints ∧ s108.dev.present 2 = true ∧ s108.dev.owner 0 ∧ (selOf (s108.dev.reg (pgRTR 2 + 136))).2.2.2.2 < tblWords 2 (selOf (s108.dev.reg (pgRTR 2 + 136))).2.2.1 ∧ (selOf (s108.dev.reg (pgRTR 2 + 136))).2.1 = s108.dev.inje 2) :=
  ⟨by decide +kernel,
   by decide +kernel⟩

/-! ### EpochCommandsComplete -/

def s109 : State := sr [(0x308, 8 + 1)]
def s110 : State := sr []
def s112 : State := sr [(0x308, 8 + 1)] (withP [pk (.router 2 3 2) T_RD] [])
def s113 : State := sr [(0x308, 5 + 0)] (N (fun n => { n with flipLeft := [2] }))
def s114 : State := sr [(0x308, 8 + 1)] (G (fun g => { g with cur := { num := 3 }, job := some (.commit { num := 2 } 0 none) }))
def old001 : Gen := { num := 2 }

/-- Bring-up is in step 7 and nothing is staged. -/
def sGen : State := ms (sf pgWHL WHL_BOOT_BSTEP 7 0)
theorem sGen_staged : sGen.dev.stagedGen = bare := by
  have h : ∀ a ∈ genRegs, a ∉ sGen.dev.regs.map (·.1) := by decide +kernel
  have h2 : sGen.dev.stagedTbl = [] ∧ sGen.dev.skn.ownStaged = [] := by decide +kernel
  rw [Dev.stagedGen, stagedWords_nil _ h, h2.1, h2.2]; rfl
theorem sGen_good : sGen.dev.genErr sGen.dev.stagedGen sGen.dev.xlateSame = 0 := by
  rw [show sGen.dev.xlateSame = true by decide +kernel, sGen_staged]
  refine genErr_bare rfl ?_ ?_ ?_ ?_ ?_ <;> decide +kernel
theorem sGen_noSpare : ∀ p < 896, sGen.dev.pstate p ≠ PS_SPARE := by
  intro p hp
  rw [pstate_unlisted _ p hp (by decide +kernel)]
  decide +kernel

theorem witness_EpochCommandsComplete :
    (s109.dev.obeys = true ∧ 2 < Config.endpoints ∧ 1 < 2 ∧ s109.dev.owner 0 ∧ s109.dev.f pgWHL WHL_RTEPOCH_STATE ≠ 0 ∧ s109.dev.f pgWHL WHL_RTEPOCH_STATE = 2 ∧ (∀ y < Config.endpoints, s109.dev.present y = true → s109.dev.residue y (s109.dev.f pgWHL WHL_RTEPOCH_OLD) = 0) ∧ s109.dev.gens.waiting = [] ∧ s109.dev.gens.job = none) ∧
    (s110.dev.obeys = true ∧ 2 < Config.endpoints ∧ 0 < 2 ∧ s110.dev.owner 0 ∧ s110.dev.f pgWHL WHL_RTEPOCH_STATE = 0 ∧ 0 = s110.dev.f pgWHL WHL_RTEPOCH_E) ∧
    (sGen.dev.genErr sGen.dev.stagedGen sGen.dev.xlateSame = 0 ∧ (∀ p < 896, sGen.dev.pstate p ≠ PS_SPARE) ∧ (sGen.dev.obeys = true ∧ 2 < Config.endpoints ∧ 1 < 2 ∧ sGen.dev.owner 0 ∧ 1 ≠ sGen.dev.f pgWHL WHL_RTEPOCH_E ∧ sGen.dev.genBusy = false ∧ 7 ≤ sGen.dev.f pgWHL WHL_BOOT_BSTEP ∧ (∀ x ∈ sGen.dev.slub.sc, x.2.prob = false))) ∧
    (s112.dev.obeys = true ∧ 2 < Config.endpoints ∧ 1 < 2 ∧ s112.dev.f pgWHL WHL_RTEPOCH_STATE = 2 ∧ s112.dev.present 2 = true ∧ s112.dev.residue 2 (s112.dev.f pgWHL WHL_RTEPOCH_OLD) ≠ 0) ∧
    (s113.dev.obeys = true ∧ 2 < Config.endpoints ∧ 1 < 2 ∧ s113.dev.f pgWHL WHL_RTEPOCH_STATE = 1 ∧ s113.dev.net.flipLeft.contains 2 = true) ∧
    (s114.dev.obeys = true ∧ 2 < Config.endpoints ∧ 1 < 2 ∧ s114.dev.f pgWHL WHL_RTEPOCH_STATE = 2 ∧ (∀ y < Config.endpoints, s114.dev.present y = true → s114.dev.residue y (s114.dev.f pgWHL WHL_RTEPOCH_OLD) = 0) ∧ s114.dev.gens.waiting = [] ∧ s114.dev.gens.job = some (Job.commit old001 0 none)) :=
  ⟨by decide +kernel,
   by decide +kernel,
   ⟨sGen_good, sGen_noSpare, by decide +kernel⟩,
   by decide +kernel,
   by decide +kernel,
   by decide +kernel⟩

/-! ### OpticalPacketEventsComplete -/

def s115 : State := sr [] (fun d => lit [0, 112] (opt1 (fun o => { o with rx := [(112, [5])], replay := [snt 3 0 { pk (.opt 0 112 5) T_RD with dep := 112 }] }) (withP [{ pk (.opt 0 112 5) T_RD with dep := 112 }] [] d)))
def q020 : Pkt := { pk (.opt 0 112 5) T_RD with dep := 112 }
def x014 := snt 3 0 { pk (.opt 0 112 5) T_RD with dep := 112 }
def s116 : State := sr [] (fun d => { lit [0, 112] (opt1 (fun o => { o with rx := [(112, [5])], replay := [snt 15 0 { pk (.opt 0 112 5) T_RD with dep := 112 }] }) d) with gt := 1600 })
def x015 := snt 15 0 { pk (.opt 0 112 5) T_RD with dep := 112 }
def s117 : State := sr [] (fun d => lit [0, 112] (opt1 (fun o => { o with replay := [snt 3 0 { pk (.opt 0 112 5) T_RD with dep := 112 }] }) (withP [{ pk (.opt 0 112 5) T_RD with dep := 112 }] [] d)))

theorem witness_OpticalPacketEventsComplete :
    (s115.dev.obeys = true ∧ s115.dev.net.pkts[0]? = some q020 ∧ q020.loc = Loc.opt 0 112 5 ∧ s115.dev.present 112 = true ∧ List.find? (fun y => decide (y.a = 0) && decide (y.b = 112) && decide (y.lseq = 5)) s115.dev.opt.replay = some x014 ∧ (SMap.get { } s115.dev.opt.cnt (dirKey 0 112 * 16 + x014.plane)).succ + 1 < 3 ∧ nextPlane (s115.dev.planeList 0 112) (SMap.get 0 s115.dev.opt.rot (dirKey 0 112)) = some 0 ∧ (SMap.get [] s115.dev.opt.rx (dirKey 0 112)).contains 5 = true) ∧
    (s116.dev.obeys = true ∧ (∀ (x : Sent), List.find? (fun y => decide (y.a = 0) && decide (y.b = 112) && decide (y.lseq = 5)) s116.dev.opt.replay = some x → x.at_ + 1600 ≤ s116.dev.gt) ∧ List.find? (fun y => decide (y.a = 0) && decide (y.b = 112) && decide (y.lseq = 5)) s116.dev.opt.replay = some x015 ∧ (SMap.get { } s116.dev.opt.cnt (dirKey 0 112 * 16 + x015.plane)).succ + 1 < 3 ∧ nextPlane (s116.dev.planeList 0 112) (SMap.get 0 s116.dev.opt.rot (dirKey 0 112)) = some 0) ∧
    (s117.dev.obeys = true ∧ s117.dev.net.pkts[0]? = some q020 ∧ q020.loc = Loc.opt 0 112 5 ∧ s117.dev.present 112 = true ∧ (SMap.get [] s117.dev.opt.rx (dirKey 0 112)).contains 5 = false) :=
  ⟨by decide +kernel,
   by decide +kernel,
   by decide +kernel⟩

/-! ### OpticalServiceCommandsComplete -/

def s118 : State := sr [(0x310, 512)] (opt1 (fun o => { o with restart := [1] }))
def s119 : State := sr [(0x310, 256), (0xC70080, 1)] (fun d => { d with gt := 5 })
def s120 : State := sr [] (fun d => d.updChan 0 112 3 (fun _ => { cls := 0, inSvc := true, thinAt := 1 }))
def s121 : State := sr [] (fun d => d.updChan 0 112 3 (fun _ => { cls := 2, inSvc := false, tuned := false }))
def s122 : State := sr [(0x310, 512)] (id)
def s123 : State := sr [(0x500, 9 * 2 ^ 44)] (id)
def s124 : State := sr [] (opt1 (fun o => { o with queue := [3, 7] }))
def t004 : List Nat := [7]
def s125 : State := sr [] (opt1 (fun o => { o with relock := some 3, outPlanes := [3] }))
def s126 : State := sr [] (fun d => d.updChan 0 112 3 (fun _ => { cls := 2, inSvc := false }))
def s127 : State := sr [] (fun d => d.updChan 0 112 3 (fun _ => { cls := 2, inSvc := false, tuned := false, fails := 3 }))

theorem witness_OpticalServiceCommandsComplete :
    ((s118.dev.obeys = true ∧ chanOk 0 112 3 = true ∧ 1 < 8 ∧ s118.dev.owner 0 ∧ s118.dev.opt.restart.contains 1 = true) ∧
     (s119.dev.obeys = true ∧ chanOk 0 112 3 = true ∧ 1 < 8 ∧ s119.dev.f pgWHL WHL_OPTCTL_CSTATE = 1 ∧ (s119.dev.present 112 = true ∧ 112 < Config.endpoints ∧ s119.dev.f (pgOPT 112) OPT_STATE_ESTATE = 1))) ∧
    ((s120.dev.obeys = true ∧ chanOk 0 112 3 = true ∧ 1 < 8 ∧ ((s120.dev.chan 0 112 3).cls < 3 ∧ s120.dev.opt.outPlanes.contains 3 = false ∧ s120.dev.present 0 = true ∧ s120.dev.present 112 = true) ∧ (s120.dev.chan 0 112 3).cls < 2 ∧ 1 < 2 ∧ max ((s120.dev.chan 0 112 3).window 0 112 1).up ((s120.dev.chan 0 112 3).window 0 112 1).dn < 2 ∧ (max ((s120.dev.chan 0 112 3).window 0 112 1).up ((s120.dev.chan 0 112 3).window 0 112 1).dn = 1 → (s120.dev.chan 0 112 3).thinAt = s120.dev.gt / 4000000000 + 1) ∧ max ((s120.dev.chan 0 112 3).window 0 112 2).up ((s120.dev.chan 0 112 3).window 0 112 2).dn = 2 ∧ s120.dev.quietScore U_PAIR (pairKey 0 112) (s120.dev.weight 9)) ∧
     (s121.dev.obeys = true ∧ chanOk 0 112 3 = true ∧ 1 < 8 ∧ (s121.dev.chan 0 112 3).cls = 2 ∧ (s121.dev.chan 0 112 3).tuned = false ∧ (s121.dev.chan 0 112 3).fails < 3)) ∧
    ((s122.dev.obeys = true ∧ chanOk 0 112 3 = true ∧ 1 < 8 ∧ s122.dev.laserBad 1 = false ∧ s122.dev.opt.restart.contains 1 = false ∧ s122.dev.f pgWHL WHL_OPTCTL_CSTATE = 2) ∧
     (s123.dev.obeys = true ∧ chanOk 0 112 3 = true ∧ 1 < 8 ∧ s123.dev.owner 0 ∧ 9 ≤ s123.dev.f pgWHL WHL_BOOT_BSTEP ∧ s123.dev.f pgWHL WHL_OPTCTL_CSTATE = 0)) ∧
    ((s124.dev.obeys = true ∧ chanOk 0 112 3 = true ∧ 1 < 8 ∧ s124.dev.opt.relock = none ∧ s124.dev.opt.queue = 3 :: t004 ∧ s124.dev.laserBad (3 / 2) = false ∧ s124.dev.opt.restart.contains (3 / 2) = false) ∧
     (s125.dev.obeys = true ∧ chanOk 0 112 3 = true ∧ 1 < 8 ∧ s125.dev.opt.relock = some 3)) ∧
    ((s126.dev.obeys = true ∧ chanOk 0 112 3 = true ∧ 1 < 8 ∧ ((s126.dev.chan 0 112 3).cls < 3 ∧ s126.dev.opt.outPlanes.contains 3 = false ∧ s126.dev.present 0 = true ∧ s126.dev.present 112 = true) ∧ (s126.dev.chan 0 112 3).cls = 2 ∧ (s126.dev.chan 0 112 3).tuned = true ∧ max ((s126.dev.chan 0 112 3).window 0 112 0).up ((s126.dev.chan 0 112 3).window 0 112 0).dn = 0) ∧
     (s127.dev.obeys = true ∧ chanOk 0 112 3 = true ∧ 1 < 8 ∧ (s127.dev.chan 0 112 3).cls = 2 ∧ (s127.dev.chan 0 112 3).tuned = false ∧ 3 ≤ (s127.dev.chan 0 112 3).fails ∧ s127.dev.quietScore U_PAIR (pairKey 0 112) (s127.dev.weight 10))) :=
  ⟨by decide +kernel,
   by decide +kernel,
   by decide +kernel,
   by decide +kernel,
   by decide +kernel⟩

/-! ### LinkTrainingCommandsComplete -/

def s128 : State := sr [(0x800080, 5)] (lnk 0 l64)
def v003 : Word := 2 * 2 ^ 56
def s129 : State := sr [(0x800080, 1)] (lnk 0 {})
def s130 : State := sr [(0x800080, 3)] (lnk 0 {})
def s131 : State := sr [(0x800080, 4)] (lnk 0 {})
def v004 : Word := 3 * 2 ^ 56 + 2 ^ 41 + 2 * 2 ^ 39
def s132 : State := sr [(0x800080, 2)] (lnk 0 {})
def s133 : State := sr [(0x800080, 4)] (lnk 0 { deskewed := true })
def s134 : State := sr [(0x800080, 3)] (lnk 0 { badF := List.range 60 })

theorem witness_LinkTrainingCommandsComplete :
    (s128.dev.obeys = true ∧ 0 < Config.allLinks ∧ s128.dev.linkState 0 = 5 ∧ capCause 0 (localCap s128.fuse 0) v003 = some 3) ∧
    (s129.dev.obeys = true ∧ 0 < Config.allLinks ∧ s129.dev.linkState 0 = 1) ∧
    (s130.dev.obeys = true ∧ 0 < Config.allLinks ∧ s130.dev.linkState 0 = 3 ∧ widthFor (min (goodLanes (s130.dev.link 0).badF).length (goodLanes (s130.dev.link 0).badR).length) ≠ 0) ∧
    (s131.dev.obeys = true ∧ 0 < Config.allLinks ∧ s131.dev.linkState 0 = 4 ∧ (s131.dev.link 0).deskewed = false) ∧
    (s128.dev.obeys = true ∧ 0 < Config.allLinks ∧ s128.dev.linkState 0 = 5 ∧ capCause 0 (localCap s128.fuse 0) v004 = none ∧ 16 ≤ (s128.dev.link 0).actF.length * 2 ^ capRate (localCap s128.fuse 0) v004 / 4) ∧
    (s132.dev.obeys = true ∧ 0 < Config.allLinks ∧ s132.dev.linkState 0 = 2) ∧
    (s133.dev.obeys = true ∧ 0 < Config.allLinks ∧ s133.dev.linkState 0 = 4 ∧ (s133.dev.link 0).deskewed = true) ∧
    (s134.dev.obeys = true ∧ 0 < Config.allLinks ∧ s134.dev.linkState 0 = 3 ∧ widthFor (min (goodLanes (s134.dev.link 0).badF).length (goodLanes (s134.dev.link 0).badR).length) = 0) :=
  ⟨by decide +kernel,
   by decide +kernel,
   by decide +kernel,
   by decide +kernel,
   by decide +kernel,
   by decide +kernel,
   by decide +kernel,
   by decide +kernel⟩

/-! ### LinkServiceCommandsComplete -/

def s135 : State := sr [(0x800080, 6), (0x800088, 1)] (lnk 0 l64)
def s136 : State := sr [(0x318, 1)] (lnk 0 {})
def s137 : State := sr [(0x800080, 7)] (lnk 0 l64)
def s138 : State := sr [(0x500, 3 * 2 ^ 44)] (lnk 0 {})
def s139 : State := sr [(0x800080, 6), (0x800088, 5 * 2 ^ 16)] (lnk 0 { l64 with replays := 6 })

theorem witness_LinkServiceCommandsComplete :
    (s135.dev.obeys = true ∧ 0 < Config.allLinks ∧ 0 < 2 ∧ 2 ≤ 64 ∧ s135.dev.linkUp 0 = true ∧ (s135.dev.f (pgLink 0) DBL_CTL_RPLBUD = 0 ∨ (s135.dev.link 0).replays ≤ s135.dev.f (pgLink 0) DBL_CTL_RPLBUD) ∧ 63 < 68 ∧ 16 ≤ 16 ∧ (if true = true then (s135.dev.link 0).actF else (s135.dev.link 0).actR).contains 63 = true ∧ List.find? (fun z => !(if true = true then (s135.dev.link 0).actF else (s135.dev.link 0).actR).contains z) (goodLanes (setIns (if true = true then (s135.dev.link 0).badF else (s135.dev.link 0).badR) 63)) = some 64 ∧ (0 < 600 → s135.dev.quietScore U_LINK 0 (s135.dev.weight 5)) ∧ s135.dev.linkState 0 = 6 ∧ s135.dev.fb (pgLink 0) DBL_CTL_RECAL = true ∧ s135.dev.owner 0 ∧ (s135.dev.fb (pgLink 0) DBL_CTL_HOLD = false ∧ (s135.dev.link 0).retired = false ∧ (s135.dev.link 0).discBad = false ∧ s135.dev.linkEnds 0 = true) ∧ s135.dev.linkEnds 0 = true) ∧
    (s136.dev.obeys = true ∧ 0 < Config.allLinks ∧ s136.dev.f pgWHL WHL_DISC_DSTATE = 1 ∧ s136.dev.training = false) ∧
    (s137.dev.obeys = true ∧ 0 < Config.allLinks ∧ s137.dev.linkState 0 = 7) ∧
    (s138.dev.obeys = true ∧ 0 < Config.allLinks ∧ s138.dev.owner 0 ∧ 3 ≤ s138.dev.f pgWHL WHL_BOOT_BSTEP ∧ s138.dev.f pgWHL WHL_DISC_DSTATE = 0) ∧
    (s139.dev.obeys = true ∧ 0 < Config.allLinks ∧ s139.dev.f (pgLink 0) DBL_CTL_RPLBUD ≠ 0 ∧ s139.dev.f (pgLink 0) DBL_CTL_RPLBUD < (s139.dev.link 0).replays ∧ (0 < 600 → s139.dev.quietScore U_LINK 0 (s139.dev.weight 6))) :=
  ⟨by decide +kernel,
   by decide +kernel,
   by decide +kernel,
   by decide +kernel,
   by decide +kernel⟩

/-! ### MemoryAccessesComplete -/

def s140 : State := sr mrs (fun d => (id) (withP [{ pk (.dst 112 0) T_RD with sep := 112, addr := 5, len := 20 }] [] { d with mem := memWrite [] (t1Key 0 5) [1, 2, 3, 4, 5, 6, 7, 8, 9] }))
def q021 : Pkt := { pk (.dst 112 0) T_RD with sep := 112, addr := 5, len := 20 }
def k001 := t1Key 0 5
def s141 : State := sr mrs (fun d => (id) (withP [{ pk (.dst 112 0) T_ATOM with sep := 112, sub := 0, addr := 16, len := 8, data := List.replicate 8 7 }] [] { d with mem := memWrite [] (t1Key 0 16) [1, 2, 3, 4, 5, 6, 7, 8, 9] }))
def q022 : Pkt := { pk (.dst 112 0) T_ATOM with sep := 112, sub := 0, addr := 16, len := 8, data := List.replicate 8 7 }
def k002 := t1Key 0 16
def s142 : State := sr mrs (fun d => (fun d => { d with pois := [t1Key 0 0] }) (withP [{ pk (.dst 112 0) T_WR with sep := 112, addr := 5, len := 20, data := List.replicate 20 7 }] [] { d with mem := memWrite [] (t1Key 0 5) [1, 2, 3, 4, 5, 6, 7, 8, 9] }))
def q023 : Pkt := { pk (.dst 112 0) T_WR with sep := 112, addr := 5, len := 20, data := List.replicate 20 7 }
def s143 : State := sr mrs (fun d => (fun d => { d with pois := [t1Key 0 0] }) (withP [{ pk (.dst 112 0) T_ATOM with sep := 112, sub := 0, addr := 16, len := 8, data := List.replicate 8 7 }] [] { d with mem := memWrite [] (t1Key 0 16) [1, 2, 3, 4, 5, 6, 7, 8, 9] }))

theorem witness_MemoryAccessesComplete :
    (s140.dev.obeys = true ∧ s140.dev.net.pkts[0]? = some q021 ∧ q021.loc = Loc.dst 112 0 ∧ 112 ≤ 112 ∧ s140.dev.replies 112 q021 ∧ s140.dev.servedAt 112 q021.addr (if q021.typ = T_ATOM then if q021.sub = 10 then 16 else 8 else firstPart q021.addr q021.len) = Except.ok (k001, true) ∧ q021.typ = T_RD ∧ (true = false ∨ q021.len = firstPart q021.addr q021.len)) ∧
    (s141.dev.obeys = true ∧ s141.dev.net.pkts[0]? = some q022 ∧ q022.loc = Loc.dst 112 0 ∧ 112 ≤ 112 ∧ s141.dev.replies 112 q022 ∧ s141.dev.servedAt 112 q022.addr (if q022.typ = T_ATOM then if q022.sub = 10 then 16 else 8 else firstPart q022.addr q022.len) = Except.ok (k002, true) ∧ q022.typ = T_ATOM ∧ true = true ∧ s141.dev.poisoned k002 (if q022.sub = 10 then 16 else 8) = false) ∧
    (s142.dev.obeys = true ∧ s142.dev.net.pkts[0]? = some q023 ∧ q023.loc = Loc.dst 112 0 ∧ 112 ≤ 112 ∧ s142.dev.replies 112 q023 ∧ s142.dev.servedAt 112 q023.addr (if q023.typ = T_ATOM then if q023.sub = 10 then 16 else 8 else firstPart q023.addr q023.len) = Except.ok (k001, true) ∧ q023.typ = T_WR ∧ true = true ∧ q023.len = firstPart q023.addr q023.len ∧ q023.pois = []) ∧
    (s143.dev.obeys = true ∧ s143.dev.net.pkts[0]? = some q022 ∧ q022.loc = Loc.dst 112 0 ∧ 112 ≤ 112 ∧ s143.dev.replies 112 q022 ∧ s143.dev.servedAt 112 q022.addr (if q022.typ = T_ATOM then if q022.sub = 10 then 16 else 8 else firstPart q022.addr q022.len) = Except.ok (k002, true) ∧ q022.typ = T_ATOM ∧ true = true ∧ s143.dev.poisoned k002 (if q022.sub = 10 then 16 else 8) = true) :=
  ⟨by decide +kernel,
   by decide +kernel,
   by decide +kernel,
   by decide +kernel⟩

/-! ### MemoryServiceCommandsComplete -/

def s144 : State := sr ((0xE00088, 5 * 2 ^ 16) :: mrs)
def s145 : State := sr ((0xE00088, 0) :: mrs)
def s146 : State := sr mrs (fun d => d.updMbd 0 (fun b => { b with migrating := some 5 }))
def s147 : State := sr mrs (fun d => G (fun g => { g with cur := { g.cur with regs := (List.range 3).map (fun i => (0x340 + 8 * i, BitVec.ofNat 64 (2 ^ 64 - 1))) } }) d)

theorem witness_MemoryServiceCommandsComplete :
    (s144.dev.obeys = true ∧ (isMB 112 = true ∨ isIOD 112 = true) ∧ 0 < Config.baseDies ∧ 5 < 32 ∧ 0 < Config.iods ∧ 3 < 4 ∧ (if isMB 112 = true then s144.dev.fb (pgMBD (112 - 112)) MBD_CTL_SCRUBH else s144.dev.fb (pgIOD (112 - 168)) IOD_LPCTL_SCRUBH) = true ∧ s144.dev.present 112 = true ∧ 1 < 2 ∧ 7 + 1 < (if isMB 112 = true then 96 * 2 ^ 24 else 4 * 2 ^ 30) ∧ s144.dev.isPois (lineKey 112 (7 + 1)) = false ∧ s144.dev.quietScore (lineAt (lineKey 112 (7 + 1))).kind (lineAt (lineKey 112 (7 + 1))).idx (s144.dev.weight 13) ∧ s144.dev.quietScore (lineAt (lineKey 112 (7 + 1))).kind (lineAt (lineKey 112 (7 + 1))).idx (s144.dev.weight 12) ∧ SMap.get 0 (s144.dev.mb (lineAt (lineKey 112 (7 + 1))).at_).ceAt (lineAt (lineKey 112 (7 + 1))).ch = 0 ∧ (List.filter (fun t => decide (s144.dev.gt < t + 345600000000000)) (SMap.get [] (s144.dev.mb (lineAt (lineKey 112 (7 + 1))).at_).rowCe (Config.memRow (lineKey 112 (7 + 1))))).length < 3 ∧ s144.dev.owner 0 ∧ s144.dev.present (112 + 0) = true ∧ s144.dev.isRetired U_CHAN (32 * 0 + 5) = false ∧ (s144.dev.mb 0).migrating = none ∧ 5 ∉ (s144.dev.mb 0).wait ∧ s144.dev.spareBands < 3 * ((s144.dev.chRet 0).length + 1) ∧ s144.dev.present (168 + 0) = true ∧ s144.dev.isRetired U_PKG (4 * 0 + 3) = false) ∧
    (s145.dev.obeys = true ∧ (isMB 112 = true ∨ isIOD 112 = true) ∧ 0 < Config.baseDies ∧ 5 < 32 ∧ 0 < Config.iods ∧ 3 < 4 ∧ ((if isMB 112 = true then s145.dev.fb (pgMBD (112 - 112)) MBD_CTL_SCRUBH else s145.dev.fb (pgIOD (112 - 168)) IOD_LPCTL_SCRUBH) = false ∨ s145.dev.present 112 = false)) ∧
    (s146.dev.obeys = true ∧ (isMB 112 = true ∨ isIOD 112 = true) ∧ 0 < Config.baseDies ∧ 5 < 32 ∧ 0 < Config.iods ∧ 3 < 4 ∧ (s146.dev.mb 0).migrating = some 5 ∧ (s146.dev.mb 0).wait = [] ∧ s146.dev.present (112 + 0) = true) ∧
    (s147.dev.obeys = true ∧ (isMB 112 = true ∨ isIOD 112 = true) ∧ 0 < Config.baseDies ∧ 5 < 32 ∧ 0 < Config.iods ∧ 3 < 4 ∧ s147.dev.owner 0 ∧ s147.dev.present (112 + 0) = true ∧ s147.dev.isRetired U_CHAN (32 * 0 + 5) = false ∧ (s147.dev.mb 0).migrating = none ∧ 5 ∉ (s147.dev.mb 0).wait ∧ 3 * ((s147.dev.chRet 0).length + 1) ≤ s147.dev.spareBands) :=
  ⟨by decide +kernel,
   by decide +kernel,
   by decide +kernel,
   by decide +kernel⟩

/-! ### FabricPortCommandsComplete -/

def s148 : State := sr [(0x3000080, 256), (0x300B080, 5)] (fun d => up [0, 168, 173, 184] { d with fab := { d.fab with thinAt := [(10 * 16 + 15, 1)] } })
def s149 : State := sr [(0x300B080, 1)] (up [0, 168, 173, 184])
def s150 : State := sr [(0x300B080, 2)] (up [0, 168, 173, 184])
def s151 : State := sr [(0x300B080, 3)] (up [0, 168, 173, 184])
def s152 : State := sr [(0x300B080, 4)] (up [0, 168, 173, 184])
def v005 : Word := 2 ^ 56 + 2 ^ 17
def v006 : Word := 2 ^ 57
def s153 : State := sr [(0x300B080, 3)] (fun d => up [0, 168, 173, 184] { d with fab := { d.fab with bad := [(10, List.range 14)] } })

theorem witness_FabricPortCommandsComplete :
    (s148.dev.obeys = true ∧ 10 < Config.fabricPorts ∧ 15 < 16 ∧ s148.dev.owner 0 ∧ ({ s148.dev with fab := { s148.dev.fab with config := false } } : Dev).portBar 10 = none ∧ s148.dev.f (pgTUB (10 + 1)) TUB_PSTATE_STATE = 5 ∧ 15 ∉ s148.dev.badOfPort 10 ∧ 1 < 2 ∧ (1 = 1 → SMap.get 0 s148.dev.fab.thinAt (10 * 16 + 15) = s148.dev.gt / 4000000000 + 1) ∧ s148.dev.quietScore U_PORT 10 (s148.dev.weight 17) ∧ s148.dev.portBar 10 = none ∧ 0 < 4096 ∧ 4096 ≤ 4096 ∧ s148.dev.present (168 + 10 / 2) = true) ∧
    (s149.dev.obeys = true ∧ 10 < Config.fabricPorts ∧ 15 < 16 ∧ s149.dev.f (pgTUB (10 + 1)) TUB_PSTATE_STATE = 1) ∧
    (s150.dev.obeys = true ∧ 10 < Config.fabricPorts ∧ 15 < 16 ∧ s150.dev.f (pgTUB (10 + 1)) TUB_PSTATE_STATE = 2) ∧
    (s151.dev.obeys = true ∧ 10 < Config.fabricPorts ∧ 15 < 16 ∧ s151.dev.f (pgTUB (10 + 1)) TUB_PSTATE_STATE = 3 ∧ fabWidth (s151.dev.goodOf 10) ≠ 0) ∧
    (s152.dev.obeys = true ∧ 10 < Config.fabricPorts ∧ 15 < 16 ∧ s152.dev.f (pgTUB (10 + 1)) TUB_PSTATE_STATE = 4 ∧ s152.dev.fabCapCause 10 v005 = none) ∧
    (s152.dev.obeys = true ∧ 10 < Config.fabricPorts ∧ 15 < 16 ∧ s152.dev.f (pgTUB (10 + 1)) TUB_PSTATE_STATE = 4 ∧ s152.dev.fabCapCause 10 v006 = some 3) ∧
    (s153.dev.obeys = true ∧ 10 < Config.fabricPorts ∧ 15 < 16 ∧ s153.dev.f (pgTUB (10 + 1)) TUB_PSTATE_STATE = 3 ∧ fabWidth (s153.dev.goodOf 10) = 0) :=
  ⟨by decide +kernel,
   by decide +kernel,
   by decide +kernel,
   by decide +kernel,
   by decide +kernel,
   by decide +kernel,
   by decide +kernel⟩

/-! ### FabricPacketEventsComplete -/

def s154 : State := sr ([(0x3001080, 5)] ++ mrs) (fun d => (id) (reg [(0x3000400, 0), (0x3000408, 2 ^ 63 + 15 * 2 ^ 59 + 77 * 2 ^ 40 + 16)] (Pr [0, 112, 168, 184] (lit [112, 168, 184] (reg [(0x300, 256)] d)))))
def pre001 := preOf (hdrOf [(248, 1), (201, 5), (117, 64), (89, 77), (0, 0x40)]) (5 * 2 ^ 24)
def hdr001 := hdrOf [(248, 1), (201, 5), (117, 64), (89, 77), (0, 0x40)]
def data001 : List Byte := []
def p162 : Pkt := { Pkt.ofHeader hdr001 pre001 data001 rs001 with
  dir := (if s154.dev.portDir 0 % 2 = 0 then s154.dev.portDir 0 + 1 else s154.dev.portDir 0 - 1) * 64 + 0 }
def pre002 := preOf (hdrOf [(248, 1), (201, 5), (117, 64), (89, 78), (0, 0x40)]) (5 * 2 ^ 24)
def hdr002 := hdrOf [(248, 1), (201, 5), (117, 64), (89, 78), (0, 0x40)]
def p163 : Pkt := { Pkt.ofHeader hdr002 pre002 data001 rs001 with
  dir := (if s154.dev.portDir 0 % 2 = 0 then s154.dev.portDir 0 + 1 else s154.dev.portDir 0 - 1) * 64 + 0 }
def pre003 := preOf (hdrOf [(254, vcOf T_RDRSP), (248, T_RDRSP), (224, 9), (201, 5)]) (1 * 2 ^ 24)
def hdr003 := hdrOf [(254, vcOf T_RDRSP), (248, T_RDRSP), (224, 9), (201, 5)]
def p164 : Pkt := { Pkt.ofHeader hdr003 pre003 data001 rs001 with
  dir := (if s154.dev.portDir 0 % 2 = 0 then s154.dev.portDir 0 + 1 else s154.dev.portDir 0 - 1) * 64 + 0 }
def pre004 := preOf (hdrOf [(254, vcOf 0x39), (248, 0x39), (201, 5), (117, 8), (0, MBOX)]) (5 * 2 ^ 24)
def hdr004 := hdrOf [(254, vcOf 0x39), (248, 0x39), (201, 5), (117, 8), (0, MBOX)]
def data002 : List Byte := [1,2,3,4,5,6,7,8]
def p165 : Pkt := { Pkt.ofHeader hdr004 pre004 data002 rs001 with
  dir := (if s154.dev.portDir 0 % 2 = 0 then s154.dev.portDir 0 + 1 else s154.dev.portDir 0 - 1) * 64 + 0 }
def s155 : State := cs [(7, { units := [{ vu 0 0x60 4 0 .net (cmd 0x60 []) with fin := false }] })] [mapped 7 5 2] (fun d => withP [] [{ xf 3 (.unit 7 4) T_WR 2 [(0, 168)] with fabric := true, since := 5, fport := some 0 }] { d with gt := 5 + 400000 * 255 })
def x016 : Xfer := { xf 3 (.unit 7 4) T_WR 2 [(0, 168)] with fabric := true, since := 5, fport := some 0 }

theorem witness_FabricPacketEventsComplete :
    (s154.dev.obeys = true ∧ 0 < Config.fabricPorts ∧ s154.dev.f (pgTUB (0 + 1)) TUB_PSTATE_STATE = 5 ∧ fld pre001 31 0 = prefixCrc hdr001 pre001 ∧ p162.bad = false ∧ s154.dev.draining (168 + 0 / 2) = false ∧ p162.dpanel = s154.dev.self ∧ (p162.typ = T_RD ∨ p162.typ = T_WR) ∧ (s154.dev.fabTarget (168 + 0 / 2) p162).2.2 = Tgt.to 112 0 64 ∧ s154.dev.winCheck p162.typ p162.tag (s154.dev.fabTarget (168 + 0 / 2) p162).1 (s154.dev.fabTarget (168 + 0 / 2) p162).2.1 = none ∧ s154.dev.choose (168 + 0 / 2) 112 (s154.dev.inje (168 + 0 / 2)) ≠ Path.none) ∧
    (s154.dev.obeys = true ∧ 0 < Config.fabricPorts ∧ s154.dev.f (pgTUB (0 + 1)) TUB_PSTATE_STATE = 5 ∧ fld pre002 31 0 = prefixCrc hdr002 pre002 ∧ p163.bad = false ∧ s154.dev.draining (168 + 0 / 2) = false ∧ p163.dpanel = s154.dev.self ∧ (p163.typ = T_RD ∨ p163.typ = T_WR) ∧ (s154.dev.fabTarget (168 + 0 / 2) p163).2.2 = Tgt.to 112 0 64 ∧ s154.dev.winCheck p163.typ p163.tag (s154.dev.fabTarget (168 + 0 / 2) p163).1 (s154.dev.fabTarget (168 + 0 / 2) p163).2.1 = some ST_TAG) ∧
    (s154.dev.obeys = true ∧ 0 < Config.fabricPorts ∧ s154.dev.f (pgTUB (0 + 1)) TUB_PSTATE_STATE = 5 ∧ fld pre003 31 0 = prefixCrc hdr003 pre003 ∧ p164.bad = false ∧ s154.dev.draining (168 + 0 / 2) = false ∧ p164.dpanel ≠ s154.dev.self ∧ p164.ttl = 0 ∧ p164.isReq = false) ∧
    (s154.dev.obeys = true ∧ 0 < Config.fabricPorts ∧ s154.dev.f (pgTUB (0 + 1)) TUB_PSTATE_STATE = 5 ∧ fld pre004 31 0 = prefixCrc hdr004 pre004 ∧ p165.bad = false ∧ s154.dev.draining (168 + 0 / 2) = false ∧ p165.dpanel = s154.dev.self ∧ p165.typ = T_MGWR ∧ p165.addr = MBOX ∧ s154.dev.choose (168 + 0 / 2) s154.dev.wdEp (s154.dev.inje (168 + 0 / 2)) ≠ Path.none) ∧
    (s155.dev.obeys = true ∧ 0 < Config.fabricPorts ∧ s155.dev.net.xfers[0]? = some x016 ∧ List.find? (fun y => decide (y.flow = x016.flow)) s155.dev.net.xfers = some x016 ∧ x016.owner = Own.unit 7 4 ∧ x016.absorbed = false ∧ x016.bad = none ∧ x016.left = [(0, 168)] ∧ s155.dev.unit 7 4 = some u008 ∧ u008.status = ST_OK ∧ x016.fabric = true ∧ x016.since + 400000 * s155.dev.f (pgTUB 0) TUB_CTL_FTMO ≤ s155.dev.gt ∧ (∀ (y : Nat), x016.fport = some y → s155.dev.quietScore U_PORT y (s155.dev.weight 18))) :=
  ⟨by decide +kernel,
   by decide +kernel,
   by decide +kernel,
   by decide +kernel,
   by decide +kernel⟩

/-! ### FabricRegisterCommandsComplete -/

def s156 : State := sr [(0x3000080, 2 ^ 24)] (id)
def v008 : Word := 2 ^ 63 + 2 ^ 59 + 2 ^ 40 + 1
def s157 : State := sr [] (id)
def v009 : Word := 2 ^ 63 + 2 ^ 59 + 1
def v010 : Word := 2 ^ 59 + 2 ^ 40 + 1
def s158 : State := sr [(0x3000090, 4)] (fun d => { d with gt := 400000 * 255, fab := { d.fab with flipLeft := [0, 3] } })

theorem witness_FabricRegisterCommandsComplete :
    (s156.dev.obeys = true ∧ 63 < 64 ∧ 5 < 4096 ∧ 1 < 2 ∧ 0 < 4096 ∧ s156.dev.owner 0 ∧ bit v008 63 = true ∧ s156.dev.winGood 63 v008 = true ∧ s156.dev.hostUp 0 = true ∧ 0 < 2 ∧ (s156.dev.isLead = false ∨ s156.dev.f (pgTUB 0) TUB_FEPOCH_STATE ≠ 0) ∧ s156.dev.isLead = false ∧ 0 = s156.dev.self) ∧
    (s157.dev.obeys = true ∧ 63 < 64 ∧ 5 < 4096 ∧ 1 < 2 ∧ 3 < 4096 ∧ s157.dev.owner 0 ∧ bit v009 63 = true ∧ s157.dev.winGood 63 v009 = false ∧ s157.dev.isLead = true ∧ s157.dev.f (pgTUB 0) TUB_FEPOCH_STATE = 0 ∧ 1 ≠ s157.dev.fepoch) ∧
    (s157.dev.obeys = true ∧ 63 < 64 ∧ 5 < 4096 ∧ 0 < 2 ∧ 3 < 4096 ∧ s157.dev.owner 0 ∧ bit v010 63 = false ∧ s157.dev.isLead = true ∧ s157.dev.f (pgTUB 0) TUB_FEPOCH_STATE = 0 ∧ 0 = s157.dev.fepoch) ∧
    (s158.dev.obeys = true ∧ 63 < 64 ∧ 5 < 4096 ∧ 1 < 2 ∧ 3 < 4096 ∧ s158.dev.isLead = true ∧ s158.dev.fab.askedAt + 400000 * s158.dev.f (pgTUB 0) TUB_CTL_FTMO ≤ s158.dev.gt ∧ 3 ∈ s158.dev.fab.flipLeft ∧ 3 ≠ s158.dev.self ∧ s158.dev.f (pgTUB 0) TUB_FEPOCH_STATE = 1 ∧ List.filter (fun x => decide (x ≠ 3)) s158.dev.fab.flipLeft ≠ []) :=
  ⟨by decide +kernel,
   by decide +kernel,
   by decide +kernel,
   by decide +kernel⟩

/-! ### WinderCommandsComplete -/

def s159 : State := sr [] (fun d => { (put (wsKey 0 0x400) (hB [(63, 1), (60, 1), (44, 2), (24, 3)] (4 * 2 ^ 32) 5)) d with areas := [ar0], gt := 20000 })
def h001 := wsKey 0 0x400
def a001 : Area := ar0
def s160 : State := sr [] (fun d => { (put (wsKey 0 0x400) (hB [(63, 1), (60, 2), (44, 2), (24, 3)] (4 * 2 ^ 32) 0)) d with areas := [{ ar0 with sent := true, outStatus := 3 }] })
def a002 : Area := { ar0 with sent := true, outStatus := 3 }
def s161 : State := sr [] (fun d => { put (wsKey 0 0x440) (leBytes 100 (2^700-1)) ((put (wsKey 0 0x400) (hB [(63, 1), (60, 1), (44, 2), (24, 3)] (4 * 2 ^ 32) 0)) d) with areas := [{ ar0 with zeroing := true }] })
def a003 : Area := { ar0 with zeroing := true }
def s162 : State := sr [] (fun d => (id) (withP [{ pk (.dst 112 0) T_LWORD with sep := 112, part := 2, addr := 3 * 2 ^ 48 + 2 ^ 47 + 0x440 + 24, len := 24, data := lwb 1 5 }] [] d))
def q025 : Pkt := { pk (.dst 112 0) T_LWORD with sep := 112, part := 2, addr := 3 * 2 ^ 48 + 2 ^ 47 + 0x440 + 24, len := 24, data := lwb 1 5 }
def k003 := wsKey 0 0x458
def s163 : State := sr [] (fun d => (id) (withP [{ pk (.dst 112 0) T_WR with sep := 112, addr := 3 * 2 ^ 48 + 2 ^ 47 + 1024, len := 64, data := (hB [(63, 1), (44, 2), (24, 3)] (4 * 2 ^ 32) 0) }] [] d))
def q026 : Pkt := { pk (.dst 112 0) T_WR with sep := 112, addr := 3 * 2 ^ 48 + 2 ^ 47 + 1024, len := 64, data := (hB [(63, 1), (44, 2), (24, 3)] (4 * 2 ^ 32) 0) }
def s164 : State := sr [] (fun d => (id) (withP [{ pk (.dst 112 0) T_WR with sep := 112, addr := 3 * 2 ^ 48 + 2 ^ 47 + 1024, len := 64, data := (hB [(63, 1), (50, 3), (24, 3)] (4 * 2 ^ 32) 0) }] [] d))
def q027 : Pkt := { pk (.dst 112 0) T_WR with sep := 112, addr := 3 * 2 ^ 48 + 2 ^ 47 + 1024, len := 64, data := (hB [(63, 1), (50, 3), (24, 3)] (4 * 2 ^ 32) 0) }
def s165 : State := sr [] (fun d => (fun d => { (put (wsKey 0 0x400) (hB [(63, 1), (60, 1), (44, 2), (24, 3)] (4 * 2 ^ 32) 0)) d with areas := [ar0] }) (withP [{ pk (.dst 112 0) T_WR with sep := 112, addr := 3 * 2 ^ 48 + 2 ^ 47 + 1024, len := 8, data := (leBytes 8 0) }] [] d))
def q028 : Pkt := { pk (.dst 112 0) T_WR with sep := 112, addr := 3 * 2 ^ 48 + 2 ^ 47 + 1024, len := 8, data := (leBytes 8 0) }
def s166 : State := sr [] (fun d => (fun d => { (put (wsKey 0 0x400) (hB [(44, 2), (24, 3)] (4 * 2 ^ 32) 0)) d with idleAreas := [wsKey 0 0x400] }) (withP [{ pk (.dst 112 0) T_LWORD with sep := 112, part := 2, addr := 3 * 2 ^ 48 + 2 ^ 47 + 0x440 + 24, len := 24, data := lwb 1 5 }] [] d))
def s167 : State := sr [] (fun d => (fun d => { put (wsKey 0 0x458) (lwb 1 7) ((put (wsKey 0 0x400) (hB [(63, 1), (60, 1), (44, 2), (24, 3)] (4 * 2 ^ 32) 0)) d) with areas := [ar0] }) (withP [{ pk (.dst 112 0) T_LWORD with sep := 112, part := 2, addr := 3 * 2 ^ 48 + 2 ^ 47 + 0x440 + 24, len := 24, data := lwb 1 5 }] [] d))

theorem witness_WinderCommandsComplete :
    ((s159.dev.obeys = true ∧ s159.dev.area h001 = some a001 ∧ (s159.dev.hdr h001 61 60 = 1 ∨ s159.dev.hdr h001 61 60 = 2) ∧ s159.dev.hw h001 2 15 0 ≠ 0 ∧ a001.armedAt + 4000 * s159.dev.hw h001 2 15 0 ≤ s159.dev.gt) ∧
     (s160.dev.obeys = true ∧ s160.dev.area h001 = some a002 ∧ a002.sent = true ∧ s160.dev.hdr h001 61 60 = 2 ∧ s160.dev.net.xfers = [])) ∧
    ((s161.dev.obeys = true ∧ s161.dev.area h001 = some a003 ∧ a003.zeroing = true ∧ a003.heldPkts = []) ∧
     (s162.dev.obeys = true ∧ s162.dev.net.pkts[0]? = some q025 ∧ q025.loc = Loc.dst (112 + 0) 0 ∧ 0 < 56 ∧ q025.typ = T_LWORD ∧ k003 = wsKey 0 0 + q025.addr % 2 ^ 24 ∧ s162.dev.areaFor (wsKey 0 0) k003 = none)) ∧
    ((s163.dev.obeys = true ∧ s163.dev.net.pkts[0]? = some q026 ∧ q026.loc = Loc.dst (112 + 0) 0 ∧ 0 < 56 ∧ q026.typ = T_WR ∧ s163.dev.replies (112 + 0) q026 ∧ s163.dev.resolve q026.addr = Res.winder 0 (q026.addr % 2 ^ 24) ∧ h001 = wsKey 0 (q026.addr % 2 ^ 24) ∧ s163.dev.areas = [] ∧ armKeys (wsKey 0 0) h001 q026.data = [h001] ∧ s163.dev.mergesPoison h001 q026.data.length = false ∧ (s163.dev.store h001 q026.data q026.pois).headerGood h001 (h001 - wsKey 0 0) (12 * 2 ^ 20) = true) ∧
     (s164.dev.obeys = true ∧ s164.dev.net.pkts[0]? = some q027 ∧ q027.loc = Loc.dst (112 + 0) 0 ∧ 0 < 56 ∧ q027.typ = T_WR ∧ s164.dev.replies (112 + 0) q027 ∧ s164.dev.resolve q027.addr = Res.winder 0 (q027.addr % 2 ^ 24) ∧ h001 = wsKey 0 (q027.addr % 2 ^ 24) ∧ s164.dev.areas = [] ∧ armKeys (wsKey 0 0) h001 q027.data = [h001] ∧ s164.dev.mergesPoison h001 q027.data.length = false ∧ (s164.dev.store h001 q027.data q027.pois).headerGood h001 (h001 - wsKey 0 0) (12 * 2 ^ 20) = false)) ∧
    ((s165.dev.obeys = true ∧ s165.dev.net.pkts[0]? = some q028 ∧ q028.loc = Loc.dst (112 + 0) 0 ∧ 0 < 56 ∧ q028.typ = T_WR ∧ s165.dev.replies (112 + 0) q028 ∧ s165.dev.resolve q028.addr = Res.winder 0 (q028.addr % 2 ^ 24) ∧ h001 = wsKey 0 (q028.addr % 2 ^ 24) ∧ s165.dev.areas = [a001] ∧ a001.key = h001 ∧ disarms h001 h001 q028.data = true ∧ armKeys (wsKey 0 0) h001 q028.data = [] ∧ s165.dev.mergesPoison h001 q028.data.length = false) ∧
     (s166.dev.obeys = true ∧ s166.dev.net.pkts[0]? = some q025 ∧ q025.loc = Loc.dst (112 + 0) 0 ∧ 0 < 56 ∧ q025.typ = T_LWORD ∧ k003 = wsKey 0 0 + q025.addr % 2 ^ 24 ∧ s166.dev.areaFor (wsKey 0 0) k003 = some h001 ∧ s166.dev.area h001 = none ∧ s166.dev.hdr h001 61 60 = 0 ∧ q025.data.length = 24)) ∧
    (s167.dev.obeys = true ∧ s167.dev.net.pkts[0]? = some q025 ∧ q025.loc = Loc.dst (112 + 0) 0 ∧ 0 < 56 ∧ q025.typ = T_LWORD ∧ k003 = wsKey 0 0 + q025.addr % 2 ^ 24 ∧ s167.dev.areaFor (wsKey 0 0) k003 = some h001 ∧ s167.dev.areas = [a001] ∧ a001.key = h001 ∧ wsKey 0 0 ≤ h001 ∧ h001 + 64 ≤ k003 ∧ k003 < h001 + 64 + s167.dev.aNelem h001 * 24 ∧ (k003 - (h001 + 64)) % 24 = 0 ∧ a001.zeroing = false ∧ s167.dev.hdr h001 61 60 = 1 ∧ s167.dev.aKind h001 ≠ 2 ∧ s167.dev.hdr h001 47 44 = q025.part ∧ q025.data.length = 24 ∧ (LWord.ofBytes (s167.dev.bytes k003 24)).count ≠ 0 ∧ ((LWord.ofBytes (s167.dev.bytes k003 24)).combine (LWord.ofBytes q025.data)).kind.toNat = s167.dev.aKind h001 ∧ ((LWord.ofBytes (s167.dev.bytes k003 24)).combine (LWord.ofBytes q025.data)).mism = false ∧ ((LWord.ofBytes (s167.dev.bytes k003 24)).combine (LWord.ofBytes q025.data)).wrapped = false ∧ ((LWord.ofBytes (s167.dev.bytes k003 24)).combine (LWord.ofBytes q025.data)).count.toNat < s167.dev.hw h001 1 63 32 ∧ (∀ i < s167.dev.aNelem h001, (s167.dev.aElem h001 i).count.toNat < s167.dev.hw h001 1 63 32)) :=
  ⟨by decide +kernel,
   by decide +kernel,
   by decide +kernel,
   by decide +kernel,
   by decide +kernel⟩

/-! ### SkeinOperationsComplete -/

def s168 : State := sr [] (fun d => ((id) (own1 2 (sk1 { value := 10 } (withP [{ pk (.dst 0 0) T_SKOP with sep := 0, part := 2, addr := 0x100, len := 8, sub := SOP_ADD, data := leBytes 8 (5) }] [] d)))))
def q029 : Pkt := { pk (.dst 0 0) T_SKOP with sep := 0, part := 2, addr := 0x100, len := 8, sub := SOP_ADD, data := leBytes 8 (5) }
def x017 : Skein := { value := 10 }
def s169 : State := sr [] (fun d => ((id) (own1 2 (sk1 { value := 10 } (withP [{ pk (.dst 0 0) T_SKOP with sep := 0, part := 2, addr := 0x100, len := 8, sub := SOP_ACQ, data := leBytes 8 (5) }] [] d)))))
def q030 : Pkt := { pk (.dst 0 0) T_SKOP with sep := 0, part := 2, addr := 0x100, len := 8, sub := SOP_ACQ, data := leBytes 8 (5) }
def s170 : State := sr [] (fun d => ((id) (own1 2 (sk1 { value := 10 } (withP [{ pk (.dst 0 0) T_SKOP with sep := 0, part := 2, addr := 0x100, len := 8, sub := SOP_SET, data := leBytes 8 (5) }] [] d)))))
def q031 : Pkt := { pk (.dst 0 0) T_SKOP with sep := 0, part := 2, addr := 0x100, len := 8, sub := SOP_SET, data := leBytes 8 (5) }
def s171 : State := sr [] (fun d => ((id) (own1 3 (sk1 { value := 10 } (withP [{ pk (.dst 0 0) T_SKOP with sep := 0, part := 2, addr := 0x100, len := 8, sub := SOP_SET, data := leBytes 8 (5) }] [] d)))))
def s172 : State := sr [] (fun d => ((id) (own1 2 (sk1 { value := 10 } (withP [{ pk (.dst 0 0) T_SKOP with sep := 0, part := 2, addr := 0x100, len := 8, sub := SOP_READ, data := leBytes 8 (0) }] [] d)))))
def q032 : Pkt := { pk (.dst 0 0) T_SKOP with sep := 0, part := 2, addr := 0x100, len := 8, sub := SOP_READ, data := leBytes 8 (0) }
def s173 : State := sr [] (fun d => ((id) (own1 2 (sk1 { value := 10 } (withP [{ pk (.dst 0 0) T_SKOP with sep := 0, part := 2, addr := 0x100, len := 8, sub := SOP_WAIT, data := leBytes 8 (5) }] [] d)))))
def q033 : Pkt := { pk (.dst 0 0) T_SKOP with sep := 0, part := 2, addr := 0x100, len := 8, sub := SOP_WAIT, data := leBytes 8 (5) }
def s174 : State := sr [] (fun d => ((id) (own1 2 (sk1 { value := 10 } (withP [{ pk (.dst 0 0) T_SKOP with sep := 0, part := 2, addr := 0x100, len := 8, sub := SOP_ARRIVE, data := leBytes 8 (0) }] [] d)))))
def q034 : Pkt := { pk (.dst 0 0) T_SKOP with sep := 0, part := 2, addr := 0x100, len := 8, sub := SOP_ARRIVE, data := leBytes 8 (0) }
def s175 : State := sr [] (fun d => ((id) (own1 2 (sk1 { value := 10 } (withP [{ pk (.dst 0 0) T_SKOP with sep := 0, part := 2, addr := 0x100, len := 8, sub := SOP_ADD, data := leBytes 8 (2^32-20) }] [] d)))))
def q035 : Pkt := { pk (.dst 0 0) T_SKOP with sep := 0, part := 2, addr := 0x100, len := 8, sub := SOP_ADD, data := leBytes 8 (2^32-20) }
def s176 : State := sr [] (fun d => ((id) (own1 2 (sk1 { st := .broken, value := 10 } (withP [{ pk (.dst 0 0) T_SKOP with sep := 0, part := 2, addr := 0x100, len := 8, sub := SOP_ADD, data := leBytes 8 (5) }] [] d)))))
def x018 : Skein := { st := .broken, value := 10 }
def s177 : State := sr [] (fun d => ((fun d => withP d.net.pkts [xf 0 (.unit 7 4) T_SKOP 2 []] d) (own1 2 (sk1 { value := 10 } (withP [{ pk (.dst 0 0) T_SKOP with sep := 0, part := 2, addr := 0x100, len := 8, sub := SOP_WAIT, data := leBytes 8 (50) }] [] d)))))
def q036 : Pkt := { pk (.dst 0 0) T_SKOP with sep := 0, part := 2, addr := 0x100, len := 8, sub := SOP_WAIT, data := leBytes 8 (50) }
def s178 : State := sr [] (fun d => ((id) (own1 2 (sk1 { st := .barrier, value := 10, pm1 := 2, mask := 1 } (withP [{ pk (.dst 0 0) T_SKOP with sep := 0, part := 2, addr := 0x100, len := 8, sub := SOP_ADD, data := leBytes 8 (5) }] [] d)))))
def x019 : Skein := { st := .barrier, value := 10, pm1 := 2, mask := 1 }
def s179 : State := sr [] (fun d => ((id) (own1 2 (sk1 { st := .barrier, value := 10, pm1 := 2, mask := 1 } (withP [{ pk (.dst 0 0) T_SKOP with sep := 0, part := 2, addr := 0x100, len := 8, sub := SOP_ACQ, data := leBytes 8 (5) }] [] d)))))
def s180 : State := sr [] (fun d => ((id) (own1 2 (sk1 { st := .barrier, value := 10, pm1 := 2, mask := 1 } (withP [{ pk (.dst 0 0) T_SKOP with sep := 0, part := 2, addr := 0x100, len := 8, sub := SOP_ARRIVE, data := leBytes 8 (1) }] [] d)))))
def q037 : Pkt := { pk (.dst 0 0) T_SKOP with sep := 0, part := 2, addr := 0x100, len := 8, sub := SOP_ARRIVE, data := leBytes 8 (1) }
def s181 : State := sr [] (fun d => ((id) (own1 2 (sk1 { st := .barrier, value := 10, pm1 := 1, mask := 1 } (withP [{ pk (.dst 0 0) T_SKOP with sep := 0, part := 2, addr := 0x100, len := 8, sub := SOP_ARRIVE, data := leBytes 8 (1) }] [] d)))))
def x020 : Skein := { st := .barrier, value := 10, pm1 := 1, mask := 1 }
def s182 : State := sr [] (fun d => ((id) (own1 2 (sk1 { st := .barrier, value := 10, pm1 := 1, mask := 1, early := 1 } (withP [{ pk (.dst 0 0) T_SKOP with sep := 0, part := 2, addr := 0x100, len := 8, sub := SOP_ARRIVE, data := leBytes 8 (0) }] [] d)))))
def x021 : Skein := { st := .barrier, value := 10, pm1 := 1, mask := 1, early := 1 }

theorem witness_SkeinOperationsComplete :
    ((s168.dev.obeys = true ∧ s168.dev.net.pkts[0]? = some q029 ∧ q029.loc = Loc.dst 0 0 ∧ q029.typ = T_SKOP ∧ 256 = q029.addr % 2 ^ 32 ∧ skValid 256 = true ∧ skHome 256 = (0, 0) ∧ s168.dev.skein 256 = x017 ∧ s168.dev.skn.polled = [] ∧ s168.dev.skCut 256 q029 = false ∧ s168.dev.replies 0 q029 ∧ q029.sub = SOP_ADD ∧ x017.st = SkSt.live ∧ 0 ≤ ↑x017.value + sgn 32 (fld (BitVec.ofNat 64 (leNat q029.data)) 31 0) ∧ x017.waiters = []) ∧
     (s169.dev.obeys = true ∧ s169.dev.net.pkts[0]? = some q030 ∧ q030.loc = Loc.dst 0 0 ∧ q030.typ = T_SKOP ∧ 256 = q030.addr % 2 ^ 32 ∧ skValid 256 = true ∧ skHome 256 = (0, 0) ∧ s169.dev.skein 256 = x017 ∧ s169.dev.skn.polled = [] ∧ s169.dev.skCut 256 q030 = false ∧ s169.dev.replies 0 q030 ∧ q030.sub = SOP_ACQ ∧ x017.st = SkSt.live ∧ fld (BitVec.ofNat 64 (leNat q030.data)) 47 0 ≤ x017.value ∧ x017.waiters = [])) ∧
    ((s170.dev.obeys = true ∧ s170.dev.net.pkts[0]? = some q031 ∧ q031.loc = Loc.dst 0 0 ∧ q031.typ = T_SKOP ∧ 256 = q031.addr % 2 ^ 32 ∧ skValid 256 = true ∧ skHome 256 = (0, 0) ∧ s170.dev.skein 256 = x017 ∧ s170.dev.skn.polled = [] ∧ s170.dev.skCut 256 q031 = false ∧ s170.dev.replies 0 q031 ∧ q031.sub = SOP_SET ∧ (s170.dev.skOwner 256 = q031.part ∧ q031.part < 16) ∧ fld (BitVec.ofNat 64 (leNat q031.data)) 62 54 = 0 ∧ (bit (BitVec.ofNat 64 (leNat q031.data)) 63 = true ∨ fld (BitVec.ofNat 64 (leNat q031.data)) 53 48 = 0) ∧ x017.waiters = []) ∧
     (s171.dev.obeys = true ∧ s171.dev.net.pkts[0]? = some q031 ∧ q031.loc = Loc.dst 0 0 ∧ q031.typ = T_SKOP ∧ 256 = q031.addr % 2 ^ 32 ∧ skValid 256 = true ∧ skHome 256 = (0, 0) ∧ s171.dev.skein 256 = x017 ∧ s171.dev.skn.polled = [] ∧ s171.dev.skCut 256 q031 = false ∧ s171.dev.replies 0 q031 ∧ q031.sub = SOP_SET ∧ (¬(s171.dev.skOwner 256 = q031.part ∧ q031.part < 16)))) ∧
    ((s172.dev.obeys = true ∧ s172.dev.net.pkts[0]? = some q032 ∧ q032.loc = Loc.dst 0 0 ∧ q032.typ = T_SKOP ∧ 256 = q032.addr % 2 ^ 32 ∧ skValid 256 = true ∧ skHome 256 = (0, 0) ∧ s172.dev.skein 256 = x017 ∧ s172.dev.skn.polled = [] ∧ s172.dev.skCut 256 q032 = false ∧ s172.dev.replies 0 q032 ∧ q032.sub = SOP_READ) ∧
     (s173.dev.obeys = true ∧ s173.dev.net.pkts[0]? = some q033 ∧ q033.loc = Loc.dst 0 0 ∧ q033.typ = T_SKOP ∧ 256 = q033.addr % 2 ^ 32 ∧ skValid 256 = true ∧ skHome 256 = (0, 0) ∧ s173.dev.skein 256 = x017 ∧ s173.dev.skn.polled = [] ∧ s173.dev.skCut 256 q033 = false ∧ s173.dev.replies 0 q033 ∧ q033.sub = SOP_WAIT ∧ x017.st ≠ SkSt.broken ∧ fld (BitVec.ofNat 64 (leNat q033.data)) 47 0 ≤ x017.value)) ∧
    ((s174.dev.obeys = true ∧ s174.dev.net.pkts[0]? = some q034 ∧ q034.loc = Loc.dst 0 0 ∧ q034.typ = T_SKOP ∧ 256 = q034.addr % 2 ^ 32 ∧ skValid 256 = true ∧ skHome 256 = (0, 0) ∧ s174.dev.skein 256 = x017 ∧ s174.dev.skn.polled = [] ∧ s174.dev.skCut 256 q034 = false ∧ s174.dev.replies 0 q034 ∧ q034.sub = SOP_ARRIVE ∧ x017.st = SkSt.live) ∧
     (s175.dev.obeys = true ∧ s175.dev.net.pkts[0]? = some q035 ∧ q035.loc = Loc.dst 0 0 ∧ q035.typ = T_SKOP ∧ 256 = q035.addr % 2 ^ 32 ∧ skValid 256 = true ∧ skHome 256 = (0, 0) ∧ s175.dev.skein 256 = x017 ∧ s175.dev.skn.polled = [] ∧ s175.dev.skCut 256 q035 = false ∧ s175.dev.replies 0 q035 ∧ q035.sub = SOP_ADD ∧ x017.st = SkSt.live ∧ ↑x017.value + sgn 32 (fld (BitVec.ofNat 64 (leNat q035.data)) 31 0) < 0)) ∧
    ((s176.dev.obeys = true ∧ s176.dev.net.pkts[0]? = some q029 ∧ q029.loc = Loc.dst 0 0 ∧ q029.typ = T_SKOP ∧ 256 = q029.addr % 2 ^ 32 ∧ skValid 256 = true ∧ skHome 256 = (0, 0) ∧ s176.dev.skein 256 = x018 ∧ s176.dev.skn.polled = [] ∧ s176.dev.skCut 256 q029 = false ∧ s176.dev.replies 0 q029 ∧ q029.sub = SOP_ADD ∧ x018.st = SkSt.broken) ∧
     (s177.dev.obeys = true ∧ s177.dev.net.pkts[0]? = some q036 ∧ q036.loc = Loc.dst 0 0 ∧ q036.typ = T_SKOP ∧ 256 = q036.addr % 2 ^ 32 ∧ skValid 256 = true ∧ skHome 256 = (0, 0) ∧ s177.dev.skein 256 = x017 ∧ s177.dev.skn.polled = [] ∧ s177.dev.skCut 256 q036 = false ∧ s177.dev.replies 0 q036 ∧ q036.sub = SOP_WAIT ∧ x017.st ≠ SkSt.broken ∧ x017.value < fld (BitVec.ofNat 64 (leNat q036.data)) 47 0 ∧ s177.dev.flowLive q036 = true ∧ s177.dev.skRoom 256 = true)) ∧
    ((s178.dev.obeys = true ∧ s178.dev.net.pkts[0]? = some q029 ∧ q029.loc = Loc.dst 0 0 ∧ q029.typ = T_SKOP ∧ 256 = q029.addr % 2 ^ 32 ∧ skValid 256 = true ∧ skHome 256 = (0, 0) ∧ s178.dev.skein 256 = x019 ∧ s178.dev.skn.polled = [] ∧ s178.dev.skCut 256 q029 = false ∧ s178.dev.replies 0 q029 ∧ q029.sub = SOP_ADD ∧ x019.st = SkSt.barrier) ∧
     (s179.dev.obeys = true ∧ s179.dev.net.pkts[0]? = some q030 ∧ q030.loc = Loc.dst 0 0 ∧ q030.typ = T_SKOP ∧ 256 = q030.addr % 2 ^ 32 ∧ skValid 256 = true ∧ skHome 256 = (0, 0) ∧ s179.dev.skein 256 = x019 ∧ s179.dev.skn.polled = [] ∧ s179.dev.skCut 256 q030 = false ∧ s179.dev.replies 0 q030 ∧ q030.sub = SOP_ACQ ∧ x019.st = SkSt.barrier)) ∧
    ((s180.dev.obeys = true ∧ s180.dev.net.pkts[0]? = some q037 ∧ q037.loc = Loc.dst 0 0 ∧ q037.typ = T_SKOP ∧ 256 = q037.addr % 2 ^ 32 ∧ skValid 256 = true ∧ skHome 256 = (0, 0) ∧ s180.dev.skein 256 = x019 ∧ s180.dev.skn.polled = [] ∧ s180.dev.skCut 256 q037 = false ∧ s180.dev.replies 0 q037 ∧ q037.sub = SOP_ARRIVE ∧ x019.st = SkSt.barrier ∧ fld (BitVec.ofNat 64 (leNat q037.data)) 5 0 ≤ x019.pm1 ∧ bit x019.mask (fld (BitVec.ofNat 64 (leNat q037.data)) 5 0) = false ∧ (¬(x019.mask ||| BitVec.ofNat 64 (2 ^ fld (BitVec.ofNat 64 (leNat q037.data)) 5 0)).toNat % 2 ^ (x019.pm1 + 1) = 2 ^ (x019.pm1 + 1) - 1)) ∧
     (s181.dev.obeys = true ∧ s181.dev.net.pkts[0]? = some q037 ∧ q037.loc = Loc.dst 0 0 ∧ q037.typ = T_SKOP ∧ 256 = q037.addr % 2 ^ 32 ∧ skValid 256 = true ∧ skHome 256 = (0, 0) ∧ s181.dev.skein 256 = x020 ∧ s181.dev.skn.polled = [] ∧ s181.dev.skCut 256 q037 = false ∧ s181.dev.replies 0 q037 ∧ q037.sub = SOP_ARRIVE ∧ x020.st = SkSt.barrier ∧ fld (BitVec.ofNat 64 (leNat q037.data)) 5 0 ≤ x020.pm1 ∧ bit x020.mask (fld (BitVec.ofNat 64 (leNat q037.data)) 5 0) = false ∧ (x020.mask ||| BitVec.ofNat 64 (2 ^ fld (BitVec.ofNat 64 (leNat q037.data)) 5 0)).toNat % 2 ^ (x020.pm1 + 1) = 2 ^ (x020.pm1 + 1) - 1 ∧ x020.early = 0 ∧ x020.waiters = [])) ∧
    (s182.dev.obeys = true ∧ s182.dev.net.pkts[0]? = some q034 ∧ q034.loc = Loc.dst 0 0 ∧ q034.typ = T_SKOP ∧ 256 = q034.addr % 2 ^ 32 ∧ skValid 256 = true ∧ skHome 256 = (0, 0) ∧ s182.dev.skein 256 = x021 ∧ s182.dev.skn.polled = [] ∧ s182.dev.skCut 256 q034 = false ∧ s182.dev.replies 0 q034 ∧ q034.sub = SOP_ARRIVE ∧ x021.st = SkSt.barrier ∧ fld (BitVec.ofNat 64 (leNat q034.data)) 5 0 ≤ x021.pm1 ∧ bit x021.mask (fld (BitVec.ofNat 64 (leNat q034.data)) 5 0) = true ∧ bit x021.early (fld (BitVec.ofNat 64 (leNat q034.data)) 5 0) = true) :=
  ⟨by decide +kernel,
   by decide +kernel,
   by decide +kernel,
   by decide +kernel,
   by decide +kernel,
   by decide +kernel,
   by decide +kernel,
   by decide +kernel⟩

/-! ### SkeinServiceCommandsComplete -/

def s183 : State := cs [(7, { on := true, park := some 0, seq := { st := .wait } })] [(0x558, 100)] (fun d => { d with gt := 400000 })
def x022 : Skein := {}
def v001 : Word := 5
def s184 : State := cs [(7, {})] [] (id)
def v007 : Word := 0
def s185 : State := cs [(7, {})] [] (fun d => sk1 { waiters := [⟨0, 20, 2, 4, 0, 3, 0, some 5, false⟩, ⟨0, 20, 2, 0, 0, 3, 0, some 5, false⟩, ⟨2, 20, 2, 4, 0, 3, 0, some 5, false⟩], value := 3 } d)
def s186 : State := cs [(7, {})] [] (fun d => sk1 { value := 10, waiters := [⟨0, 20, 2, 0, 0, 3, 0, some 5, false⟩] } { d with gt := 10 })
def x023 : Skein := { value := 10, waiters := [⟨0, 20, 2, 0, 0, 3, 0, some 5, false⟩] }
def w065 : Waiter := ⟨0, 20, 2, 0, 0, 3, 0, some 5, false⟩
def s187 : State := cs [(7, { on := true, units := [{ vu 7 0x10 4 0 .net with fin := false }] })] [mapped 7 5 2] (fun d => { d with skn := { d.skn with polled := [⟨7, 4, 64, 0, none, false⟩] }, gt := 10 })
def y002 : Polled := ⟨7, 4, 64, 0, none, false⟩
def u011 : UCmd := { vu 7 0x10 4 0 .net with fin := false }
def s188 : State := cs [(7, { on := true, units := [{ vu 7 0x10 4 0 .net with fin := false }] })] [mapped 7 5 2] (fun d => { d with skn := { d.skn with polled := [⟨7, 4, 1, 0, some 5, false⟩] }, gt := 10 })
def y003 : Polled := ⟨7, 4, 1, 0, some 5, false⟩

theorem witness_SkeinServiceCommandsComplete :
    (s183.dev.obeys = true ∧ s183.dev.skein 256 = x022 ∧ 1 < 2 ∧ 63 < 64 ∧ 2 < Config.endpoints ∧ 7 < Config.clusters ∧ s183.dev.owner 0 ∧ 256 < 2 ^ 32 ∧ s183.dev.skReach 256 = ST_OK ∧ fld v001 62 54 = 0 ∧ (bit v001 63 = true ∨ fld v001 53 48 = 0) ∧ x022.waiters = [] ∧ s183.dev.skn.sk = [] ∧ s183.dev.skn.base = [] ∧ fld v001 47 0 > 0 ∧ (s183.dev.cl 7).park = some 0 ∧ s183.dev.f pgWHL WHL_SKNCTL_LENDUS ≠ 0 ∧ (s183.dev.cl 7).gatedAt = none ∧ (s183.dev.cl 7).unitsIdle = true ∧ (s183.dev.cl 7).seq.st = SeqSt.wait ∧ 0 + 4000 * s183.dev.f pgWHL WHL_SKNCTL_LENDUS ≤ s183.dev.gt) ∧
    (s184.dev.obeys = true ∧ s184.dev.skein 256 = x022 ∧ 1 < 2 ∧ 63 < 64 ∧ 2 < Config.endpoints ∧ 7 < Config.clusters ∧ s184.dev.owner 0 ∧ 256 < 2 ^ 32 ∧ s184.dev.skReach 256 = ST_OK ∧ s184.dev.skn.sk = [] ∧ s184.dev.skn.base = [] ∧ fld v007 47 0 = 0) ∧
    (s185.dev.obeys = true ∧ s185.dev.skein 512 = x022 ∧ 1 < 2 ∧ 63 < 64 ∧ 4 < Config.endpoints ∧ 7 < Config.clusters ∧ s185.dev.present 4 = false ∧ s185.dev.skn.base = [] ∧ List.Pairwise (fun x1 x2 => x1 < x2) (List.map (fun x => x.1) s185.dev.skn.sk)) ∧
    (s186.dev.obeys = true ∧ s186.dev.skein 256 = x023 ∧ 1 < 2 ∧ 63 < 64 ∧ 2 < Config.endpoints ∧ 7 < Config.clusters ∧ x023.waiters[0]? = some w065 ∧ w065.det = false ∧ w065.kind < 2 ∧ (∃ t, w065.due = some t ∧ t ≤ s186.dev.gt) ∧ s186.dev.replies (skHome 256).1 (s186.dev.waiterPkt w065)) ∧
    (s187.dev.obeys = true ∧ s187.dev.skein 256 = x022 ∧ 1 < 2 ∧ 63 < 64 ∧ 2 < Config.endpoints ∧ 7 < Config.clusters ∧ s187.dev.skn.polled[0]? = some y002 ∧ y002.frozen = false ∧ s187.dev.net.xfers = [] ∧ s187.dev.unit y002.p y002.id = some u011 ∧ y002.due = none ∧ y002.nextAt ≤ s187.dev.gt ∧ s187.dev.shadowing y002.p = false) ∧
    (s188.dev.obeys = true ∧ s188.dev.skein 256 = x022 ∧ 1 < 2 ∧ 63 < 64 ∧ 2 < Config.endpoints ∧ 7 < Config.clusters ∧ s188.dev.skn.polled[0]? = some y003 ∧ y003.frozen = false ∧ s188.dev.net.xfers = [] ∧ s188.dev.unit y003.p y003.id = some u011 ∧ (∃ t, y003.due = some t ∧ t ≤ s188.dev.gt)) :=
  ⟨by decide +kernel,
   by decide +kernel,
   by decide +kernel,
   by decide +kernel,
   by decide +kernel,
   by decide +kernel⟩

/-! ### WorkerMessagesComplete -/

def s189 : State := ms id
def v011 : Word := msgWord 3 3 (1)
def s190 : State := ms ((id) ∘ enr 0 0)
def v013 : Word := msgWord 9 3 (7)
def v014 : Word := msgWord 10 3 (0)
def s191 : State := ms ((id) ∘ enr 55 0)
def s192 : State := ms ((id) ∘ enr 0 4095)
def v015 : Word := msgWord 8 3 (7)
def v016 : Word := msgWord 11 3 (99)
def v017 : Word := msgWord 8 3 (2 ^ 44 + 2)
def v018 : Word := msgWord 6 3 (2 * 2 ^ 44 + 3)
def s193 : State := ms ((pst5 P_RUN ∘ cur5 8) ∘ enr 0 4095)
def v019 : Word := msgWord 1 3 (8)
def v020 : Word := msgWord 4 3 (8)
def s194 : State := ms ((pst5 P_DONE ∘ cur5 8) ∘ enr 0 4095)
def v021 : Word := msgWord 3 3 (8)
def s195 : State := ms ((reg [mapped 7 1023 15]) ∘ enr 0 4095)
def v022 : Word := msgWord 6 3 (7)
def s196 : State := ms ((fun d => reg [(0x550, 2 ^ 40)] (G (fun g => { g with job := some (.drain 2) }) d)) ∘ enr 0 4095)
def v023 : Word := msgWord 7 3 (0)
def v024 : Word := msgWord 7 3 (5 * 2 ^ 16 + 15)
def s198 : State := ms ((fun d => { cur5 8 (sf (pgPART 5) PART_CMT_LASTCMT 8 0 (reg [mapped 7 5 5] (gen [(5, 7)] [(0x405940, 2 ^ 5)] d))) with clu := [(7, { on := true, seq := { st := .idle } })] }) ∘ enr 0 4095)
def v025 : Word := msgWord 1 3 (9)
def v026 : Word := msgWord 7 3 (5 * 2 ^ 16 + 7)

theorem s198_starts : s198.dev.startRule 5 (fld v025 47 0) false = ST_OK := by
  rw [Dev.startRule, lone_members (by unfold Lone; decide +kernel) (by decide +kernel), lcsOf_five (by decide +kernel)]
  decide +kernel
theorem s198_entries : ∀ x ∈ s198.dev.streams 5, 16 * s198.dev.entryOf x < STORE_END ∧ 16 * (s198.dev.cl x).seq.pc < STORE_END := by
  have h : Lone s198.dev := by unfold Lone; decide +kernel
  have h7 : s198.dev.partOf 7 = 5 ∧ s198.dev.pstate 7 = PS_MAPPED := by decide +kernel
  rw [Dev.streams, Dev.mapped, lone_members h h7, (lone_shadows h h7.2 5).1]; decide +kernel
/-- Partition 5 is enrolled; logical cluster 5 is placed nowhere and cluster 15 is SPARE. -/
def sSwap : State := ms (reg [(0x100F080, 15 * 2 ^ 24 + 1023 * 2 ^ 12 + PS_SPARE)] ∘ enr 0 0xFFF)
theorem sSwap_good : sSwap.dev.genErr (sSwap.dev.curGen.swapIn (fld v024 47 0 / 2 ^ 16 % 1024) 15) true = 0 := by
  have h : ∀ a ∈ genRegs, a ∉ sSwap.dev.regs.map (·.1) := by decide +kernel
  have hc : sSwap.dev.curGen = bare := by rw [Dev.curGen, stagedWords_nil _ h]; rfl
  rw [hc, show fld v024 47 0 / 2 ^ 16 % 1024 = 5 by decide +kernel]
  have hm : (bare.swapIn 5 15).map = [(5, 15)] := by
    rw [map_near (k := 1) (w := BitVec.ofNat 64 ((2 ^ 15 + 7 * 256 + 1) * 2 ^ 16)) (t := (bare.swapIn 5 15).tbl.tail) (by decide +kernel)
      (by decide +kernel)]
    decide +kernel
  refine genErr_bare (by decide +kernel) ?_ ?_ (by decide +kernel) (by decide +kernel) ?_
  · rw [Dev.testBusy, hm]; decide +kernel
  · rw [Dev.mapOk, hm]; decide +kernel
  · rw [hm]; decide +kernel

theorem witness_WorkerMessagesComplete :
    ((s189.dev.obeys = true ∧ BitVec.toNat v007 < 4096 ∧ 5 < Config.partitions ∧ fld v011 63 56 = 3 ∧ s189.dev.enrolled (BitVec.toNat v007) (fld v011 55 52) false = []) ∧
     (s190.dev.obeys = true ∧ BitVec.toNat v007 < 4096 ∧ 5 < Config.partitions ∧ s190.dev.enrolled (BitVec.toNat v007) (fld v013 55 52) true = [5] ∧ fld v013 63 56 = 9 ∧ s190.dev.mst (fld v013 55 52) ≠ 3 ∧ s190.dev.f (pgTUB 0) TUB_JOBp_MGR 5 = BitVec.toNat v007)) ∧
    ((s190.dev.obeys = true ∧ BitVec.toNat v007 < 4096 ∧ 5 < Config.partitions ∧ s190.dev.enrolled (BitVec.toNat v007) (fld v014 55 52) true = [5] ∧ fld v014 63 56 = 10 ∧ s190.dev.f (pgTUB 0) TUB_JOBp_MGR 5 = BitVec.toNat v007) ∧
     (s191.dev.obeys = true ∧ BitVec.toNat v007 < 4096 ∧ 5 < Config.partitions ∧ s191.dev.enrolled (BitVec.toNat v007) (fld v014 55 52) true = [5] ∧ fld v014 63 56 = 10 ∧ s191.dev.f (pgTUB 0) TUB_JOBp_MGR 5 ≠ BitVec.toNat v007)) ∧
    ((s192.dev.obeys = true ∧ BitVec.toNat v007 < 4096 ∧ 5 < Config.partitions ∧ s192.dev.enrolled (BitVec.toNat v007) (fld v015 55 52) false = [5] ∧ s192.dev.f (pgPART 5) PART_SPL_ROLE = 0 ∧ fld v015 63 56 = 8 ∧ fld v015 47 0 / 2 ^ 44 % 16 = 0 ∧ fld v015 47 0 % 2 ^ 32 < Config.clusters ∧ (s192.dev.score U_CLUSTER (fld v015 47 0 % 2 ^ 32)).prob = false) ∧
     (s192.dev.obeys = true ∧ BitVec.toNat v007 < 4096 ∧ 5 < Config.partitions ∧ s192.dev.enrolled (BitVec.toNat v007) (fld v016 55 52) false = [5] ∧ s192.dev.f (pgPART 5) PART_SPL_ROLE = 0 ∧ fld v016 63 56 = 11)) ∧
    ((s192.dev.obeys = true ∧ BitVec.toNat v007 < 4096 ∧ 5 < Config.partitions ∧ s192.dev.enrolled (BitVec.toNat v007) (fld v017 55 52) false = [5] ∧ s192.dev.f (pgPART 5) PART_SPL_ROLE = 0 ∧ fld v017 63 56 = 8 ∧ fld v017 47 0 / 2 ^ 44 % 16 = 1 ∧ fld v017 47 0 % 2 ^ 32 < Config.computeDies) ∧
     (s192.dev.obeys = true ∧ BitVec.toNat v007 < 4096 ∧ 5 < Config.partitions ∧ s192.dev.enrolled (BitVec.toNat v007) (fld v018 55 52) false = [5] ∧ s192.dev.f (pgPART 5) PART_SPL_ROLE = 0 ∧ fld v018 63 56 = 6 ∧ fld v018 47 0 / 2 ^ 44 % 16 = 2 ∧ fld v018 47 0 % 2 ^ 32 < Config.dabinLinks ∧ s192.dev.isRetired U_LINK (fld v018 47 0 % 2 ^ 32) = false)) ∧
    ((s193.dev.obeys = true ∧ BitVec.toNat v007 < 4096 ∧ 5 < Config.partitions ∧ s193.dev.enrolled (BitVec.toNat v007) (fld v019 55 52) false = [5] ∧ s193.dev.f (pgPART 5) PART_SPL_ROLE = 0 ∧ fld v019 63 56 = 1 ∧ s193.dev.pst 5 = P_RUN ∧ s193.dev.stepOf 5 = fld v019 47 0) ∧
     (s193.dev.obeys = true ∧ BitVec.toNat v007 < 4096 ∧ 5 < Config.partitions ∧ s193.dev.enrolled (BitVec.toNat v007) (fld v020 55 52) false = [5] ∧ s193.dev.f (pgPART 5) PART_SPL_ROLE = 0 ∧ fld v020 63 56 = 4 ∧ (s193.dev.pst 5 = P_RUN ∨ s193.dev.pst 5 = P_DONE) ∧ s193.dev.stepOf 5 = fld v020 47 0)) ∧
    ((s194.dev.obeys = true ∧ BitVec.toNat v007 < 4096 ∧ 5 < Config.partitions ∧ s194.dev.enrolled (BitVec.toNat v007) (fld v021 55 52) false = [5] ∧ s194.dev.f (pgPART 5) PART_SPL_ROLE = 0 ∧ fld v021 63 56 = 3 ∧ s194.dev.pst 5 = P_DONE ∧ s194.dev.stepOf 5 = fld v021 47 0 ∧ s194.dev.fb (pgPART 5) PART_PLYSTAT_ABORTREQ = false ∧ fld v021 47 0 ≠ s194.dev.f (pgPART 5) PART_CMT_LASTCMT) ∧
     (s195.dev.obeys = true ∧ BitVec.toNat v007 < 4096 ∧ 5 < Config.partitions ∧ s195.dev.enrolled (BitVec.toNat v007) (fld v022 55 52) false = [5] ∧ s195.dev.f (pgPART 5) PART_SPL_ROLE = 0 ∧ fld v022 63 56 = 6 ∧ fld v022 47 0 / 2 ^ 44 % 16 = 0 ∧ fld v022 47 0 % 2 ^ 32 < Config.clusters ∧ s195.dev.partOf (fld v022 47 0 % 2 ^ 32) = 15 ∧ s195.dev.lcOf (fld v022 47 0 % 2 ^ 32) = 1023 ∧ s195.dev.areas = [])) ∧
    (s196.dev.obeys = true ∧ BitVec.toNat v007 < 4096 ∧ 5 < Config.partitions ∧ s196.dev.enrolled (BitVec.toNat v007) (fld v023 55 52) false = [5] ∧ s196.dev.f (pgPART 5) PART_SPL_ROLE = 0 ∧ fld v023 63 56 = 7 ∧ s196.dev.genBusy = true) ∧
    (sSwap.dev.genErr (sSwap.dev.curGen.swapIn (fld v024 47 0 / 2 ^ 16 % 1024) 15) true = 0 ∧ (sSwap.dev.obeys = true ∧ BitVec.toNat v007 < 4096 ∧ 5 < Config.partitions ∧ sSwap.dev.enrolled (BitVec.toNat v007) (fld v024 55 52) false = [5] ∧ sSwap.dev.f (pgPART 5) PART_SPL_ROLE = 0 ∧ fld v024 63 56 = 7 ∧ sSwap.dev.genBusy = false ∧ 15 = fld v024 47 0 % 1024 ∧ 15 ≠ 1023 ∧ sSwap.dev.lcPhys (fld v024 47 0 / 2 ^ 16 % 1024) ≠ some 15 ∧ (∀ x ∈ sSwap.dev.slub.sc, x.2.prob = false))) ∧
    (s198.dev.startRule 5 (fld v025 47 0) false = ST_OK ∧ (∀ x ∈ s198.dev.streams 5, 16 * s198.dev.entryOf x < STORE_END ∧ 16 * (s198.dev.cl x).seq.pc < STORE_END) ∧ (s198.dev.obeys = true ∧ BitVec.toNat v007 < 4096 ∧ 5 < Config.partitions ∧ s198.dev.enrolled (BitVec.toNat v007) (fld v025 55 52) false = [5] ∧ s198.dev.f (pgPART 5) PART_SPL_ROLE = 0 ∧ fld v025 63 56 = 1 ∧ s198.dev.pst 5 = P_IDLE)) ∧
    (s198.dev.obeys = true ∧ BitVec.toNat v007 < 4096 ∧ 5 < Config.partitions ∧ s198.dev.enrolled (BitVec.toNat v007) (fld v026 55 52) false = [5] ∧ s198.dev.f (pgPART 5) PART_SPL_ROLE = 0 ∧ fld v026 63 56 = 7 ∧ s198.dev.genBusy = false ∧ 7 = fld v026 47 0 % 1024 ∧ 7 ≠ 1023 ∧ s198.dev.lcPhys (fld v026 47 0 / 2 ^ 16 % 1024) = some 7) :=
  ⟨by decide +kernel,
   by decide +kernel,
   by decide +kernel,
   by decide +kernel,
   by decide +kernel,
   by decide +kernel,
   by decide +kernel,
   ⟨sSwap_good, by decide +kernel⟩,
   ⟨s198_starts, s198_entries, by decide +kernel⟩,
   by decide +kernel⟩

/-! ### ManagerMessagesComplete -/

def s199 : State := ms ((id) ∘ mst3 0 ∘ mg3 {} ∘ rost [2 ^ 63 + 2 * 2 ^ 32])
def v027 : Word := msgWord 2 3 (1)
def v028 : Word := msgWord 14 3 (1)
def s200 : State := ms ((id) ∘ mst3 1 ∘ mg3 { phase := .start } ∘ rost [2 ^ 63 + 2 * 2 ^ 32])
def v029 : Word := msgWord 2 3 (7)
def s201 : State := ms ((fun d => { d with gt := 50 }) ∘ mst3 3 ∘ mg3 {} ∘ rost [2 ^ 63 + 2 * 2 ^ 32])
def v030 : Word := msgWord 9 3 (10)
def s202 : State := ms ((id) ∘ mst3 1 ∘ mg3 { phase := .start, left := [0] } ∘ rost [2 ^ 63 + 2 * 2 ^ 32])
def s203 : State := ms ((id) ∘ mst3 1 ∘ mg3 { phase := .start } ∘ rost [2 ^ 63 + 2 * 2 ^ 32, 2 ^ 63 + 4 * 2 ^ 48 + 5])
def s204 : State := ms ((id) ∘ mst3 1 ∘ mg3 { phase := .start, awaited := [5] } ∘ rost [2 ^ 63 + 2 * 2 ^ 32])
def v031 : Word := msgWord 13 3 (5 * 2 ^ 12)
def s205 : State := ms ((id) ∘ mst3 1 ∘ mg3 { phase := .commit, left := [0, 1] } ∘ rost [2 ^ 63 + 2 * 2 ^ 32, 2 ^ 63 + 4 * 2 ^ 48 + 5])
def v032 : Word := msgWord 14 3 (3)
def v033 : Word := msgWord 5 3 (0)
def v012 : Word := 9
def s206 : State := ms ((fun d => { d with fab := { d.fab with seen := [(0, 9, (msgWord 5 3 0).toNat, 0)] } }) ∘ mst3 1 ∘ mg3 { phase := .start } ∘ rost [2 ^ 63 + 2 * 2 ^ 32, 2 ^ 63 + 4 * 2 ^ 48 + 5])

theorem witness_ManagerMessagesComplete :
    ((s199.dev.obeys = true ∧ BitVec.toNat v007 < 4096 ∧ s199.dev.splicedTo (BitVec.toNat v007) (fld v027 55 52) = [] ∧ s199.dev.mst (fld v027 55 52) = 0 ∧ fld v027 63 56 = 2) ∧
     (s199.dev.obeys = true ∧ BitVec.toNat v007 < 4096 ∧ s199.dev.splicedTo (BitVec.toNat v007) (fld v028 55 52) = [] ∧ s199.dev.mst (fld v028 55 52) = 0 ∧ fld v028 63 56 = 14)) ∧
    ((s200.dev.obeys = true ∧ BitVec.toNat v007 < 4096 ∧ s200.dev.splicedTo (BitVec.toNat v007) (fld v027 55 52) = [] ∧ s200.dev.mst (fld v027 55 52) = 1 ∧ fld v027 63 56 = 2 ∧ fld v027 47 0 = s200.dev.mstep (fld v027 55 52) + 1 ∧ 0 ∈ s200.dev.workers (fld v027 55 52) ∧ s200.dev.rosterPanel (fld v027 55 52) 0 = some (BitVec.toNat v007) ∧ 0 ∉ (s200.dev.mg (fld v027 55 52)).done ∧ (∀ x ∈ s200.dev.workers (fld v027 55 52), s200.dev.rosterPanel (fld v027 55 52) x = some (BitVec.toNat v007) → x = 0) ∧ (∀ x ∈ s200.dev.workers (fld v027 55 52), x ∈ (s200.dev.mg (fld v027 55 52)).done ∨ x = 0) ∧ (s200.dev.mg (fld v027 55 52)).phase = MgrPh.start) ∧
     (s200.dev.obeys = true ∧ BitVec.toNat v007 < 4096 ∧ s200.dev.splicedTo (BitVec.toNat v007) (fld v029 55 52) = [] ∧ s200.dev.mst (fld v029 55 52) = 1 ∧ fld v029 63 56 = 2 ∧ fld v029 47 0 ≠ s200.dev.mstep (fld v029 55 52) + 1)) ∧
    ((s201.dev.obeys = true ∧ BitVec.toNat v007 < 4096 ∧ fld v030 63 56 = 9 ∧ s201.dev.mst (fld v030 55 52) = 3 ∧ s201.dev.enrolled (BitVec.toNat v007) (fld v030 55 52) true = []) ∧
     (s202.dev.obeys = true ∧ BitVec.toNat v007 < 4096 ∧ s202.dev.splicedTo (BitVec.toNat v007) (fld v028 55 52) = [] ∧ s202.dev.mst (fld v028 55 52) = 1 ∧ fld v028 63 56 = 14 ∧ fld v028 47 0 % 256 = 1 ∧ (s202.dev.mg (fld v028 55 52)).phase = MgrPh.start)) ∧
    ((s203.dev.obeys = true ∧ BitVec.toNat v007 < 4096 ∧ s203.dev.splicedTo (BitVec.toNat v007) (fld v027 55 52) = [] ∧ s203.dev.mst (fld v027 55 52) = 1 ∧ fld v027 63 56 = 2 ∧ fld v027 47 0 = s203.dev.mstep (fld v027 55 52) + 1 ∧ 0 ∈ s203.dev.workers (fld v027 55 52) ∧ s203.dev.rosterPanel (fld v027 55 52) 0 = some (BitVec.toNat v007) ∧ 0 ∉ (s203.dev.mg (fld v027 55 52)).done ∧ (∀ x ∈ s203.dev.workers (fld v027 55 52), s203.dev.rosterPanel (fld v027 55 52) x = some (BitVec.toNat v007) → x = 0) ∧ (∃ x ∈ s203.dev.workers (fld v027 55 52), x ∉ (s203.dev.mg (fld v027 55 52)).done ∧ x ≠ 0)) ∧
     (s204.dev.obeys = true ∧ BitVec.toNat v007 < 4096 ∧ s204.dev.splicedTo (BitVec.toNat v007) (fld v031 55 52) = [] ∧ s204.dev.mst (fld v031 55 52) = 1 ∧ fld v031 63 56 = 13 ∧ BitVec.toNat v007 = s204.dev.f (pgTUB 0) TUB_DOMAIN_LEAD ∧ (s204.dev.mg (fld v031 55 52)).phase ≠ MgrPh.repair)) ∧
    ((s205.dev.obeys = true ∧ BitVec.toNat v007 < 4096 ∧ s205.dev.splicedTo (BitVec.toNat v007) (fld v032 55 52) = [] ∧ s205.dev.mst (fld v032 55 52) = 1 ∧ fld v032 63 56 = 14 ∧ fld v032 47 0 % 256 = 3 ∧ (s205.dev.mg (fld v032 55 52)).phase = MgrPh.commit ∧ dropFirst (fun x => decide (s205.dev.rosterPanel (fld v032 55 52) x = some (BitVec.toNat v007))) (s205.dev.mg (fld v032 55 52)).left ≠ []) ∧
     (s203.dev.obeys = true ∧ BitVec.toNat v007 < 4096 ∧ s203.dev.splicedTo (BitVec.toNat v007) (fld v033 55 52) = [] ∧ s203.dev.mst (fld v033 55 52) = 1 ∧ fld v033 63 56 = 5 ∧ fld v033 47 0 = 0 ∧ 0 ∈ s203.dev.workers (fld v033 55 52) ∧ s203.dev.rosterPanel (fld v033 55 52) 0 = some (BitVec.toNat v007) ∧ (∀ x ∈ s203.dev.workers (fld v033 55 52), s203.dev.rosterPanel (fld v033 55 52) x = some (BitVec.toNat v007) → x = 0) ∧ (s203.dev.mg (fld v033 55 52)).phase = MgrPh.start ∧ (s203.dev.mg (fld v033 55 52)).replays < s203.dev.mgrMax (fld v033 55 52) ∧ (s203.dev.fresh v007 v033 v012).isSome = true)) ∧
    (s206.dev.obeys = true ∧ BitVec.toNat v007 < 4096 ∧ s206.dev.splicedTo (BitVec.toNat v007) (fld v033 55 52) = [] ∧ s206.dev.mst (fld v033 55 52) = 1 ∧ fld v033 63 56 = 5 ∧ fld v033 47 0 = 0 ∧ 0 ∈ s206.dev.workers (fld v033 55 52) ∧ s206.dev.rosterPanel (fld v033 55 52) 0 = some (BitVec.toNat v007) ∧ (∀ x ∈ s206.dev.workers (fld v033 55 52), s206.dev.rosterPanel (fld v033 55 52) x = some (BitVec.toNat v007) → x = 0) ∧ (s206.dev.mg (fld v033 55 52)).phase = MgrPh.start ∧ (s206.dev.mg (fld v033 55 52)).replays < s206.dev.mgrMax (fld v033 55 52) ∧ s206.dev.fresh v007 v033 v012 = none) :=
  ⟨by decide +kernel,
   by decide +kernel,
   by decide +kernel,
   by decide +kernel,
   by decide +kernel,
   by decide +kernel⟩

/-! ### LeadMessagesComplete -/

def s207 : State := ms (id)
def v034 : Word := msgWord 34 3 (1)
def v035 : Word := msgWord 34 3 (0)
def v036 : Word := msgWord 12 3 (0)
def v037 : Word := msgWord 33 3 (77)
def v038 : Word := msgWord 12 3 (5 * 2 ^ 12 + 3)
def v039 : Word := msgWord 33 3 (2 ^ 47 + 5 * 2 ^ 32 + 77)
def s208 : State := ms (sf (pgTUB 0) TUB_DOMAIN_LEAD 4 0)
def v040 : Word := 4
def v041 : Word := msgWord 35 3 (0)
def s209 : State := ms (sf (pgTUB 0) TUB_CTL_AUTOFIX 0 0)
def v042 : Word := msgWord 32 3 (2 ^ 15 + 3 * 2 ^ 12 + 5)
def s210 : State := ms (fun d => { d with fab := { d.fab with sweepLeft := [0, 3], sweep := 2 } })
def v043 : Word := msgWord 36 3 (0)
def s211 : State := ms (fun d => { d with fab := { d.fab with seen := [(0, 9, (msgWord 36 3 (0)).toNat, 0)] } })
def s212 : State := ms (fun d => sf (pgTUB 0) TUB_FEPOCH_STATE 2 0 { d with fab := { d.fab with sweepLeft := [0], sweep := 2 } })
def s213 : State := ms (sf (pgTUB 0) TUB_DOMAIN_LEAD 4 0 ∘ (fun d => { d with fab := { d.fab with seen := [(4, 9, (msgWord 35 3 (2)).toNat, 0)] } }))
def v044 : Word := msgWord 35 3 (2)
def s214 : State := ms (fun d => { d with fab := { d.fab with seen := [(0, 9, (msgWord 32 3 (2 ^ 15 + 3 * 2 ^ 12 + 5)).toNat, 0)] } })

theorem witness_LeadMessagesComplete :
    ((s207.dev.obeys = true ∧ BitVec.toNat v007 < 4096 ∧ BitVec.toNat v007 = s207.dev.f (pgTUB 0) TUB_DOMAIN_LEAD ∧ fld v034 63 56 = 34 ∧ fld v034 47 0 % 2 ≠ s207.dev.fepoch) ∧
     (s207.dev.obeys = true ∧ BitVec.toNat v007 < 4096 ∧ BitVec.toNat v007 = s207.dev.f (pgTUB 0) TUB_DOMAIN_LEAD ∧ fld v035 63 56 = 34 ∧ fld v035 47 0 % 2 = s207.dev.fepoch)) ∧
    ((s207.dev.obeys = true ∧ BitVec.toNat v007 < 4096 ∧ fld v036 63 56 = 12 ∧ fld v036 47 0 / 2 ^ 12 % 4096 = 0) ∧
     (s207.dev.obeys = true ∧ BitVec.toNat v007 < 4096 ∧ BitVec.toNat v007 = s207.dev.f (pgTUB 0) TUB_DOMAIN_LEAD ∧ fld v037 63 56 = 33 ∧ fld v037 47 0 / 2 ^ 47 % 2 = s207.dev.fepoch ∧ fld v037 47 0 / 2 ^ 32 % 1024 < fabWords (fld v037 47 0 / 2 ^ 44 % 4))) ∧
    ((s207.dev.obeys = true ∧ BitVec.toNat v007 < 4096 ∧ s207.dev.isLead = true ∧ s207.dev.inDomain (BitVec.toNat v007) = true ∧ fld v038 63 56 = 12 ∧ fld v038 47 0 / 2 ^ 12 % 4096 ≠ 0 ∧ { src := BitVec.toNat v007, job := fld v038 55 52, l := fld v038 47 0 / 2 ^ 12 % 4096, q := fld v038 47 0 % 4096 } ∉ s207.dev.fab.remaps ∧ { src := BitVec.toNat v007, job := fld v038 55 52, l := fld v038 47 0 / 2 ^ 12 % 4096, q := fld v038 47 0 % 4096 } ∉ s207.dev.fab.serving ∧ s207.dev.fab.prepared = false) ∧
     (s207.dev.obeys = true ∧ BitVec.toNat v007 < 4096 ∧ BitVec.toNat v007 = s207.dev.f (pgTUB 0) TUB_DOMAIN_LEAD ∧ fld v039 63 56 = 33 ∧ fld v039 47 0 / 2 ^ 47 % 2 ≠ s207.dev.fepoch ∧ s207.dev.f (pgTUB 0) TUB_FEPOCH_STATE = 0 ∧ fld v039 47 0 / 2 ^ 32 % 1024 < fabWords (fld v039 47 0 / 2 ^ 44 % 4))) ∧
    ((s208.dev.obeys = true ∧ BitVec.toNat v040 < 4096 ∧ BitVec.toNat v040 = s208.dev.f (pgTUB 0) TUB_DOMAIN_LEAD ∧ fld v041 63 56 = 35 ∧ (s208.dev.fresh v040 v041 v012).isSome = true ∧ (∀ q ∈ s208.dev.net.pkts, q.loc = Loc.dst s208.dev.wdEp 0 → q.inFab = false)) ∧
     (s209.dev.obeys = true ∧ BitVec.toNat v007 < 4096 ∧ s209.dev.isLead = true ∧ s209.dev.inDomain (BitVec.toNat v007) = true ∧ fld v042 63 56 = 32 ∧ (s209.dev.fresh v007 v042 v012).isSome = true)) ∧
    ((s210.dev.obeys = true ∧ BitVec.toNat v007 < 4096 ∧ s210.dev.isLead = true ∧ s210.dev.inDomain (BitVec.toNat v007) = true ∧ fld v043 63 56 = 36 ∧ (s210.dev.fresh v007 v043 v012).isSome = true ∧ BitVec.toNat v007 ∈ s210.dev.fab.sweepLeft ∧ List.filter (fun x => decide (x ≠ BitVec.toNat v007)) s210.dev.fab.sweepLeft ≠ []) ∧
     (s211.dev.obeys = true ∧ BitVec.toNat v007 < 4096 ∧ s211.dev.isLead = true ∧ s211.dev.inDomain (BitVec.toNat v007) = true ∧ fld v043 63 56 = 36 ∧ (¬(s211.dev.fresh v007 v043 v012).isSome = true))) ∧
    ((s212.dev.obeys = true ∧ BitVec.toNat v007 < 4096 ∧ s212.dev.isLead = true ∧ s212.dev.inDomain (BitVec.toNat v007) = true ∧ fld v043 63 56 = 36 ∧ (s212.dev.fresh v007 v043 v012).isSome = true ∧ BitVec.toNat v007 ∈ s212.dev.fab.sweepLeft ∧ List.filter (fun x => decide (x ≠ BitVec.toNat v007)) s212.dev.fab.sweepLeft = [] ∧ s212.dev.f (pgTUB 0) TUB_FEPOCH_STATE = 2 ∧ s212.dev.fab.sweep = 2 ∧ (s212.dev.fab.dirty || decide (fld v043 47 0 % 2 ^ 32 ≠ 0) || decide (s212.dev.fab.sweep = 2) && decide (fld v043 47 0 / 2 ^ 32 % 2 = 1)) = false ∧ s212.dev.fab.again = false) ∧
     (s213.dev.obeys = true ∧ BitVec.toNat v040 < 4096 ∧ BitVec.toNat v040 = s213.dev.f (pgTUB 0) TUB_DOMAIN_LEAD ∧ fld v044 63 56 = 35 ∧ (¬(s213.dev.fresh v040 v044 v012).isSome = true))) ∧
    (s214.dev.obeys = true ∧ BitVec.toNat v007 < 4096 ∧ s214.dev.isLead = true ∧ s214.dev.inDomain (BitVec.toNat v007) = true ∧ fld v042 63 56 = 32 ∧ (¬(s214.dev.fresh v007 v042 v012).isSome = true)) :=
  ⟨by decide +kernel,
   by decide +kernel,
   by decide +kernel,
   by decide +kernel,
   by decide +kernel,
   by decide +kernel,
   by decide +kernel⟩

/-! ### ManagerSlotCommandsComplete -/

def s215 : State := ms (fun d => { sf (pgTUB 0) TUB_CTL_FTMO 2 0 d with gt := 900000, fab := { d.fab with out := [⟨4, 77, msgWord 1 3 5, 2, 0, true⟩, ⟨5, 77, 0, 0, 0, false⟩] } })
def m001 : Msg := ⟨4, 77, msgWord 1 3 5, 2, 0, true⟩
def s216 : State := ms (fun d => { mst3 1 (sf (pgTUB 67) TUB_MGR_CTL_BEATMS 2 0 (sf (pgTUB 67) TUB_MGR_CTL_STBY 9 0 (rost [2 ^ 63 + 2 * 2 ^ 32, 2 ^ 63 + 4 * 2 ^ 48 + 5] d))) with gt := 9000000 })
def s217 : State := ms (enr 5 0)
def s218 : State := ms (mst3 1 ∘ mg3 { phase := .commit })
def s219 : State := ms (fun d => { mst3 3 (sf (pgTUB 67) TUB_MGR_CTL_BEATMS 2 0 (sf (pgTUB 67) TUB_MGR_CTL_LOSTN 1 0 (rost [0] d))) with gt := 9000000 })
def s220 : State := ms (fun d => { sf (pgTUB 0) TUB_CTL_FTMO 2 0 d with gt := 900000, fab := { d.fab with out := [⟨4, 77, msgWord 14 3 5, 3, 0, false⟩, ⟨5, 77, 0, 0, 0, false⟩] } })
def m003 : Msg := ⟨4, 77, msgWord 14 3 5, 3, 0, false⟩

theorem witness_ManagerSlotCommandsComplete :
    (s215.dev.obeys = true ∧ 3 < Config.managerSlots ∧ s215.dev.fab.out[0]? = some m001 ∧ (m001.bad = true ∨ m001.sentAt + 400000 * s215.dev.f (pgTUB 0) TUB_CTL_FTMO ≤ s215.dev.gt) ∧ m001.tries < 3 ∧ s215.dev.owner 0 ∧ (s215.dev.mst 3 = 0 ∨ s215.dev.mst 3 = 5) ∧ (¬(s215.dev.f (pgTUB (64 + 3)) TUB_MGR_CTL_STBY = s215.dev.self ∨ ∃ j < Config.partitions, s215.dev.fb (pgTUB 0) TUB_JOBp_EN j = true ∧ s215.dev.f (pgTUB 0) TUB_JOBp_JSLOT j = 3 ∧ s215.dev.f (pgTUB 0) TUB_JOBp_STBY j = s215.dev.self ∧ s215.dev.f (pgTUB 0) TUB_JOBp_MGR j ≠ s215.dev.self))) ∧
    (s216.dev.obeys = true ∧ 3 < Config.managerSlots ∧ s216.dev.owner 0 ∧ s216.dev.mst 3 = 1 ∧ (s216.dev.mg 3).phase = MgrPh.rest ∧ (s216.dev.mg 3).moves = [] ∧ (s216.dev.mst 3 = 1 ∨ s216.dev.mst 3 = 2) ∧ (s216.dev.mg 3).beatAt + s216.dev.beatPeriod 3 ≤ s216.dev.gt) ∧
    (s217.dev.obeys = true ∧ 3 < Config.managerSlots ∧ s217.dev.owner 0 ∧ (s217.dev.mst 3 = 0 ∨ s217.dev.mst 3 = 5) ∧ (s217.dev.f (pgTUB (64 + 3)) TUB_MGR_CTL_STBY = s217.dev.self ∨ ∃ j < Config.partitions, s217.dev.fb (pgTUB 0) TUB_JOBp_EN j = true ∧ s217.dev.f (pgTUB 0) TUB_JOBp_JSLOT j = 3 ∧ s217.dev.f (pgTUB 0) TUB_JOBp_STBY j = s217.dev.self ∧ s217.dev.f (pgTUB 0) TUB_JOBp_MGR j ≠ s217.dev.self)) ∧
    (s218.dev.obeys = true ∧ 3 < Config.managerSlots ∧ s218.dev.owner 0 ∧ s218.dev.mst 3 = 1 ∧ (s218.dev.mg 3).phase ≠ MgrPh.rest) ∧
    (s219.dev.obeys = true ∧ 3 < Config.managerSlots ∧ s219.dev.mst 3 = 3 ∧ (s219.dev.mg 3).beatAt + s219.dev.f (pgTUB (64 + 3)) TUB_MGR_CTL_LOSTN * s219.dev.beatPeriod 3 ≤ s219.dev.gt) ∧
    (s220.dev.obeys = true ∧ 3 < Config.managerSlots ∧ s220.dev.fab.out[0]? = some m003 ∧ (m003.bad = true ∨ m003.sentAt + 400000 * s220.dev.f (pgTUB 0) TUB_CTL_FTMO ≤ s220.dev.gt) ∧ m003.tries = 3 ∧ fld m003.w0 63 56 = 14) :=
  ⟨by decide +kernel,
   by decide +kernel,
   by decide +kernel,
   by decide +kernel,
   by decide +kernel,
   by decide +kernel⟩

/-! ### StepCommandsComplete -/

def s221 : State := ms ((cur5 8) ∘ (fun d => { reg [mapped 7 5 5] (gen [(5, 7)] [(0x405940, 2 ^ 5)] d) with clu := [(7, { on := true })] }))
def s222 : State := ms ((pst5 P_RUN) ∘ (fun d => { reg [mapped 7 5 5] (gen [(5, 7)] [(0x405940, 2 ^ 5)] d) with clu := [(7, { on := true, sdig := 5 })] }))
def s223 : State := ms ((sf (pgPART 5) PART_RPL_SKRST 0 0 ∘ cur5 8 ∘ sf (pgPART 5) PART_CMT_LASTCMT 8 0) ∘ (fun d => { reg [mapped 7 5 5] (gen [(5, 7)] [(0x405940, 2 ^ 5)] d) with clu := [(7, { on := true })] }))
def s224 : State := ms ((pst5 P_RUN ∘ sf (pgPART 5) PART_STEP_SUSPD 1 0) ∘ (fun d => { reg [mapped 7 5 5] (gen [(5, 7)] [(0x405940, 2 ^ 5)] d) with clu := [(7, { on := true, seq := { st := .suspended, resume := .wait, pc := 5 } })] }))

theorem step_lone : Lone s221.dev ∧ Lone s222.dev ∧ Lone s223.dev ∧ Lone s224.dev := by
  unfold Lone; decide +kernel
theorem step_seven : (∀ d ∈ [s221.dev, s222.dev, s223.dev, s224.dev], d.partOf 7 = 5 ∧ d.pstate 7 = PS_MAPPED) := by decide +kernel
theorem step_members : s221.dev.members 5 = [7] ∧ s222.dev.members 5 = [7] ∧ s223.dev.members 5 = [7] :=
  ⟨lone_members step_lone.1 (step_seven _ (by simp)), lone_members step_lone.2.1 (step_seven _ (by simp)),
   lone_members step_lone.2.2.1 (step_seven _ (by simp))⟩
theorem s221_over : s221.dev.stepOver 5 = false := by rw [Dev.stepOver, Dev.mapped, step_members.1]; decide +kernel
theorem s222_over : s222.dev.stepOver 5 = true := by rw [Dev.stepOver, Dev.mapped, step_members.2.1]; decide +kernel
theorem s223_starts : s223.dev.startRule 5 9 true = ST_OK := by
  rw [Dev.startRule, step_members.2.2, lcsOf_five (by decide +kernel)]; decide +kernel
theorem s223_entries : ∀ x ∈ s223.dev.streams 5, 16 * s223.dev.entryOf x < STORE_END ∧ 16 * (s223.dev.cl x).seq.pc < STORE_END := by
  rw [Dev.streams, Dev.mapped, step_members.2.2, (lone_shadows step_lone.2.2.1 (step_seven _ (by simp)).2 5).1]; decide +kernel
theorem s224_running : ∀ (x n : Nat), n < 4 → ((s224.dev.cl x).eng n).st ≠ DftSt.suspended := by
  have h : ∀ n < 4, ((s224.dev.cl 7).eng n).st ≠ DftSt.suspended ∧ (({} : Clu).eng n).st ≠ DftSt.suspended := by decide +kernel
  have hk : s224.dev.clu.map (·.1) = [7] := by decide +kernel
  intro x n hn
  by_cases hx : x = 7
  · rw [hx]; exact (h n hn).1
  · rw [Dev.cl, get_of_unlisted _ _ _ (by rw [hk]; simpa using hx)]; exact (h n hn).2

theorem witness_StepCommandsComplete :
    (s221.dev.followers 5 = [] ∧ s221.dev.stepOver 5 = false ∧ (s221.dev.obeys = true ∧ 5 < Config.partitions ∧ 2 < 2 ^ 48 ∧ s221.dev.f (pgPART 5) PART_SPL_ROLE = 0 ∧ s221.dev.owner 0 ∧ s221.dev.startRule 5 2 true ≠ ST_OK ∧ (s221.dev.pst 5 ≠ P_RUN ∨ s221.dev.fb (pgPART 5) PART_STEP_SUSPD = true) ∧ s221.dev.fb (pgPART 5) PART_STEP_SUSPD = false)) ∧
    (s222.dev.followers 5 = [] ∧ s222.dev.stepOver 5 = true ∧ (s222.dev.obeys = true ∧ 5 < Config.partitions ∧ 9 < 2 ^ 48 ∧ s222.dev.f (pgPART 5) PART_SPL_ROLE = 0 ∧ s222.dev.owner 0 ∧ s222.dev.pst 5 = P_RUN ∧ s222.dev.fb (pgPART 5) PART_STEP_SUSPD = false ∧ (s222.dev.pt 5).phase = Phase.none ∧ s222.dev.fb (pgTUB 0) TUB_JOBp_EN 5 = false)) ∧
    (s223.dev.followers 5 = [] ∧ s223.dev.startRule 5 9 true = ST_OK ∧ s223.dev.copyShadows 5 = [] ∧ (∀ x ∈ s223.dev.streams 5, 16 * s223.dev.entryOf x < STORE_END ∧ 16 * (s223.dev.cl x).seq.pc < STORE_END) ∧ (s223.dev.obeys = true ∧ 5 < Config.partitions ∧ 9 < 2 ^ 48 ∧ s223.dev.f (pgPART 5) PART_SPL_ROLE = 0 ∧ s223.dev.owner 0 ∧ s223.dev.pst 5 = P_IDLE ∧ s223.dev.fb (pgPART 5) PART_RPL_SKRST = false ∧ bit (s223.dev.reg (pgPART 5 + 2048)) 63 = false)) ∧
    (s224.dev.followers 5 = [] ∧ (∀ (x n : Nat), n < 4 → ((s224.dev.cl x).eng n).st ≠ DftSt.suspended) ∧ (s224.dev.obeys = true ∧ 5 < Config.partitions ∧ 9 < 2 ^ 48 ∧ s224.dev.f (pgPART 5) PART_SPL_ROLE = 0 ∧ s224.dev.owner 0 ∧ s224.dev.fb (pgPART 5) PART_STEP_SUSPD = true ∧ (s224.dev.pt 5).phase = Phase.none ∧ s224.dev.skn.sk = [])) :=
  ⟨⟨(lone_shadows step_lone.1 (step_seven _ (by simp)).2 5).1, s221_over, by decide +kernel⟩,
   ⟨(lone_shadows step_lone.2.1 (step_seven _ (by simp)).2 5).1, s222_over, by decide +kernel⟩,
   ⟨(lone_shadows step_lone.2.2.1 (step_seven _ (by simp)).2 5).1, s223_starts, (lone_shadows step_lone.2.2.1 (step_seven _ (by simp)).2 5).2, s223_entries, by decide +kernel⟩,
   ⟨(lone_shadows step_lone.2.2.2 (step_seven _ (by simp)).2 5).1, s224_running, by decide +kernel⟩⟩

/-! ### StepOutcomeCommandsComplete -/

def s225 : State := ms (pst5 P_RUN ∘ (fun d => { d with parts := [(5, { phase := .seed })] }))
def s226 : State := ms (pst5 P_IDLE)
def s227 : State := ms (pst5 P_ABORTED)
def s228 : State := ms (pst5 P_DONE ∘ cur5 9)
def s229 : State := ms (pst5 P_ABORTED ∘ sf (pgPART 5) PART_CMT_DEGR 1 0)
def s230 : State := ms (pst5 P_RESTORING ∘ (fun d => { d with parts := [(5, { phase := .hostRestore })] }))
def s231 : State := ms (pst5 P_ABORTING ∘ enr 0 0 ∘ (fun d => { d with parts := [(5, { phase := .abort })] }))
def s232 : State := ms (pst5 P_ABORTING ∘ sf (pgPART 5) PART_RPL_AUTOSWAP 0 0 ∘ (fun d => { d with parts := [(5, { phase := .abort })] }))
def s233 : State := ms (pst5 P_ABORTING ∘ enr 0 0 ∘ sf (pgPART 5) PART_CMTST_RPLN 9 0 ∘ (fun d => { d with parts := [(5, { phase := .abort })] }))

theorem witness_StepOutcomeCommandsComplete :
    ((s225.dev.obeys = true ∧ 5 < Config.partitions ∧ 0 < 16 ∧ s225.dev.f (pgPART 5) PART_SPL_ROLE = 0 ∧ s225.dev.owner 0 ∧ s225.dev.pst 5 ≠ P_DONE ∧ (s225.dev.pst 5 = P_RUN ∨ s225.dev.pst 5 = P_DONE) ∧ s225.dev.areas = [] ∧ s225.dev.pst 5 ≠ P_ABORTED ∧ s225.dev.pst 5 = P_RUN ∧ (s225.dev.pt 5).phase = Phase.seed ∧ (0 = ST_OK ∨ 0 = ST_POISONED) ∧ (s225.dev.seedAll 5).1 = true ∧ (∀ x ∈ s225.dev.streams 5, 16 * s225.dev.entryOf x < STORE_END ∧ 16 * (s225.dev.cl x).seq.pc < STORE_END)) ∧
     (s226.dev.obeys = true ∧ 5 < Config.partitions ∧ 0 < 16 ∧ s226.dev.f (pgPART 5) PART_SPL_ROLE = 0 ∧ s226.dev.owner 0 ∧ s226.dev.pst 5 = P_IDLE)) ∧
    ((s227.dev.obeys = true ∧ 5 < Config.partitions ∧ 0 < 16 ∧ s227.dev.f (pgPART 5) PART_SPL_ROLE = 0 ∧ s227.dev.owner 0 ∧ s227.dev.pst 5 = P_ABORTED ∧ s227.dev.fb (pgPART 5) PART_CMT_DEGR = false) ∧
     (s228.dev.obeys = true ∧ 5 < Config.partitions ∧ 0 < 16 ∧ s228.dev.f (pgPART 5) PART_SPL_ROLE = 0 ∧ s228.dev.owner 0 ∧ s228.dev.pst 5 = P_DONE ∧ s228.dev.fb (pgPART 5) PART_PLYSTAT_ABORTREQ = false)) ∧
    ((s229.dev.obeys = true ∧ 5 < Config.partitions ∧ 0 < 16 ∧ s229.dev.f (pgPART 5) PART_SPL_ROLE = 0 ∧ s229.dev.owner 0 ∧ s229.dev.pst 5 = P_ABORTED ∧ s229.dev.fb (pgPART 5) PART_CMT_DEGR = true ∧ s229.dev.fb (pgTUB 0) TUB_JOBp_EN 5 = false) ∧
     (s225.dev.obeys = true ∧ 5 < Config.partitions ∧ 6 < 16 ∧ s225.dev.f (pgPART 5) PART_SPL_ROLE = 0 ∧ s225.dev.pst 5 = P_RUN ∧ (s225.dev.pt 5).phase = Phase.seed ∧ 6 = ST_ABSENT ∧ s225.dev.fb (pgTUB 0) TUB_JOBp_EN 5 = false)) ∧
    ((s230.dev.obeys = true ∧ 5 < Config.partitions ∧ 0 < 16 ∧ s230.dev.f (pgPART 5) PART_SPL_ROLE = 0 ∧ (s230.dev.pt 5).phase = Phase.hostRestore ∧ 0 = ST_OK ∧ (∀ h ∈ s230.dev.restoreHalves 5, ∀ i < h.2 / 64, (s230.dev.lineAtAddr ((h.1 + 64 * i) % 2 ^ 52)).isSome = true)) ∧
     (s230.dev.obeys = true ∧ 5 < Config.partitions ∧ 6 < 16 ∧ s230.dev.f (pgPART 5) PART_SPL_ROLE = 0 ∧ (s230.dev.pt 5).phase = Phase.hostRestore ∧ 6 = ST_ABSENT ∧ s230.dev.fb (pgTUB 0) TUB_JOBp_EN 5 = false)) ∧
    ((s231.dev.obeys = true ∧ 5 < Config.partitions ∧ 0 < 16 ∧ s231.dev.f (pgPART 5) PART_SPL_ROLE = 0 ∧ s231.dev.pst 5 = P_ABORTING ∧ (s231.dev.pt 5).phase = Phase.abort ∧ s231.dev.partXfers 5 = false ∧ s231.dev.fb (pgTUB 0) TUB_JOBp_EN 5 = true ∧ sat 4 (s231.dev.f (pgPART 5) PART_CMTST_RPLN + 1) < max 1 (s231.dev.f (pgPART 5) PART_RPL_MAXRPL)) ∧
     (s232.dev.obeys = true ∧ 5 < Config.partitions ∧ 0 < 16 ∧ s232.dev.f (pgPART 5) PART_SPL_ROLE = 0 ∧ s232.dev.pst 5 = P_ABORTING ∧ (s232.dev.pt 5).phase = Phase.abort ∧ s232.dev.partXfers 5 = false ∧ s232.dev.fb (pgTUB 0) TUB_JOBp_EN 5 = false ∧ s232.dev.fb (pgPART 5) PART_RPL_AUTOSWAP = false ∧ s232.dev.genBusy = false)) ∧
    (s233.dev.obeys = true ∧ 5 < Config.partitions ∧ 0 < 16 ∧ s233.dev.f (pgPART 5) PART_SPL_ROLE = 0 ∧ s233.dev.pst 5 = P_ABORTING ∧ (s233.dev.pt 5).phase = Phase.abort ∧ s233.dev.partXfers 5 = false ∧ s233.dev.fb (pgTUB 0) TUB_JOBp_EN 5 = true ∧ max 1 (s233.dev.f (pgPART 5) PART_RPL_MAXRPL) ≤ sat 4 (s233.dev.f (pgPART 5) PART_CMTST_RPLN + 1)) :=
  ⟨by decide +kernel,
   by decide +kernel,
   by decide +kernel,
   by decide +kernel,
   by decide +kernel,
   by decide +kernel⟩

/-! ### PartitionTableCommandsComplete -/

def s234 : State := ms (fun d => { sf (pgPART 5) PART_SPL_ROLE 2 0 (sf (pgPART 5) PART_SPL_STATE 1 0 (sf (pgPART 5) PART_SPL_NEED 1 0 (sf (pgPART 5) PART_SPLREC_ADDR (2 ^ 42) 0 (cur5 9 (pst5 P_DONE d))))) with mem := memWrite [] (t2Key 0 0) (leBytes 8 9 ++ leBytes 8 0 ++ leBytes 16 77), parts := [(5, { digs := [(9, 77)] })] })
def v045 : Word := 2^63 + 60
def s235 : State := ms (sf (pgPART 5) PART_SPR_BASEi_BASE 0x100 3)
def v046 : Word := 2^63 + 16
def s236 : State := ms (sf (pgPART 5) PART_SPR_CTLi_VALID 1 3 ∘ sf (pgPART 5) PART_SPR_CTLi_HLOG2 16 3 ∘ sf (pgPART 5) PART_MIRi_DST_LPANEL 1 3 ∘ sf (pgPART 5) PART_MIRi_DST_DBASE 0x100 3 ∘ fun d => { d with fab := { d.fab with tbl := [(0, BitVec.ofNat 64 ((2^15+5)*2^16))] } })
def v047 : Word := 2^63
def s237 : State := ms (fun d => { sf (pgPART 5) PART_SPL_ROLE 2 0 (sf (pgPART 5) PART_SPL_STATE 1 0 (sf (pgPART 5) PART_SPL_NEED 1 0 (sf (pgPART 5) PART_SPLREC_ADDR (2 ^ 42) 0 (cur5 9 (pst5 P_DONE d))))) with mem := memWrite [] (t2Key 0 0) (leBytes 8 9 ++ leBytes 8 0 ++ leBytes 16 77), parts := [(5, { digs := [(9, 78)] })] })

theorem witness_PartitionTableCommandsComplete :
    (s234.dev.obeys = true ∧ 5 < Config.partitions ∧ 0 < 16 ∧ s234.dev.owner 0 ∧ s234.dev.f pgWHL WHL_GENCTL_STATE = 0 ∧ bit v007 63 = false ∧ (bit v007 63 = false ∨ 2 ≤ fld v007 55 48 ∧ fld v007 55 48 ≤ 64 ∧ fld v007 24 3 * 8 ≤ 25165816) ∧ s234.dev.f (pgPART 5) PART_SPL_ROLE = 2 ∧ (s234.dev.f (pgPART 5) PART_SPL_STATE = 1 ∨ s234.dev.f (pgPART 5) PART_SPL_STATE = 2) ∧ s234.dev.resolve (s234.dev.f (pgPART 5) PART_SPLREC_ADDR * 64) = Res.t2 0 0 ∧ s234.dev.splMatch 5 (leNat (List.take 8 (s234.dev.bytes (t2Key 0 0) 32))) = some (9, x005) ∧ leNat (List.drop 16 (s234.dev.bytes (t2Key 0 0) 32)) = x005.toNat) ∧
    (s207.dev.obeys = true ∧ 5 < Config.partitions ∧ 3 < 16 ∧ s207.dev.owner 0 ∧ s207.dev.f pgWHL WHL_GENCTL_STATE = 0 ∧ bit v045 63 = true ∧ (s207.dev.setReg (pgPART 5 + 1032 + 16 * 3) (setFld (setFld (s207.dev.reg (pgPART 5 + 1032 + 16 * 3)) 63 63 1) 5 0 (fld v045 5 0))).sprGood 5 3 = false ∧ (s207.dev.setReg (pgPART 5 + 1800 + 16 * 3) (setFld (s207.dev.reg (pgPART 5 + 1800 + 16 * 3)) 63 63 1)).mirGood 5 3 = false ∧ (¬(2 ≤ fld v045 55 48 ∧ fld v045 55 48 ≤ 64 ∧ fld v045 24 3 * 8 ≤ 25165816))) ∧
    (s235.dev.obeys = true ∧ 5 < Config.partitions ∧ 3 < 16 ∧ s235.dev.owner 0 ∧ s235.dev.f pgWHL WHL_GENCTL_STATE = 0 ∧ bit v046 63 = true ∧ (s235.dev.setReg (pgPART 5 + 1032 + 16 * 3) (setFld (setFld (s235.dev.reg (pgPART 5 + 1032 + 16 * 3)) 63 63 1) 5 0 (fld v046 5 0))).sprGood 5 3 = true) ∧
    (s236.dev.obeys = true ∧ 5 < Config.partitions ∧ 3 < 16 ∧ s236.dev.owner 0 ∧ s236.dev.f pgWHL WHL_GENCTL_STATE = 0 ∧ bit v047 63 = true ∧ (s236.dev.setReg (pgPART 5 + 1800 + 16 * 3) (setFld (s236.dev.reg (pgPART 5 + 1800 + 16 * 3)) 63 63 1)).mirGood 5 3 = true) ∧
    (s237.dev.obeys = true ∧ 5 < Config.partitions ∧ 0 < 16 ∧ s237.dev.f (pgPART 5) PART_SPL_ROLE = 2 ∧ (s237.dev.f (pgPART 5) PART_SPL_STATE = 1 ∨ s237.dev.f (pgPART 5) PART_SPL_STATE = 2) ∧ s237.dev.resolve (s237.dev.f (pgPART 5) PART_SPLREC_ADDR * 64) = Res.t2 0 0 ∧ s237.dev.splMatch 5 (leNat (List.take 8 (s237.dev.bytes (t2Key 0 0) 32))) = some (9, x006) ∧ leNat (List.drop 16 (s237.dev.bytes (t2Key 0 0) 32)) ≠ x006.toNat) :=
  ⟨by decide +kernel,
   by decide +kernel,
   by decide +kernel,
   by decide +kernel,
   by decide +kernel⟩

/-! ### ScoreCommandsComplete -/

def s238 : State := ms (sf pgWHL WHL_SLUBCTL_HLH 0 0)
def v049 : Word := 2^60 + 5*2^32
def v050 : Word := 0x0001000200030004
def s239 : State := ms (sf pgWHL WHL_SLUBSEL_INDEX 1000 0)
def s240 : State := ms (sf pgWHL WHL_SLUBSEL_KIND 2 0 ∘ sf pgWHL WHL_SLUBSEL_INDEX 5 0)
def v051 : Word := 7
def s241 : State := ms (sf pgWHL WHL_SLUBCTL_HLH 5 0 ∘ fun d => { d with slub := { d.slub with sc := [(slubKey 2 5, { s := 1000000 })] } })
def x025 : Score := { s := 1000000 }

theorem witness_ScoreCommandsComplete :
    (s238.dev.obeys = true ∧ 5 < 2 ^ 40 ∧ s238.dev.f pgWHL WHL_SLUBCTL_HLH = 0 ∧ (∀ y ∈ s238.dev.slub.sc, y.2.prob = false) ∧ s238.dev.owner 0 ∧ fld v007 39 32 < 21 ∧ 0 = 0 ∧ s238.dev.slub.sc = [] ∧ s238.dev.slub.msgProb = [] ∧ ({ s238.dev with regs := (s238.dev.setReg (pgWHL + 928) v007).regs } : Dev).thrOrder = false) ∧
    (s207.dev.obeys = true ∧ 5 < 2 ^ 40 ∧ s207.dev.owner 0 ∧ 2 = 2 ∧ s207.dev.thrOrder = true ∧ s207.dev.slub.sc = [] ∧ s207.dev.slub.msgProb = []) ∧
    (s207.dev.obeys = true ∧ 5 < 2 ^ 40 ∧ s207.dev.owner 0 ∧ 3 = 3 ∧ s207.dev.thrOrder = true ∧ s207.dev.slub.sc = [] ∧ s207.dev.slub.msgProb = []) ∧
    (s207.dev.obeys = true ∧ 5 < 2 ^ 40 ∧ s207.dev.owner 0 ∧ 1 = 1 ∧ s207.dev.f pgWHL WHL_SLUBTHR0_M4 < fld v049 63 48 ∧ s207.dev.thrOrder = true ∧ s207.dev.slub.sc = [] ∧ s207.dev.slub.msgProb = []) ∧
    (s207.dev.obeys = true ∧ 5 < 2 ^ 40 ∧ s207.dev.owner 0 ∧ 0 = 0 ∧ s207.dev.slub.sc = [] ∧ s207.dev.slub.msgProb = [] ∧ ({ s207.dev with regs := (s207.dev.setReg (pgWHL + 928) v050).regs } : Dev).thrOrder = true) ∧
    (s239.dev.obeys = true ∧ 0 < 2 ^ 40 ∧ s239.dev.owner 0 ∧ s239.dev.slubSel = none) ∧
    (s240.dev.obeys = true ∧ 5 < 2 ^ 40 ∧ s240.dev.owner 0 ∧ s240.dev.slubSel = some (2, 5) ∧ 1 ≤ 2 ∧ 2 < 8 ∧ (s240.dev.score 2 5).ret = false ∧ (s240.dev.score 2 5).prob = false ∧ fld v051 31 0 < s240.dev.retireThr 2 * 65536) ∧
    (s241.dev.obeys = true ∧ 5 < 2 ^ 40 ∧ s241.dev.slub.sc = [(slubKey 2 5, x025)] ∧ 1 ≤ 2 ∧ 2 < 8 ∧ x025.ret = false ∧ x025.prob = false ∧ x025.s < s241.dev.retireThr 2 * 65536) :=
  ⟨by decide +kernel,
   by decide +kernel,
   by decide +kernel,
   by decide +kernel,
   by decide +kernel,
   by decide +kernel,
   by decide +kernel,
   by decide +kernel⟩

/-! ### GlobalTimeCommandsComplete -/

def s242 : State := ms (fun d => { sf (pgHNK 0) HNK_PSTATE_STATE 2 0 d with clk := { started := true, lost := [(0, 5)] }, gt := 400005 })
def s243 : State := ms (fun d => { (sf (pgHNK 0) HNK_PSTATE_STATE 2 0 d).setGstate 0 1 with clk := { ((sf (pgHNK 0) HNK_PSTATE_STATE 2 0 d).setGstate 0 1).clk with started := true, beacon := some 7, good := [(0, 0)] }, pwr := { d.pwr with edge := [0] }, gt := 80000 })
def ofs001 : Int := 0
def s244 : State := ms (fun d => { ((fun d : Dev => { d with fab := { d.fab with tbl := [(65536, 4)] } }) ∘ sf (pgTUB 0) TUB_DOMAIN_TMASTER 1 0 ∘ sf (pgTUB 0) TUB_DOMAIN_NXM1 2 0 ∘ sf (pgTUB 11) TUB_PSTATE_STATE 5 0) d with gt := 80000, clk := { domGood := 15 } })
def s245 : State := ms (fun d => { sf pgWHL WHL_CLKSTAT_DOMSTATE 1 0 d with gt := 200000 })
def s246 : State := ms (fun d => { d with gt := 5000, clk := { started := true, beacon := some 7 } })
def s247 : State := ms (fun d => { sf (pgHNK 0) HNK_PSTATE_STATE 2 0 d with clk := { started := true, lost := [(184, 5)] }, gt := 400005 })
def s248 : State := ms (fun d => { (sf (pgHNK 0) HNK_PSTATE_STATE 2 0 d).setGstate 0 0 with clk := { ((sf (pgHNK 0) HNK_PSTATE_STATE 2 0 d).setGstate 0 0).clk with started := true, beacon := some 7, good := [(0, 0)] }, pwr := { d.pwr with edge := [0] }, gt := 80000 })
def s249 : State := ms (fun d => { (sf (pgHNK 0) HNK_PSTATE_STATE 2 0 d).setGstate 0 1 with clk := { ((sf (pgHNK 0) HNK_PSTATE_STATE 2 0 d).setGstate 0 1).clk with started := true, beacon := some 7, good := [(0, 4)] }, pwr := { d.pwr with edge := [0] }, gt := 80000 })
def ofs002 : Int := 17
def s250 : State := ms (fun d => { ((fun d : Dev => { d with fab := { d.fab with tbl := [(65536, 4)] } }) ∘ sf (pgTUB 0) TUB_DOMAIN_TMASTER 1 0 ∘ sf (pgTUB 0) TUB_DOMAIN_NXM1 2 0 ∘ sf (pgTUB 11) TUB_PSTATE_STATE 5 0 ∘ sf pgWHL WHL_TIMECTL_STEPOK 1 0) d with gt := 80000 })

theorem witness_GlobalTimeCommandsComplete :
    ((s242.dev.obeys = true ∧ 0 < Config.endpoints ∧ 10 < Config.fabricPorts ∧ s242.dev.clk.started = true ∧ s242.dev.clk.beacon = none ∧ List.find? (fun x => decide (x.1 = 0)) s242.dev.clk.lost = some (0, 5) ∧ s242.dev.gt ≤ 5 + 400000 ∧ 5 + 400000 ≤ s242.dev.gt ∧ 0 ≠ s242.dev.wdEp) ∧
     (s243.dev.obeys = true ∧ 0 < Config.endpoints ∧ 10 < Config.fabricPorts ∧ (0 < 184 ∧ s243.dev.clk.beacon.isSome = true ∧ s243.dev.powered 0 = true ∧ ∀ x ∈ s243.dev.clk.lost, x.1 ≠ 0) ∧ (s243.dev.gstate 0 = 1 ∨ s243.dev.gstate 0 = 3) ∧ -16 ≤ -(SMap.get 0 s243.dev.gtOfs 0 + ofs001) ∧ -(SMap.get 0 s243.dev.gtOfs 0 + ofs001) ≤ 16 ∧ ((if -4 ≤ -(SMap.get 0 s243.dev.gtOfs 0 + ofs001) ∧ -(SMap.get 0 s243.dev.gtOfs 0 + ofs001) ≤ 4 then SMap.get 0 s243.dev.clk.good 0 + 1 else 0) < 4) ∧ 0 < 184 ∧ s243.dev.powered 0 = true ∧ s243.dev.gstate 0 ≠ 0 ∧ SMap.get 0 s243.dev.clk.last 0 + 20000 ≤ s243.dev.gt ∧ s243.dev.clk.started = true ∧ (∀ x ∈ s243.dev.clk.lost, x.1 ≠ 0))) ∧
    ((s244.dev.obeys = true ∧ 0 < Config.endpoints ∧ 10 < Config.fabricPorts ∧ (s244.dev.dirPorts (s244.dev.portDir 10)).head? = some 10 ∧ SMap.get 0 s244.dev.fab.beaconOut 10 = 0 ∧ s244.dev.self ≠ s244.dev.f (pgTUB 0) TUB_DOMAIN_TMASTER ∧ 10 ∈ s244.dev.dirPorts s244.dev.timeDir ∧ s244.dev.clk.samples = [] ∧ -8 ≤ (80000 : Int) - 4 * ((s244.dev.f (pgTUB (10 + 1)) TUB_PSTATE_CABLE : Nat) : Int) - ((s244.dev.gt : Nat) : Int) ∧ (80000 : Int) - 4 * ((s244.dev.f (pgTUB (10 + 1)) TUB_PSTATE_CABLE : Nat) : Int) - ((s244.dev.gt : Nat) : Int) ≤ 8) ∧
     (s245.dev.obeys = true ∧ 0 < Config.endpoints ∧ 10 < Config.fabricPorts ∧ (s245.dev.f pgWHL WHL_CLKSTAT_DOMSTATE = 1 ∨ s245.dev.f pgWHL WHL_CLKSTAT_DOMSTATE = 2) ∧ s245.dev.clk.domLast + 200000 ≤ s245.dev.gt)) ∧
    ((s246.dev.obeys = true ∧ 0 < Config.endpoints ∧ 10 < Config.fabricPorts ∧ s246.dev.clk.started = true ∧ s246.dev.clk.beacon = some 7 ∧ 7 + 4000 ≤ s246.dev.gt) ∧
     (s247.dev.obeys = true ∧ 184 < Config.endpoints ∧ 10 < Config.fabricPorts ∧ List.find? (fun x => decide (x.1 = 184)) s247.dev.clk.lost = some (184, 5) ∧ 5 + 400000 ≤ s247.dev.gt ∧ 184 = s247.dev.wdEp)) ∧
    ((s248.dev.obeys = true ∧ 0 < Config.endpoints ∧ 10 < Config.fabricPorts ∧ (0 < 184 ∧ s248.dev.clk.beacon.isSome = true ∧ s248.dev.powered 0 = true ∧ ∀ x ∈ s248.dev.clk.lost, x.1 ≠ 0) ∧ s248.dev.gstate 0 = 0) ∧
     (s249.dev.obeys = true ∧ 0 < Config.endpoints ∧ 10 < Config.fabricPorts ∧ (0 < 184 ∧ s249.dev.clk.beacon.isSome = true ∧ s249.dev.powered 0 = true ∧ ∀ x ∈ s249.dev.clk.lost, x.1 ≠ 0) ∧ s249.dev.gstate 0 ≠ 0 ∧ -4 ≤ -(SMap.get 0 s249.dev.gtOfs 0 + ofs001) ∧ -(SMap.get 0 s249.dev.gtOfs 0 + ofs001) ≤ 4 ∧ (4 ≤ (if -4 ≤ -(SMap.get 0 s249.dev.gtOfs 0 + ofs001) ∧ -(SMap.get 0 s249.dev.gtOfs 0 + ofs001) ≤ 4 then SMap.get 0 s249.dev.clk.good 0 + 1 else 0)) ∧ s249.dev.present 0 = true)) ∧
    ((s249.dev.obeys = true ∧ 0 < Config.endpoints ∧ 10 < Config.fabricPorts ∧ (0 < 184 ∧ s249.dev.clk.beacon.isSome = true ∧ s249.dev.powered 0 = true ∧ ∀ x ∈ s249.dev.clk.lost, x.1 ≠ 0) ∧ s249.dev.gstate 0 ≠ 0 ∧ (-(SMap.get 0 s249.dev.gtOfs 0 + ofs002) < -16 ∨ 16 < -(SMap.get 0 s249.dev.gtOfs 0 + ofs002))) ∧
     (s250.dev.obeys = true ∧ 0 < Config.endpoints ∧ 10 < Config.fabricPorts ∧ s250.dev.self ≠ s250.dev.f (pgTUB 0) TUB_DOMAIN_TMASTER ∧ 10 ∈ s250.dev.dirPorts s250.dev.timeDir ∧ s250.dev.clk.samples = [] ∧ (4000 < (90000 : Int) - 4 * ((s250.dev.f (pgTUB (10 + 1)) TUB_PSTATE_CABLE : Nat) : Int) - ((s250.dev.gt : Nat) : Int) ∨ (90000 : Int) - 4 * ((s250.dev.f (pgTUB (10 + 1)) TUB_PSTATE_CABLE : Nat) : Int) - ((s250.dev.gt : Nat) : Int) < -4000) ∧ s250.dev.fb pgWHL WHL_TIMECTL_STEPOK = true ∧ s250.dev.anyBusy = false)) :=
  ⟨by decide +kernel,
   by decide +kernel,
   by decide +kernel,
   by decide +kernel,
   by decide +kernel⟩

/-! ### FrequencyCommandsComplete -/

def s251 : State := (fun (s : State) => (id) s) (ms (reg [(0x210, 200000)] ∘ sf pgWHL WHL_FREQ_FSTATE 1 0 ∘ sf pgWHL WHL_FREQ_TGT 5 0 ∘ fun d => { d with gt := 200000, clk := { tgt := 40 } }))
def s252 : State := (fun (s : State) => (id) s) (ms (fun d => { d with clu := [(7, { on := true })], gt := 77 }))
def s253 : State := (fun (s : State) => (id) s) (ms (reg [(0x210, 0)] ∘ sf pgWHL WHL_FREQ_FSTATE 2 0 ∘ sf pgWHL WHL_FREQ_TGT 5 0))
def s254 : State := (fun (s : State) => (id) s) (ms (reg [(0x210, 200000)] ∘ sf pgWHL WHL_FREQ_FSTATE 0 0 ∘ sf pgWHL WHL_FREQ_TGT 5 0))
def s255 : State := (fun (s : State) => (id) s) (ms (reg [(0x210, 200000)] ∘ sf pgWHL WHL_FREQ_FSTATE 1 0 ∘ sf pgWHL WHL_FREQ_TGT 5 0))
def s256 : State := (fun (s : State) => (id) s) (ms (reg [(0x210, 200000)] ∘ sf pgWHL WHL_FREQ_FSTATE 0 0 ∘ sf pgWHL WHL_FREQ_TGT 31 0))
def s257 : State := (fun (s : State) => (id) s) (ms (fun d => { sf (pgCLU 7) CLU_RMON_RSTEP 2 0 d with clu := [(7, { on := true })], gt := 240000000000 }))
def s258 : State := (fun (s : State) => (id) s) (ms (reg [(0x210, 200000)] ∘ sf pgWHL WHL_FREQ_FSTATE 0 0 ∘ sf pgWHL WHL_FREQ_TGT 5 0 ∘ fun d => (d.setGstate 168 2).setGstate 176 2))

theorem witness_FrequencyCommandsComplete :
    ((s251.dev.obeys = true ∧ 5 < 256 ∧ 0 < Config.hanks ∧ 0 < Config.endpoints ∧ 7 < Config.clusters ∧ 1 < 4 ∧ 9 < 64 ∧ 0 < 100 ∧ s251.dev.owner 0 ∧ s251.dev.f pgWHL WHL_FREQ_FSTATE ≠ 0 ∧ s251.dev.f pgWHL WHL_FREQ_FSTATE = 1 ∧ BitVec.toNat (s251.dev.reg (pgWHL + 528)) < s251.dev.gt + 80000 ∧ s251.dev.f pgWHL WHL_FREQ_CUR < s251.dev.clk.tgt ∧ BitVec.toNat (s251.dev.reg (pgWHL + 528)) ≤ s251.dev.gt + 160000 ∧ (∃ x ∈ hankEps 0, s251.dev.present x = true) ∧ s251.dev.present 0 = true ∧ BitVec.toNat (s251.dev.reg (pgWHL + 528)) ≤ s251.dev.gtAt 0 ∧ s251.dev.clk.tgt ≠ s251.dev.f pgWHL WHL_FREQ_CUR) ∧
     (s252.dev.obeys = true ∧ 5 < 256 ∧ 0 < Config.hanks ∧ 0 < Config.endpoints ∧ 7 < Config.clusters ∧ 1 < 4 ∧ 9 < 64 ∧ 0 < 100 ∧ s252.dev.owner 0 ∧ s252.dev.f pgWHL WHL_FREQ_FSTATE = 0 ∧ s252.dev.f pgWHL WHL_FREQ_TGT ≤ (if s252.fuse.code = 0 then 30 else 12) ∧ BitVec.toNat (s252.dev.reg (pgWHL + 528)) < s252.dev.gt + 200000 ∧ s252.dev.present (dieOf 7) = true ∧ (s252.dev.cl 7).on = true ∧ 100 < 1000)) ∧
    ((s252.dev.obeys = true ∧ 5 < 256 ∧ 0 < Config.hanks ∧ 0 < Config.endpoints ∧ 7 < Config.clusters ∧ 1 < 4 ∧ 9 < 64 ∧ 0 < 1000 ∧ s252.dev.present (dieOf 7) = true ∧ (s252.dev.cl 7).on = true ∧ 1000 ≤ 1000 ∧ s252.dev.f (pgCLU 7) CLU_RMON_RSTEP < 2) ∧
     (s253.dev.obeys = true ∧ 5 < 256 ∧ 0 < Config.hanks ∧ 0 < Config.endpoints ∧ 7 < Config.clusters ∧ 1 < 4 ∧ 9 < 64 ∧ 0 < 100 ∧ s253.dev.f pgWHL WHL_FREQ_FSTATE = 2 ∧ s253.dev.clk.switchLeft = [])) ∧
    ((s254.dev.obeys = true ∧ 5 < 256 ∧ 0 < Config.hanks ∧ 0 < Config.endpoints ∧ 7 < Config.clusters ∧ 1 < 4 ∧ 9 < 64 ∧ 0 < 100 ∧ s254.dev.owner 0 ∧ s254.dev.f pgWHL WHL_FREQ_FSTATE = 0 ∧ s254.dev.f pgWHL WHL_FREQ_TGT ≤ (if s254.fuse.code = 0 then 30 else 12) ∧ s254.dev.gt + 200000 ≤ BitVec.toNat (s254.dev.reg (pgWHL + 528)) ∧ s254.dev.unlocked ≠ 0) ∧
     (s255.dev.obeys = true ∧ 5 < 256 ∧ 0 < Config.hanks ∧ 0 < Config.endpoints ∧ 7 < Config.clusters ∧ 1 < 4 ∧ 9 < 64 ∧ 0 < 100 ∧ s255.dev.owner 0 ∧ s255.dev.f pgWHL WHL_FREQ_FSTATE = 1 ∧ s255.dev.gt + 80000 ≤ BitVec.toNat (s255.dev.reg (pgWHL + 528)))) ∧
    ((s256.dev.obeys = true ∧ 5 < 256 ∧ 0 < Config.hanks ∧ 0 < Config.endpoints ∧ 7 < Config.clusters ∧ 1 < 4 ∧ 9 < 64 ∧ 0 < 100 ∧ s256.dev.owner 0 ∧ s256.dev.f pgWHL WHL_FREQ_FSTATE = 0 ∧ (if s256.fuse.code = 0 then 30 else 12) < s256.dev.f pgWHL WHL_FREQ_TGT) ∧
     (s257.dev.obeys = true ∧ 5 < 256 ∧ 0 < Config.hanks ∧ 0 < Config.endpoints ∧ 7 < Config.clusters ∧ 1 < 4 ∧ 9 < 64 ∧ 0 < 1000 ∧ 0 < s257.dev.f (pgCLU 7) CLU_RMON_RSTEP ∧ SMap.get 0 s257.dev.clk.rmonAt 7 + 240000000000 ≤ s257.dev.gt)) ∧
    (s258.dev.obeys = true ∧ 5 < 256 ∧ 0 < Config.hanks ∧ 0 < Config.endpoints ∧ 7 < Config.clusters ∧ 1 < 4 ∧ 9 < 64 ∧ 0 < 100 ∧ s258.dev.owner 0 ∧ s258.dev.f pgWHL WHL_FREQ_FSTATE = 0 ∧ s258.dev.f pgWHL WHL_FREQ_TGT ≤ (if s258.fuse.code = 0 then 30 else 12) ∧ s258.dev.gt + 200000 ≤ BitVec.toNat (s258.dev.reg (pgWHL + 528)) ∧ s258.dev.unlocked = 0) :=
  ⟨by decide +kernel,
   by decide +kernel,
   by decide +kernel,
   by decide +kernel,
   by decide +kernel⟩

/-! ### HankPowerCommandsComplete -/

def s259 : State := ms (sf (pgHNK 0) HNK_PSTATE_STATE 1 0 ∘ sf (pgHNK 0) HNK_PSTATE_CAUSE 0 0 ∘ sf pgWHL WHL_BOOT_BSTEP 5 0 ∘ (fun d => (hankEps 0).foldl (fun d e => d.setGstate e 2) (Pr (hankEps 0) d)) ∘ (fun d => forL (linksAt (hankEps 0)) (fun n d => d.setf (pgLink n) DBL_STATE_STATE 8) d) ∘ fun d => { d with clu := (hankClusters 0).map (fun p => (p, { on := true })) })
def s260 : State := ms (sf (pgHNK 0) HNK_PSTATE_STATE 4 0 ∘ sf (pgHNK 0) HNK_PSTATE_CAUSE 2 0)
def s261 : State := ms (sf (pgHNK 0) HNK_PSTATE_STATE 2 0 ∘ sf (pgHNK 0) HNK_PSTATE_CAUSE 0 0)
def s262 : State := ms (fun d => { reg [mapped 7 1023 15, (0x1007080, 3)] d with clu := [(7, { on := true })], gens := { d.gens with cur := { d.gens.cur with num := 1 } } })
def s263 : State := ms (sf (pgHNK 0) HNK_PSTATE_STATE 3 0 ∘ sf (pgHNK 0) HNK_PSTATE_CAUSE 0 0 ∘ fun d => { d with gt := 4000005, pwr := { d.pwr with hank := [(0, {offAt := some 5})] } })
def s264 : State := ms (sf (pgHNK 0) HNK_PSTATE_STATE 2 0 ∘ sf (pgHNK 0) HNK_PSTATE_CAUSE 0 0 ∘ fun d => { d with gt := 4000005, pwr := { d.pwr with hank := [(0, {clrAt := some 5})] } })

theorem witness_HankPowerCommandsComplete :
    (s259.dev.obeys = true ∧ 0 < Config.hanks ∧ 7 < Config.clusters ∧ s259.dev.owner 0 ∧ (s259.dev.hst 0 ≠ H_ON ∨ s259.dev.hankIdle 0 = false) ∧ s259.dev.hst 0 ≠ H_TRIPPED ∧ (s259.dev.cl (8 * (2 * (0 / 7) * 14 + 2 * (0 % 7)) + 0)).on = true ∧ s259.dev.hankUp 0 = true ∧ (s259.dev.cl (8 * (2 * (0 / 7) * 14 + 2 * (0 % 7)) + 1)).on = true ∧ 1 ≤ s259.dev.hst 0 ∧ s259.dev.hst 0 ≤ 3 ∧ (s259.dev.hp13 0).clrAt = none ∧ s259.dev.hst 0 = H_POWERING ∧ 5 ≤ s259.dev.f pgWHL WHL_BOOT_BSTEP ∧ s259.dev.hankReady 0 = true ∧ s259.dev.slub.sc = []) ∧
    (s260.dev.obeys = true ∧ 0 < Config.hanks ∧ 7 < Config.clusters ∧ s260.dev.owner 0 ∧ (s260.dev.hst 0 = H_TRIPPED ∨ s260.dev.hst 0 = H_LOCKED) ∧ s260.dev.hst 0 = H_TRIPPED ∧ s260.dev.hankUp 0 = false ∧ s260.dev.wantOn 7 = true ∧ (s260.dev.cl 7).on = false ∧ s260.dev.gens.next = none) ∧
    (s261.dev.obeys = true ∧ 0 < Config.hanks ∧ 7 < Config.clusters ∧ s261.dev.owner 0 ∧ s261.dev.hst 0 = H_ON ∧ s261.dev.hankIdle 0 = true ∧ 1 ≤ s261.dev.hst 0 ∧ s261.dev.hst 0 ≤ 3 ∧ (110 ≤ 110 ∨ 105 ≤ 20)) ∧
    (s262.dev.obeys = true ∧ 0 < Config.hanks ∧ 7 < Config.clusters ∧ s262.dev.owner 0 ∧ s262.dev.hst 0 = H_OFF ∧ s262.dev.wantOn 7 = false ∧ (s262.dev.cl 7).on = true) ∧
    (s263.dev.obeys = true ∧ 0 < Config.hanks ∧ 7 < Config.clusters ∧ s263.dev.hst 0 = H_DRAINING ∧ (s263.dev.hp13 0).offAt = some 5 ∧ 5 + 4000000 ≤ s263.dev.gt) ∧
    (s264.dev.obeys = true ∧ 0 < Config.hanks ∧ 7 < Config.clusters ∧ 1 ≤ s264.dev.hst 0 ∧ s264.dev.hst 0 ≤ 3 ∧ (s264.dev.hp13 0).clrAt = some 5 ∧ s264.dev.gt ≤ 5 + 2400000000000) :=
  ⟨by decide +kernel,
   by decide +kernel,
   by decide +kernel,
   by decide +kernel,
   by decide +kernel,
   by decide +kernel⟩

/-! ### PowerBudgetCommandsComplete -/

def s265 : State := ms (fun d => { d with pwr := { d.pwr with underV := true } })
def s266 : State := ms (fun d => { d with gt := 2000, clu := [(7, { nramp := 4 })] })
def s267 : State := ms (sf pgWHL WHL_COOL_FLOW 50 0 ∘ fun d => { d with pwr := { d.pwr with measured := true } })
def s268 : State := ms (fun d => { d with gt := 2000, clu := [(7, { nramp := 4, notices := [⟨[0, 1000, 2 ^ 27 + 5, 0, 0, 0, 0, 0]⟩] })] })
def s269 : State := ms (fun d => { d with pwr := { d.pwr with hank := [(0, { turns := [260, 100] })] } })

theorem witness_PowerBudgetCommandsComplete :
    (s207.dev.obeys = true ∧ 0 < Config.hanks ∧ 7 < Config.clusters ∧ 20000 < 65536 ∧ s207.dev.owner 0 ∧ s207.dev.present (dieOf 7) = true ∧ (s207.dev.hp13 0).turns = [] ∧ 10000 < 11400 ∧ (10000 < 10800 ∨ 13000 < 10000)) ∧
    (s207.dev.obeys = true ∧ 0 < Config.hanks ∧ 7 < Config.clusters ∧ 20000 < 65536 ∧ 3 < 192 ∧ 115 * 4096 < 100 * 5000) ∧
    (s265.dev.obeys = true ∧ 0 < Config.hanks ∧ 7 < Config.clusters ∧ 20000 < 65536 ∧ 11400 ≤ 12000 ∧ s265.dev.pwr.underV = true) ∧
    (s266.dev.obeys = true ∧ 0 < Config.hanks ∧ 7 < Config.clusters ∧ 20000 < 65536 ∧ (s266.dev.cl 7).nramp < 16 ∧ (∀ x ∈ (s266.dev.cl 7).notices, x.covers (s266.dev.gtAt (dieOf 7)) = false) ∧ (s266.dev.cl 7).rampAt + 2000 ≤ s266.dev.gt) ∧
    (s267.dev.obeys = true ∧ 0 < Config.hanks ∧ 7 < Config.clusters ∧ 20000 < 65536 ∧ s267.dev.pwr.measured = true ∧ (s267.dev.f pgWHL WHL_COOL_FLOW < 100 ∨ 1040 < s267.dev.f pgWHL WHL_COOL_TOUT)) ∧
    (s268.dev.obeys = true ∧ 0 < Config.hanks ∧ 7 < Config.clusters ∧ 20000 < 65536 ∧ (s268.dev.cl 7).nramp < 16 ∧ (∃ x ∈ (s268.dev.cl 7).notices, x.covers (s268.dev.gtAt (dieOf 7)) = true)) ∧
    (s269.dev.obeys = true ∧ 0 < Config.hanks ∧ 7 < Config.clusters ∧ 20000 < 65536 ∧ (s269.dev.hp13 0).turns = [(260 : Int), (100 : Int)] ∧ 100 + 160 ≤ 260 ∧ 260 < 100 + 320 ∧ 90 ≤ 100) :=
  ⟨by decide +kernel,
   by decide +kernel,
   by decide +kernel,
   by decide +kernel,
   by decide +kernel,
   by decide +kernel,
   by decide +kernel⟩

/-! ### BringUpStartsComplete -/

def s270 : State := boot 10 0
def s271 : State := boot 1 0
def s272 : State := st (Pr [0, 168] (on [(0x500, 6 * 2 ^ 44), own0]))
def s273 : State := boot 3 1
def c004 := Instr.bootPower 0
def errs001 : List (Nat × Nat) := []
def s274 : State := boot 3 0
def s275 : State := st (on [(0x500, 2 * 2 ^ 44), (0x508, 2 ^ 27), own0])
def s276 : State := boot 10 0 fun d => { d with boot := { loaded := imgs } }
def s277 : State := st (Pr [0, 168] (Cl 7 { on := true } (on [(0x500, 5 * 2 ^ 44), own0])))
def s278 : State := boot 10 0 fun d => { d with boot := { loaded := imgs }, gens := { cur := { num := 1 } } }
def s279 : State := st (Pr [167, 168] (on [(0x500, 4 * 2 ^ 44), own0, (0xE37088, 2 ^ 24 + 2 ^ 3)]))

theorem witness_BringUpStartsComplete :
    ((27 < Config.hanks ∧ 895 < Config.clusters ∧ 55 < Config.baseDies ∧ s001.dev.obeys = true ∧ s001.dev.owner 0 ∧ s001.dev.f pgWHL WHL_BOOT_BSTATE ≠ 1 ∧ s001.dev.f pgWHL WHL_BOOT_BSTEP = 0) ∧
     (0 < Config.hanks ∧ 7 < Config.clusters ∧ 55 < Config.baseDies ∧ s270.dev.obeys = true ∧ s270.dev.owner 0 ∧ s270.dev.f pgWHL WHL_BOOT_BSTATE ≠ 1 ∧ s270.dev.f pgWHL WHL_BOOT_BSTEP = 10 ∧ ((List.range 3).all fun t => List.any s270.dev.boot.loaded fun x => decide (x.1 = t)) = false)) ∧
    ((27 < Config.hanks ∧ 895 < Config.clusters ∧ 55 < Config.baseDies ∧ s271.dev.obeys = true ∧ s271.dev.owner 0 ∧ s271.dev.f pgWHL WHL_BOOT_BSTATE ≠ 1 ∧ s271.dev.f pgWHL WHL_BOOT_BSTEP = 1) ∧
     (0 < Config.hanks ∧ 7 < Config.clusters ∧ 55 < Config.baseDies ∧ s272.dev.obeys = true ∧ s272.dev.owner 0 ∧ s272.dev.f pgWHL WHL_BOOT_BSTATE ≠ 1 ∧ s272.dev.f pgWHL WHL_BOOT_BSTEP = 6)) ∧
    ((27 < Config.hanks ∧ 895 < Config.clusters ∧ 55 < Config.baseDies ∧ s273.dev.obeys = true ∧ s273.dev.owner 0 ∧ (c004, 3) ∈ [(Instr.bootEnumerate 0, 1), (Instr.bootClockStart 0, 2), (Instr.bootPower 0, 3), (Instr.bootMemoryTrain 0 errs001, 5), (Instr.bootSelfTest 0, 6), (Instr.bootReconcile 0, 7), (Instr.bootRelease 0, 11)] ∧ s273.dev.f pgWHL WHL_BOOT_BSTATE = 1) ∧
     (27 < Config.hanks ∧ 895 < Config.clusters ∧ 55 < Config.baseDies ∧ s274.dev.obeys = true ∧ s274.dev.owner 0 ∧ (c004, 3) ∈ [(Instr.bootEnumerate 0, 1), (Instr.bootClockStart 0, 2), (Instr.bootPower 0, 3), (Instr.bootMemoryTrain 0 errs001, 5), (Instr.bootSelfTest 0, 6), (Instr.bootReconcile 0, 7), (Instr.bootRelease 0, 11)] ∧ s274.dev.f pgWHL WHL_BOOT_BSTATE ≠ 1 ∧ s274.dev.f pgWHL WHL_BOOT_BSTEP ≠ 3 - 1)) ∧
    ((0 < Config.hanks ∧ 895 < Config.clusters ∧ 55 < Config.baseDies ∧ s275.dev.obeys = true ∧ s275.dev.owner 0 ∧ s275.dev.f pgWHL WHL_BOOT_BSTATE ≠ 1 ∧ s275.dev.f pgWHL WHL_BOOT_BSTEP = 2) ∧
     (0 < Config.hanks ∧ 7 < Config.clusters ∧ 55 < Config.baseDies ∧ s276.dev.obeys = true ∧ s276.dev.owner 0 ∧ s276.dev.f pgWHL WHL_BOOT_BSTATE ≠ 1 ∧ s276.dev.f pgWHL WHL_BOOT_BSTEP = 10 ∧ ((List.range 3).all fun t => List.any s276.dev.boot.loaded fun x => decide (x.1 = t)) = true ∧ s276.dev.gens.cur.num = 0)) ∧
    ((0 < Config.hanks ∧ 7 < Config.clusters ∧ 55 < Config.baseDies ∧ s277.dev.obeys = true ∧ s277.dev.owner 0 ∧ s277.dev.f pgWHL WHL_BOOT_BSTATE ≠ 1 ∧ s277.dev.f pgWHL WHL_BOOT_BSTEP = 5) ∧
     (0 < Config.hanks ∧ 7 < Config.clusters ∧ 55 < Config.baseDies ∧ s278.dev.obeys = true ∧ s278.dev.owner 0 ∧ s278.dev.f pgWHL WHL_BOOT_BSTATE ≠ 1 ∧ s278.dev.f pgWHL WHL_BOOT_BSTEP = 10 ∧ ((List.range 3).all fun t => List.any s278.dev.boot.loaded fun x => decide (x.1 = t)) = true ∧ s278.dev.gens.cur.num ≠ 0)) ∧
    (0 < Config.hanks ∧ 895 < Config.clusters ∧ 55 < Config.baseDies ∧ s279.dev.obeys = true ∧ s279.dev.owner 0 ∧ s279.dev.f pgWHL WHL_BOOT_BSTATE ≠ 1 ∧ s279.dev.f pgWHL WHL_BOOT_BSTEP = 4 ∧ s279.dev.boot.step = none) :=
  ⟨by decide +kernel,
   by decide +kernel,
   by decide +kernel,
   by decide +kernel,
   by decide +kernel,
   by decide +kernel⟩

/-! ### BringUpEndsAndSelfTestsComplete -/

def s280 : State := st (Pr [0] (Cl 7 { stRun := true, on := true } (on [(0x1007080, 0xF000000 + 0x3FF * 2 ^ 12 + 1), own0])))
def s281 : State := st (Pr [0] (on [(0x1007080, 0), (0x400610, 2 ^ 52), own0]))
def s282 : State := st (Pr [0, 112, 168] (on [(0x500, 3 * 2 ^ 44), (0x318, 2), own0]))
def s283 : State := st { Pr [0] (Cl 7 { stRun := true, on := true } (on [(0x1007080, 0xF000000 + 0x3FF * 2 ^ 12 + 1), own0])) with boot := { step := some 6 } }
def s284 : State := boot 6 1 fun d => { d with boot := { step := some 7 } }
def s285 : State := boot 8 0 (Bt fun b => { b with loaded := imgs })
def s286 : State := st (on [(0x500, 9 * 2 ^ 44), (0x310, 3 * 2 ^ 8), own0])
def s287 : State := st (Pr [0] (Cl 7 { stDefer := true } (on [(0x1007080, 0xF000000 + 0x3FF * 2 ^ 12 + 1), own0])))
def s288 : State := st { Pr [112, 168] (on [(0x500, 4 * 2 ^ 44 + 2 ^ 42), (0x100080, 1), (0xE00080, 3)]) with boot := { step := some 5 } }

theorem witness_BringUpEndsAndSelfTestsComplete :
    ((s280.dev.obeys = true ∧ 0 < Config.hanks ∧ 7 < Config.clusters ∧ 1 < Config.baseDies ∧ 65535 < 65536 ∧ s280.dev.boot.step = none ∧ s280.dev.f pgWHL WHL_BOOT_BSTEP ≠ 3 ∧ s280.dev.f pgWHL WHL_BOOT_BSTEP ≠ 8 ∧ s280.dev.f pgWHL WHL_BOOT_BSTEP ≠ 9 ∧ s280.dev.owner 0 ∧ s280.dev.present (dieOf 7) = true ∧ (s280.dev.cl 7).stRun = true ∧ ((s280.dev.cl 7).stDefer = false ∨ s280.dev.drained 7 = false) ∧ (s280.dev.cl 7).on = true ∧ s280.dev.areas = [] ∧ 65535 ≠ 0 ∧ s280.dev.boot.step ≠ some 6 ∧ s280.dev.pstate 7 = PS_SPARE ∧ s280.dev.partOf 7 = 15 ∧ s280.dev.lcOf 7 = 1023 ∧ s280.dev.gens.next = none) ∧
     (s281.dev.obeys = true ∧ 0 < Config.hanks ∧ 7 < Config.clusters ∧ 1 < Config.baseDies ∧ 1 < 65536 ∧ s281.dev.owner 0 ∧ s281.dev.present (dieOf 7) = true ∧ (s281.dev.cl 7).stRun = false ∧ s281.dev.drained 7 = false ∧ true = true ∧ false = false)) ∧
    ((s282.dev.obeys = true ∧ 0 < Config.hanks ∧ 7 < Config.clusters ∧ 1 < Config.baseDies ∧ 1 < 65536 ∧ s282.dev.boot.step = none ∧ s282.dev.f pgWHL WHL_BOOT_BSTEP = 3 ∧ s282.dev.f pgWHL WHL_DISC_DSTATE = 2 ∧ s282.dev.owner 0 ∧ s282.dev.present (dieOf 7) = true ∧ (s282.dev.cl 7).stRun = false ∧ s282.dev.drained 7 = true) ∧
     (s283.dev.obeys = true ∧ 0 < Config.hanks ∧ 7 < Config.clusters ∧ 1 < Config.baseDies ∧ 65535 < 65536 ∧ s283.dev.boot.step = some 6 ∧ s283.dev.stepHolds 6 = false ∧ (s283.dev.cl 7).stRun = true ∧ (s283.dev.cl 7).on = true ∧ s283.dev.areas = [] ∧ 65535 ≠ 0)) ∧
    ((s284.dev.obeys = true ∧ 0 < Config.hanks ∧ 7 < Config.clusters ∧ 0 < Config.baseDies ∧ 1 < 65536 ∧ s284.dev.boot.step = some 7 ∧ s284.dev.stepHolds 7 = true ∧ 7 ∈ [1, 2, 3, 6, 7]) ∧
     (s285.dev.obeys = true ∧ 0 < Config.hanks ∧ 7 < Config.clusters ∧ 1 < Config.baseDies ∧ 1 < 65536 ∧ s285.dev.boot.step = none ∧ s285.dev.f pgWHL WHL_BOOT_BSTEP = 8 ∧ ((List.range 3).all fun t => List.any s285.dev.boot.loaded fun x => decide (x.1 = t)) = true)) ∧
    ((s286.dev.obeys = true ∧ 0 < Config.hanks ∧ 7 < Config.clusters ∧ 1 < Config.baseDies ∧ 1 < 65536 ∧ s286.dev.boot.step = none ∧ s286.dev.f pgWHL WHL_BOOT_BSTEP = 9 ∧ (s286.dev.f pgWHL WHL_OPTCTL_CSTATE = 2 ∨ s286.dev.f pgWHL WHL_OPTCTL_CSTATE = 3)) ∧
     (s287.dev.obeys = true ∧ 0 < Config.hanks ∧ 7 < Config.clusters ∧ 1 < Config.baseDies ∧ 1 < 65536 ∧ (s287.dev.cl 7).stDefer = true ∧ s287.dev.drained 7 = true)) ∧
    (s288.dev.obeys = true ∧ 0 < Config.hanks ∧ 7 < Config.clusters ∧ 0 < Config.baseDies ∧ 1 < 65536 ∧ s288.dev.boot.step = some 5 ∧ s288.dev.stepHolds 5 = true ∧ 5 = 5) :=
  ⟨by decide +kernel,
   by decide +kernel,
   by decide +kernel,
   by decide +kernel,
   by decide +kernel⟩

/-! ### FirmwareCommandsComplete -/

def s289 : State := fw 2 7 0
def data003 : List Byte := [1, 2]
def s290 : State := fw 3 8 0 (fun d => { Bt (fun b => { b with staged := some im0, confirm := [7, 9] }) d with clu := [(7, { on := true, fwTries := 1 })] })
def im001 := im0
def s291 : State := fw 0 5 0 pres
def s292 : State := st (pres (on [(0x510, 5 * 2 ^ 44 + 64)]))
def s293 : State := fw 0 11 2 (fun d => { Bt (fun b => { b with loaded := imgs }) d with clu := [(7, { on := true, fwGot := [1] })] })
def s294 : State := fw 3 8 0 (fun d => { Bt (fun b => { b with staged := some im0, confirm := [7, 9] }) d with clu := [(7, { on := true }), (9, { on := true })] })
def s295 : State := fw 1 8 0
def s296 : State := fw 0 11 2 pres
def s297 : State := fw 1 8 0 (Bt fun b => { b with outcome := 3 })
def s298 : State := fw 2 11 2 (Bt fun b => { b with staged := some im3 })
def im002 := im3
def s299 : State := fw 2 8 0 (Bt fun b => { b with staged := some ⟨1, 7, 1, 9⟩ })
def im003 : Image := ⟨1, 7, 1, 9⟩
def s300 : State := fw 2 11 2 fun d => { d with regs := (0x400610, BitVec.ofNat 64 (2 ^ 52)) :: d.regs }
def s301 : State := fw 2 8 0 (fun d => Cl 7 { on := true, fwGot := [1] } (Bt (fun b => { b with staged := some im0 }) d))

theorem witness_FirmwareCommandsComplete :
    ((s289.dev.obeys = true ∧ 7 < Config.clusters ∧ 0 + data003.length ≤ FWBUF ∧ 0 < 4 ∧ 300 < 2 ^ 26 ∧ s289.dev.owner 0 ∧ (s289.dev.f pgWHL WHL_FWSTAT_FSTATE = 2 ∨ s289.dev.f pgWHL WHL_FWSTAT_FSTATE = 5) ∧ s289.dev.f pgWHL WHL_FWSTAT_FSTATE ≠ 1 ∧ s289.dev.f pgWHL WHL_FWSTAT_FSTATE ≠ 3 ∧ s289.dev.f pgWHL WHL_FWCTL_TYPE < 4 ∧ s289.dev.f pgWHL WHL_BOOT_BSTEP < 8 ∧ s289.dev.hasFw 7 = true ∧ s289.dev.hostUp 0 = true ∧ s289.dev.sec.presence = false) ∧
     (s290.dev.obeys = true ∧ 7 < Config.clusters ∧ 0 + data003.length ≤ FWBUF ∧ 0 < 4 ∧ 0 < 2 ^ 26 ∧ s290.dev.owner 0 ∧ (s290.dev.f pgWHL WHL_FWSTAT_FSTATE = 1 ∨ s290.dev.f pgWHL WHL_FWSTAT_FSTATE = 3) ∧ s290.dev.f pgWHL WHL_FWCTL_TYPE < 4 ∧ s290.dev.boot.staged = some im001 ∧ s290.dev.f pgWHL WHL_FWSTAT_FSTATE = 3 ∧ 7 ∈ s290.dev.boot.confirm ∧ (s290.dev.cl 7).on = true ∧ List.filter (fun q => (s290.dev.cl q).on) (setDel s290.dev.boot.confirm 7) = [] ∧ (s290.dev.cl 7).fwTries ≠ 0 ∧ s290.dev.f pgWHL WHL_BOOT_BSTATE ≠ 2 ∧ s290.dev.partOf 7 = 15 ∧ s290.dev.lcOf 7 = 1023)) ∧
    ((s291.dev.obeys = true ∧ 7 < Config.clusters ∧ 0 + data003.length ≤ FWBUF ∧ 0 < 4 ∧ 0 < 2 ^ 26 ∧ s291.dev.owner 0 ∧ (s291.dev.f pgWHL WHL_FWSTAT_FSTATE = 0 ∨ s291.dev.f pgWHL WHL_FWSTAT_FSTATE = 4) ∧ s291.dev.hostUp 0 = true ∧ s291.dev.sec.presence = true ∧ s291.dev.fuseSel = some (0, 0) ∧ s291.dev.ovrInTime 0 = true) ∧
     (s292.dev.obeys = true ∧ s292.dev.hostUp 0 = true ∧ s292.dev.sec.presence = true ∧ s292.dev.fuseSel = none)) ∧
    ((s293.dev.obeys = true ∧ 7 < Config.clusters ∧ 0 + data003.length ≤ FWBUF ∧ 0 < 4 ∧ 0 < 2 ^ 26 ∧ (s293.dev.cl 7).on = true ∧ s293.dev.hasFw 7 = false ∧ 7 ∉ s293.dev.boot.confirm ∧ s293.dev.gens.next = none ∧ (s293.dev.cl 7).fwTries = 0) ∧
     (s294.dev.obeys = true ∧ 7 < Config.clusters ∧ 0 + data003.length ≤ FWBUF ∧ 0 < 4 ∧ 0 < 2 ^ 26 ∧ s294.dev.boot.staged = some im001 ∧ s294.dev.f pgWHL WHL_FWSTAT_FSTATE = 3 ∧ 7 ∈ s294.dev.boot.confirm ∧ (s294.dev.cl 7).on = true ∧ List.filter (fun q => (s294.dev.cl q).on) (setDel s294.dev.boot.confirm 7) ≠ [] ∧ (s294.dev.cl 7).fwTries = 0)) ∧
    ((s295.dev.obeys = true ∧ 7 < Config.clusters ∧ 0 + data003.length ≤ FWBUF ∧ 0 < 4 ∧ 0 < 2 ^ 26 ∧ s295.dev.f pgWHL WHL_FWSTAT_FSTATE = 1 ∧ s295.dev.boot.outcome = 0) ∧
     (s296.dev.obeys = true ∧ s296.dev.hostUp 0 = true ∧ s296.dev.sec.presence = true ∧ s296.dev.fuseSel = some (0, 0) ∧ s296.dev.ovrInTime 0 = false)) ∧
    ((s297.dev.obeys = true ∧ 7 < Config.clusters ∧ 0 + data003.length ≤ FWBUF ∧ 0 < 4 ∧ 0 < 2 ^ 26 ∧ s297.dev.f pgWHL WHL_FWSTAT_FSTATE = 1 ∧ 1 ≤ s297.dev.boot.outcome ∧ s297.dev.boot.outcome ≤ 3) ∧
     (s298.dev.obeys = true ∧ 7 < Config.clusters ∧ 0 + data003.length ≤ FWBUF ∧ 0 < 4 ∧ 0 < 2 ^ 26 ∧ s298.dev.owner 0 ∧ s298.dev.f pgWHL WHL_FWCTL_TYPE < 4 ∧ 8 ≤ s298.dev.f pgWHL WHL_BOOT_BSTEP ∧ (s298.dev.f pgWHL WHL_BOOT_BSTATE ≠ 2 ∨ ∀ j < Config.partitions, (s298.dev.pst j = P_IDLE ∨ s298.dev.pst j = P_ABORTED ∨ s298.dev.pst j = P_STUCK) ∧ s298.dev.fb (pgPART j) PART_STEP_SUSPD = false) ∧ s298.dev.boot.staged = some im002 ∧ s298.dev.f pgWHL WHL_FWSTAT_FSTATE = 2 ∧ s298.fuse.keyHash im002.keysel ≠ none ∧ im002.typ = 3)) ∧
    ((s299.dev.obeys = true ∧ 7 < Config.clusters ∧ 0 + data003.length ≤ FWBUF ∧ 0 < 4 ∧ 0 < 2 ^ 26 ∧ s299.dev.owner 0 ∧ s299.dev.f pgWHL WHL_FWCTL_TYPE < 4 ∧ 8 ≤ s299.dev.f pgWHL WHL_BOOT_BSTEP ∧ (s299.dev.f pgWHL WHL_BOOT_BSTATE ≠ 2 ∨ ∀ j < Config.partitions, (s299.dev.pst j = P_IDLE ∨ s299.dev.pst j = P_ABORTED ∨ s299.dev.pst j = P_STUCK) ∧ s299.dev.fb (pgPART j) PART_STEP_SUSPD = false) ∧ s299.dev.boot.staged = some im003 ∧ s299.dev.f pgWHL WHL_FWSTAT_FSTATE = 2 ∧ s299.fuse.keyHash im003.keysel = none) ∧
     (s300.dev.obeys = true ∧ 7 < Config.clusters ∧ 0 + data003.length ≤ FWBUF ∧ 0 < 4 ∧ 0 < 2 ^ 26 ∧ s300.dev.owner 0 ∧ s300.dev.f pgWHL WHL_FWCTL_TYPE < 4 ∧ 8 ≤ s300.dev.f pgWHL WHL_BOOT_BSTEP ∧ s300.dev.f pgWHL WHL_BOOT_BSTATE = 2 ∧ (¬∀ j < Config.partitions, (s300.dev.pst j = P_IDLE ∨ s300.dev.pst j = P_ABORTED ∨ s300.dev.pst j = P_STUCK) ∧ s300.dev.fb (pgPART j) PART_STEP_SUSPD = false))) ∧
    (s301.dev.obeys = true ∧ 7 < Config.clusters ∧ 0 + data003.length ≤ FWBUF ∧ 0 < 4 ∧ 0 < 2 ^ 26 ∧ s301.dev.owner 0 ∧ s301.dev.f pgWHL WHL_FWCTL_TYPE < 4 ∧ 8 ≤ s301.dev.f pgWHL WHL_BOOT_BSTEP ∧ (s301.dev.f pgWHL WHL_BOOT_BSTATE ≠ 2 ∨ ∀ j < Config.partitions, (s301.dev.pst j = P_IDLE ∨ s301.dev.pst j = P_ABORTED ∨ s301.dev.pst j = P_STUCK) ∧ s301.dev.fb (pgPART j) PART_STEP_SUSPD = false) ∧ s301.dev.boot.staged = some im001 ∧ s301.dev.f pgWHL WHL_FWSTAT_FSTATE = 2 ∧ s301.fuse.keyHash im001.keysel ≠ none ∧ im001.typ < 3 ∧ List.filter (fun q => (s301.dev.cl q).on) (List.range Config.clusters) ≠ []) :=
  ⟨by decide +kernel,
   by decide +kernel,
   by decide +kernel,
   by decide +kernel,
   by decide +kernel,
   by decide +kernel,
   by decide +kernel⟩

/-! ### ResetCommandsComplete -/

def s302 : State := ms (pst5 P_RESETTING ∘ (fun d => { d with parts := [(5, { phase := .none })] }))
def s303 : State := ms (fun d => { reg [mapped 7 5 5] (gen [(5, 7)] [(0x405940, 2 ^ 5)] d) with clu := [(7, { on := true, resetting := true })] })
def s304 : State := ms (sf pgWHL WHL_PRST_FROZEN 1 0)
def s305 : State := ms (pst5 P_RESETTING ∘ (fun d => { d with parts := [(5, { phase := .reset })] }))

theorem witness_ResetCommandsComplete :
    (7 < Config.clusters ∧ 5 < Config.partitions ∧ 0 < Config.hanks ∧ 1 < 3 ∧ s302.dev.obeys = true ∧ s302.dev.owner 0 ∧ s302.dev.present (dieOf 7) = true ∧ (s302.dev.cl 7).resetting = false ∧ s302.dev.inPartReset 7 = false ∧ (∀ n < 4, ((s302.dev.cl 7).eng n).st = DftSt.idle) ∧ (s302.dev.cl 7).stRun = false ∧ s302.dev.areas = [] ∧ (s302.dev.pstate 7 = PS_SPARE ∨ s302.dev.pst (s302.dev.partOf 7) ≠ P_RUN ∧ s302.dev.pst (s302.dev.partOf 7) ≠ P_DONE) ∧ s302.dev.pst 5 = P_RESETTING ∧ ((s302.dev.cl 7).resetting = false ∨ s302.dev.cluXfers 7 = true) ∧ (s302.dev.pt 5).phase = Phase.none ∧ s302.dev.stopped = false ∧ s302.dev.frozen = false) ∧
    (7 < Config.clusters ∧ 5 < Config.partitions ∧ 0 < Config.hanks ∧ 1 < 3 ∧ s303.dev.obeys = true ∧ s303.dev.owner 0 ∧ s303.dev.present (dieOf 7) = true ∧ ((s303.dev.cl 7).resetting = true ∨ s303.dev.inPartReset 7 = true) ∧ s303.dev.pst 5 ≠ P_RESETTING ∧ (s303.dev.cl 7).resetting = true ∧ s303.dev.inPartReset 7 = false ∧ s303.dev.cluXfers 7 = false) ∧
    (7 < Config.clusters ∧ 5 < Config.partitions ∧ 0 < Config.hanks ∧ 1 < 3 ∧ s304.dev.stopped = false ∧ s304.dev.owner 0 ∧ s304.dev.frozen = true) ∧
    (7 < Config.clusters ∧ 5 < Config.partitions ∧ 0 < Config.hanks ∧ 1 < 3 ∧ s305.dev.obeys = true ∧ s305.dev.pst 5 = P_RESETTING ∧ (s305.dev.pt 5).phase = Phase.reset ∧ s305.dev.partXfers 5 = false ∧ s305.dev.members 5 = []) :=
  ⟨by decide +kernel,
   by decide +kernel,
   by decide +kernel,
   by decide +kernel⟩

/-! ### GenerationCommandsComplete -/

def s307 : State := ms ((sf pgWHL WHL_BOOT_BSTEP 2 0) ∘ sf pgWHL WHL_BOOT_BSTEP 7 0)
def s308 : State := ms ((fun d => G (fun g => { g with job := some (.drain 2) }) d) ∘ sf pgWHL WHL_BOOT_BSTEP 7 0)
def s311 : State := ms ((pst5 P_RUN ∘ G (fun g => { g with prev := some { num := 0 } })) ∘ sf pgWHL WHL_BOOT_BSTEP 7 0)
def g002 : Gen := { num := 0 }

/-- A previous generation stands by. -/
def sPrev : State := ms (sf pgWHL WHL_BOOT_BSTEP 7 0 ∘ G (fun g => { g with prev := some bare }))
theorem sPrev_good : sPrev.dev.genErr bare true = 0 := by
  refine genErr_bare rfl ?_ ?_ ?_ ?_ ?_ <;> decide +kernel
/-- The staged translation tables of two endpoints differ. -/
def sTorn : State := ms (sf pgWHL WHL_BOOT_BSTEP 7 0 ∘ fun d => { d with net := { d.net with tbl := [(tblKey 1 0 0 0 0, 1)] } })
theorem sTorn_bad : sTorn.dev.genErr sTorn.dev.stagedGen sTorn.dev.xlateSame ≠ 0 := by
  have h : sTorn.dev.xlateSame = false ∧ sTorn.dev.clu = [] := by decide +kernel
  have ht : sTorn.dev.testBusy sTorn.dev.stagedGen = false := by
    simp [Dev.testBusy, Dev.cl, h.2, SMap.get]
  simp [Dev.genErr, h.1, ht]
/-- The previous generation places two logical clusters on one physical cluster. -/
def gFar : Gen := { tbl := [(tblKey 0 0 0 0 1, 2 ^ 63 + 2 ^ 47)] }
def sFar : State := ms (sf pgWHL WHL_BOOT_BSTEP 7 0 ∘ G (fun g => { g with prev := some gFar }))
theorem sFar_bad : sFar.dev.genErr gFar true ≠ 0 := by
  have h : sFar.dev.testBusy gFar = false ∧ sFar.dev.mapOk gFar = false := by decide +kernel
  simp [Dev.genErr, h.1, h.2]

theorem witness_GenerationCommandsComplete :
    (sGen.dev.genErr sGen.dev.stagedGen sGen.dev.xlateSame = 0 ∧ (sGen.dev.obeys = true ∧ sGen.dev.owner 0 ∧ 1 < 2 ^ 32 ∧ 1 = sGen.dev.gens.cur.num + 1 ∧ 7 ≤ sGen.dev.f pgWHL WHL_BOOT_BSTEP ∧ sGen.dev.genBusy = false ∧ (∀ x ∈ sGen.dev.slub.sc, x.2.prob = false) ∧ sGen.dev.gens.prev = none)) ∧
    (s307.dev.obeys = true ∧ s307.dev.owner 0 ∧ 1 < 2 ^ 32 ∧ (1 ≠ s307.dev.gens.cur.num + 1 ∨ ¬7 ≤ s307.dev.f pgWHL WHL_BOOT_BSTEP) ∧ (¬7 ≤ s307.dev.f pgWHL WHL_BOOT_BSTEP)) ∧
    (s308.dev.obeys = true ∧ s308.dev.owner 0 ∧ 1 < 2 ^ 32 ∧ 1 = s308.dev.gens.cur.num + 1 ∧ 7 ≤ s308.dev.f pgWHL WHL_BOOT_BSTEP ∧ s308.dev.genBusy = true) ∧
    (sPrev.dev.genErr bare true = 0 ∧ (sPrev.dev.obeys = true ∧ sPrev.dev.owner 0 ∧ 0 < 2 ^ 32 ∧ 7 ≤ sPrev.dev.f pgWHL WHL_BOOT_BSTEP ∧ sPrev.dev.genBusy = false ∧ sPrev.dev.gens.prev = some bare ∧ ((List.range Config.partitions).all fun j => (decide (sPrev.dev.pst j = P_IDLE) || decide (sPrev.dev.pst j = P_ABORTED) || decide (sPrev.dev.pst j = P_STUCK)) && !sPrev.dev.fb (pgPART j) PART_STEP_SUSPD) = true ∧ (∀ x ∈ sPrev.dev.slub.sc, x.2.prob = false))) ∧
    (sTorn.dev.genErr sTorn.dev.stagedGen sTorn.dev.xlateSame ≠ 0 ∧ (sTorn.dev.obeys = true ∧ sTorn.dev.owner 0 ∧ 1 < 2 ^ 32 ∧ 1 = sTorn.dev.gens.cur.num + 1 ∧ 7 ≤ sTorn.dev.f pgWHL WHL_BOOT_BSTEP ∧ sTorn.dev.genBusy = false)) ∧
    (s311.dev.obeys = true ∧ s311.dev.owner 0 ∧ 0 < 2 ^ 32 ∧ 7 ≤ s311.dev.f pgWHL WHL_BOOT_BSTEP ∧ s311.dev.genBusy = false ∧ s311.dev.gens.prev = some g002 ∧ ((List.range Config.partitions).all fun j => (decide (s311.dev.pst j = P_IDLE) || decide (s311.dev.pst j = P_ABORTED) || decide (s311.dev.pst j = P_STUCK)) && !s311.dev.fb (pgPART j) PART_STEP_SUSPD) = false) ∧
    (sFar.dev.genErr gFar true ≠ 0 ∧ (sFar.dev.obeys = true ∧ sFar.dev.owner 0 ∧ 0 < 2 ^ 32 ∧ 7 ≤ sFar.dev.f pgWHL WHL_BOOT_BSTEP ∧ sFar.dev.genBusy = false ∧ sFar.dev.gens.prev = some gFar ∧ ((List.range Config.partitions).all fun j => (decide (sFar.dev.pst j = P_IDLE) || decide (sFar.dev.pst j = P_ABORTED) || decide (sFar.dev.pst j = P_STUCK)) && !sFar.dev.fb (pgPART j) PART_STEP_SUSPD) = true)) :=
  ⟨⟨sGen_good, by decide +kernel⟩,
   by decide +kernel,
   by decide +kernel,
   ⟨sPrev_good, by decide +kernel⟩,
   ⟨sTorn_bad, by decide +kernel⟩,
   by decide +kernel,
   ⟨sFar_bad, by decide +kernel⟩⟩

/-! ### OwnershipCommandsComplete -/

def s313 : State := ms (sf pgWHL WHL_OWN_OWNER 0 0)
def s314 : State := ms (fun d => pres ({ d with gt := 9000000000 } : Dev))

theorem witness_OwnershipCommandsComplete :
    (s207.dev.stopped = false ∧ s207.dev.hostUp 0 = true ∧ 1 < 3 ∧ 0 < 3 ∧ (s207.dev.f pgWHL WHL_OWN_OWNER = 1 ∧ (1 = 0 ∨ 1 = 0 + 1 ∨ s207.dev.fb pgWHL WHL_OWN_EXPIRED = true) ∧ (0 = 0 + 1 ∨ s207.dev.f pgWHL WHL_OWN_OWNER = 0 + 1)) ∧ (s207.dev.f pgWHL WHL_OWN_EXPECT < 3 ∧ s207.dev.f pgWHL WHL_OWN_NEW < 3) ∧ s207.dev.owns 0 = true ∧ s207.dev.sec.presence = false ∧ s207.dev.f pgWHL WHL_OWN_OWNER ≠ 0 ∧ s207.dev.sec.leaseEnd ≤ s207.dev.gt) ∧
    (s313.dev.stopped = false ∧ s313.dev.hostUp 0 = true ∧ 0 < 3 ∧ 1 < 3 ∧ (s313.dev.f pgWHL WHL_OWN_EXPECT < 3 ∧ s313.dev.f pgWHL WHL_OWN_NEW < 3) ∧ s313.dev.owns 0 = false ∧ (s313.dev.f pgWHL WHL_OWN_OWNER = 0 ∨ s313.dev.gt < s313.dev.sec.leaseEnd)) ∧
    (s314.dev.stopped = false ∧ s314.dev.hostUp 0 = true ∧ 0 < 3 ∧ 1 < 3 ∧ (¬(s314.dev.f pgWHL WHL_OWN_OWNER = 0 ∧ (0 = 0 ∨ 0 = 0 + 1 ∨ s314.dev.fb pgWHL WHL_OWN_EXPIRED = true) ∧ (1 = 0 + 1 ∨ s314.dev.f pgWHL WHL_OWN_OWNER = 0 + 1))) ∧ (s314.dev.f pgWHL WHL_OWN_EXPECT < 3 ∧ s314.dev.f pgWHL WHL_OWN_NEW < 3) ∧ s314.dev.sec.presence = true) :=
  ⟨by decide +kernel,
   by decide +kernel,
   by decide +kernel⟩

/-! ### SecurityCommandsComplete -/

def s315 : State := (fun (s : State) => { s with fuse := (id) s.fuse }) (ms (id))
def s316 : State := (fun (s : State) => { s with fuse := (fun (f : Fuses) => { f with sealBlown := true }) s.fuse }) (ms (pres))
def s317 : State := (fun (s : State) => { s with fuse := (id) s.fuse }) (ms (fun d => pres (Sec (fun c => { c with keyCmd := some (true, 2, 5) }) d)))
def h002 : BitVec 512 := 5
def s318 : State := (fun (s : State) => { s with fuse := (id) s.fuse }) (ms (sf pgWHL WHL_ATTCTL_STATE 1 0))
def s319 : State := (fun (s : State) => { s with fuse := (id) s.fuse }) (ms (pres ∘ sf pgWHL WHL_DBG_EN 1 0))
def s320 : State := (fun (s : State) => { s with fuse := (fun (f : Fuses) => { f with enrolled := [2] }) s.fuse }) (ms (pres))
def s321 : State := (fun (s : State) => { s with fuse := (id) s.fuse }) (ms (fun d => pres (Sec (fun c => { c with keyCmd := some (false, 2, 5) }) d)))

theorem witness_SecurityCommandsComplete :
    (s315.dev.stopped = false ∧ 2 < 4 ∧ s315.fuse.sealBlown = false ∧ s315.dev.frozen = false ∧ s315.dev.hostUp 0 = true ∧ s315.dev.sec.presence = false ∧ s315.dev.fb pgWHL WHL_DBG_EN = false ∧ s315.dev.f pgWHL WHL_ATTCTL_STATE ≠ 1 ∧ s315.dev.sec.keyCmd = none) ∧
    (s316.dev.stopped = false ∧ 2 < 4 ∧ s316.fuse.sealBlown = true ∧ s316.dev.frozen = false ∧ s316.dev.hostUp 0 = true ∧ s316.dev.sec.presence = true ∧ s316.dev.sec.keyCmd = none ∧ (¬(2 ∈ s316.fuse.enrolled ∨ 2 ∈ s316.fuse.revoked)) ∧ s316.dev.fb pgWHL WHL_DBG_EN = false) ∧
    (s317.dev.stopped = false ∧ 2 < 4 ∧ s317.dev.frozen = false ∧ s317.dev.hostUp 0 = true ∧ s317.dev.sec.presence = true ∧ s317.dev.sec.keyCmd ≠ none ∧ s317.dev.sec.keyCmd = some (true, 2, h002)) ∧
    (s318.dev.stopped = false ∧ 2 < 4 ∧ s318.dev.frozen = false ∧ s318.dev.hostUp 0 = true ∧ s318.dev.f pgWHL WHL_ATTCTL_STATE = 1) ∧
    (s319.dev.stopped = false ∧ 2 < 4 ∧ s319.dev.frozen = false ∧ s319.dev.hostUp 0 = true ∧ s319.dev.fb pgWHL WHL_DBG_EN = true) ∧
    (s320.dev.stopped = false ∧ 2 < 4 ∧ s320.dev.frozen = false ∧ s320.dev.hostUp 0 = true ∧ s320.dev.sec.presence = true ∧ s320.dev.sec.keyCmd = none ∧ (2 ∈ s320.fuse.enrolled ∨ 2 ∈ s320.fuse.revoked)) ∧
    (s321.dev.stopped = false ∧ 2 < 4 ∧ s321.dev.sec.keyCmd = some (false, 2, h002)) :=
  ⟨by decide +kernel,
   by decide +kernel,
   by decide +kernel,
   by decide +kernel,
   by decide +kernel,
   by decide +kernel,
   by decide +kernel⟩

/-! ### HostReadAndWindowCommandsComplete -/

def data004 : List Byte := List.replicate 8 3
def dis001 := List.range 8
def s322 : State := ms (reg [(portReg 0 0x6B8, 2^63 + 5)])
def s323 : State := ms (sf pgWHL WHL_DBG_EN 1 0 ∘ fun d => { d with clu := [(7, { on := true })] })
def s324 : State := ms (Sec (fun c => { c with log := [List.replicate 16 7], count := 1 }))
def ws001 : List Word := List.replicate 16 7

theorem witness_HostReadAndWindowCommandsComplete :
    (s207.dev.stopped = false ∧ 7 < Config.clusters ∧ 0 < 2 ∧ 4 < 256 ∧ s207.dev.hostUp 0 = true ∧ (s207.dev.present (dieOf 7) = false ∨ s207.dev.fb pgWHL WHL_DBG_EN = false) ∧ bit (s207.dev.reg (portReg 0 (if true = true then 1736 else 1720))) 63 = false ∧ s207.dev.logEntry 0 = none ∧ 4 < 96 ∧ s207.dev.obeys = true ∧ 16384 < 2 ^ 18 ∧ 0 < 8 ∧ 8 ≤ 4096 ∧ 4 + 8 ≤ 2 ^ 34 ∧ data004.length = 8 ∧ ((s207.dev.owns 0 = true ∨ s207.dev.dwMay 0 (16384 * 2 ^ 34 + 4) 8 = true) ∧ s207.dev.resolve (16384 * 2 ^ 34 + 4) ≠ Res.aperture) ∧ (16384 * 2 ^ 34 + 4) % 256 + 8 ≤ 256 ∧ (∀ i < 8, i ∈ dis001)) ∧
    (s207.dev.stopped = false ∧ 7 < Config.clusters ∧ 0 < 2 ∧ 100 < 256 ∧ 96 ≤ 100 ∧ s207.dev.obeys = true ∧ s207.dev.hostUp 0 = true ∧ 16384 < 2 ^ 18 ∧ 0 < 8 ∧ 8 ≤ 4096 ∧ 100 + 8 ≤ 2 ^ 34 ∧ data004.length = 8 ∧ ((s207.dev.owns 0 = true ∨ s207.dev.dwMay 0 (16384 * 2 ^ 34 + 100) 8 = true) ∧ s207.dev.resolve (16384 * 2 ^ 34 + 100) ≠ Res.aperture) ∧ (16384 * 2 ^ 34 + 100) % 256 + 8 ≤ 256 ∧ rs001 = []) ∧
    (s207.dev.obeys = true ∧ s207.dev.hostUp 0 = true ∧ 262143 < 2 ^ 18 ∧ 0 < 8 ∧ 8 ≤ 4096 ∧ 17179869176 + 8 ≤ 2 ^ 34 ∧ data004.length = 8 ∧ (¬((s207.dev.owns 0 = true ∨ s207.dev.dwMay 0 (262143 * 2 ^ 34 + 17179869176) 8 = true) ∧ s207.dev.resolve (262143 * 2 ^ 34 + 17179869176) ≠ Res.aperture))) ∧
    (s322.dev.stopped = false ∧ 7 < Config.clusters ∧ 0 < 2 ∧ 4 < 256 ∧ s322.dev.hostUp 0 = true ∧ bit (s322.dev.reg (portReg 0 (if false = true then 1736 else 1720))) 63 = true) ∧
    (s323.dev.stopped = false ∧ 7 < Config.clusters ∧ 0 < 2 ∧ 4 < 256 ∧ s323.dev.hostUp 0 = true ∧ s323.dev.present (dieOf 7) = true ∧ s323.dev.fb pgWHL WHL_DBG_EN = true) ∧
    (s324.dev.stopped = false ∧ 7 < Config.clusters ∧ 0 < 2 ∧ 4 < 256 ∧ s324.dev.hostUp 0 = true ∧ s324.dev.logEntry 0 = some ws001) :=
  ⟨by decide +kernel,
   by decide +kernel,
   by decide +kernel,
   by decide +kernel,
   by decide +kernel,
   by decide +kernel⟩

/-! ### EventCommandsComplete -/

def c005 : Cls := .whl
def s325 : State := ms (reg [(0x400020, 2^5)] ∘ sf pgWHL WHL_OWN_OWNER 2 0)
def c006 : Cls := .part
def s326 : State := ms (fun d => { d with ports := [(0, { up := true, memOn := true, pba := [70], msixOn := true })] })

theorem witness_EventCommandsComplete :
    (s207.dev.stopped = false ∧ 0 < 192 ∧ 1 < 4 ∧ 5 < 64 ∧ 70 < 256 ∧ 0 < 16384 ∧ s207.dev.hostUp 0 = true ∧ 70 ∉ (s207.dev.hp 0).pba ∧ s207.dev.frozen = false ∧ s207.dev.pageOn c005 0 = true ∧ (c005, 0) ≠ (Cls.rtr, 511) ∧ 0 < nevt c005 0 ∧ pageOf (barPage 0 + 32) = (c005, 0, 32) ∧ pageOf (barPage 0 + 48) = (c005, 0, 48) ∧ s207.dev.owns 0 = true ∧ pageOf (barPage 0 + 16) = (c005, 0, 16)) ∧
    (s325.dev.stopped = false ∧ 0 < 192 ∧ 1 < 4 ∧ 5 < 64 ∧ 70 < 256 ∧ 1024 < 16384 ∧ s325.dev.frozen = false ∧ s325.dev.hostUp 0 = true ∧ s325.dev.pageOn c006 0 = true ∧ (c006, 0) ≠ (Cls.rtr, 511) ∧ 0 < nevt c006 0 ∧ pageOf (barPage 1024 + 48) = (c006, 0, 48) ∧ s325.dev.owns 0 = false) ∧
    (s326.dev.stopped = false ∧ 0 < 192 ∧ 1 < 4 ∧ 5 < 64 ∧ 70 < 256 ∧ 0 < 16384 ∧ s326.dev.hostUp 0 = true ∧ 70 ∈ (s326.dev.hp 0).pba ∧ (s326.dev.hp 0).msixOn = true) :=
  ⟨by decide +kernel,
   by decide +kernel,
   by decide +kernel⟩

/-! ### HostPortCommandsComplete -/


theorem witness_HostPortCommandsComplete :
    (s207.dev.stopped = false ∧ 0 < 2 ∧ 1 ≤ 5 ∧ 5 ≤ 5 ∧ 16 ∈ [1, 2, 4, 8, 16] ∧ 0 < 8 ∧ 0 + 8 ≤ 2 ^ 26 ∧ 3 < 4 ∧ (s207.dev.hp 0).up = true ∧ s207.dev.hostUp 0 = true ∧ barAllowed 0 8 = true ∧ leaderRing 0 true = false ∧ 0 < 2 ^ 26 ∧ leaderRing 0 false = true) ∧
    (s207.dev.stopped = false ∧ 0 < 2 ∧ 1 ≤ 5 ∧ 5 ≤ 5 ∧ 16 ∈ [1, 2, 4, 8, 16] ∧ 0 < 8 ∧ 4198404 + 8 ≤ 2 ^ 26 ∧ 3 < 4 ∧ s207.dev.hostUp 0 = true ∧ barAllowed 4198404 8 = false) ∧
    (s207.dev.stopped = false ∧ 0 < 2 ∧ 1 ≤ 5 ∧ 5 ≤ 5 ∧ 16 ∈ [1, 2, 4, 8, 16] ∧ 0 < 8 ∧ 1344 + 8 ≤ 2 ^ 26 ∧ 3 < 4 ∧ s207.dev.hostUp 0 = true ∧ leaderRing 1344 true = true ∧ 1344 < 2 ^ 26) ∧
    (s207.dev.stopped = false ∧ 1 < 2 ∧ 1 ≤ 5 ∧ 5 ≤ 5 ∧ 16 ∈ [1, 2, 4, 8, 16] ∧ 0 < 8 ∧ 4198400 + 8 ≤ 2 ^ 26 ∧ 3 < 4 ∧ (s207.dev.hp 1).up = false) ∧
    (s207.dev.stopped = false ∧ 0 < 2 ∧ 1 ≤ 5 ∧ 5 ≤ 5 ∧ 16 ∈ [1, 2, 4, 8, 16] ∧ 0 < 8 ∧ 67108856 + 8 ≤ 2 ^ 26 ∧ 3 < 4 ∧ s207.dev.hostUp 0 = true ∧ leaderRing 67108856 false = false ∧ 67108856 < 2 ^ 26) :=
  ⟨by decide +kernel,
   by decide +kernel,
   by decide +kernel,
   by decide +kernel,
   by decide +kernel⟩

/-! ### RegisterWritesComplete -/

def s327 : State := ms (sf pgWHL WHL_OWN_OWNER 2 0)
def s328 : State := ms (sf pgWHL WHL_GENCTL_STATE 1 0)

theorem witness_RegisterWritesComplete :
    (s207.dev.stopped = false ∧ s207.dev.hostUp 0 = true ∧ 5 < Config.partitions ∧ 7 < 8 ∧ 4198401 < 2 ^ 26 ∧ 4198401 % 8 ≠ 0 ∧ s207.dev.frozen = false ∧ s207.dev.owns 0 = true ∧ s207.dev.f pgWHL WHL_GENCTL_STATE = 0) ∧
    (s327.dev.stopped = false ∧ s327.dev.hostUp 0 = true ∧ 5 < Config.partitions ∧ 7 < 8 ∧ s327.dev.frozen = false ∧ s327.dev.owns 0 = false) ∧
    (s304.dev.stopped = false ∧ s304.dev.hostUp 0 = true ∧ 5 < Config.partitions ∧ 7 < 8 ∧ s304.dev.frozen = true) ∧
    (s207.dev.stopped = false ∧ s207.dev.hostUp 0 = true ∧ 5 < Config.partitions ∧ 7 < 8 ∧ 458752 < 2 ^ 26 ∧ 458752 % 8 = 0 ∧ (pageOf 458752).1 = Cls.none) ∧
    (s328.dev.stopped = false ∧ s328.dev.hostUp 0 = true ∧ 5 < Config.partitions ∧ 7 < 8 ∧ s328.dev.frozen = false ∧ s328.dev.owns 0 = true ∧ s328.dev.f pgWHL WHL_GENCTL_STATE ≠ 0) :=
  ⟨by decide +kernel,
   by decide +kernel,
   by decide +kernel,
   by decide +kernel,
   by decide +kernel⟩

end Sys2Proof.Tests
end

section
/-!
The shape of every command: what an instruction answers is one of the four forms of `State.run`, under the operands' check
that `Instr.wellFormed` states, and a frozen panel obeys exactly the commands that `actsFrozen` lists.
-/

namespace Sys2Proof.Machine

/-- The answer of a command whose operands exist when `ok` holds; `fz`: a frozen panel obeys it (R423). -/
inductive Shaped (s : State) (ok : Bool) : (fz : Bool) → Host.Outcome State Fault Refusal → Prop
  | run (f : Fuses → Dev → Dev) : Shaped s ok false (s.run ok f)
  | runAll (g : Fuses → Dev → Fuses × Dev) : Shaped s ok false (s.runAll ok g)
  | runFrozen (f : Fuses → Dev → Dev) : Shaped s ok true (s.runFrozen ok f)
  | runAllFrozen (g : Fuses → Dev → Fuses × Dev) : Shaped s ok true (s.runAllFrozen ok g)

/-- The opcode field is all of a command word above bit 119. -/
theorem opcOf_eq_div (w : Cmd) : opcOf w = w.toNat / 2 ^ 120 := by
  have hw := w.isLt
  simp only [opcOf, fld, Nat.shiftRight_eq_div_pow]
  omega

/-- The code field is all of a message word above bit 55. -/
theorem fld_code_eq_div (w0 : Word) : fld w0 63 56 = w0.toNat / 2 ^ 56 := by
  have hw := w0.isLt
  simp only [fld, Nat.shiftRight_eq_div_pow]
  omega

theorem seqRow_shaped (opc p : Nat) (w : Cmd) (s : State) : Shaped s (opcodeIs opc p w) false (seqRow opc p w s) := by
  have hok : opcodeIs opc p w = (decide (p < Config.clusters) && (opcOf w = opc || !assignedOpc (opcOf w))) := by
    rw [opcOf_eq_div]; rfl
  rw [hok]
  exact .run _

theorem msgRow_shaped (code : Nat) (src w0 w1 : Word) (s : State) (act : Dev → Nat → Nat → Nat → Nat × Dev) :
    Shaped s (messageIs code src w0) false (msgRow code src w0 w1 s act) := by
  have hok : messageIs code src w0 = decide (fld w0 63 56 = code ∧ src.toNat < 4096) := by
    rw [fld_code_eq_div]; rfl
  rw [hok]
  exact .run _

/-- The endpoints with memory are the memory base dies and the I/O dies. -/
theorem isMB_or_isIOD (e : Nat) : (isMB e || isIOD e) = decide (112 ≤ e ∧ e < 184) := by
  simp only [isMB, isIOD, ← Bool.decide_or, decide_eq_decide]
  omega

theorem execMemPatrolScrub_shaped (e first count : Nat) (uncorr corr : List Nat) (stack retries : Nat) (s : State) :
    Shaped s (decide (112 ≤ e ∧ e < 184)) false (execMemPatrolScrub e first count uncorr corr stack retries s) := by
  rw [← isMB_or_isIOD]
  exact .run _

theorem skRow_shaped (sop i : Nat) (s : State) : Shaped s true false (skRow sop i s) := .run _

theorem execDataWindowAccess_shaped (port : Nat) (wr : Bool) (base off len : Nat) (data : List Byte) (dis : List Nat)
    (s : State) : Shaped s (windowIs port base off (if wr then data.length else len)) false
      (execDataWindowAccess port wr base off len data dis s) := by
  unfold execDataWindowAccess
  exact .run _

/-- Every command but the hardware stage has one of the four shapes. -/
theorem exec_shaped (c : Instr) (s : State) (hc : ∀ a b, c ≠ .hardwareStage a b) :
    Shaped s c.wellFormed (actsFrozen c) (exec c s) := by
  delta exec
  cases c with
  | hardwareStage a b => exact absurd rfl (hc a b)
  | nop | halt | br | call | ret | loop | bsk | ldi | addi | alu | lds | sts | gets | skslot | skop | dstart | dstop | tmma
  | tdrain | texport | twin | vld | vst | vop | vfn | vred | put | get | atom | notice => exact seqRow_shaped ..
  | start | done | commit | abort | fault | fence | swap | probation | beat | takeover | newstby | remap | remapdone | ack
  | bundle | ftbl | fflip | fsweep | fresid => exact msgRow_shaped ..
  | skeinRead | skeinAdd | skeinWaitGe | skeinAcquire | skeinSet | skeinArrive => exact skRow_shaped ..
  | memPatrolScrub => exact execMemPatrolScrub_shaped ..
  | dataWindowAccess => exact execDataWindowAccess_shaped ..
  | bootMemoryTrain | fuseOvr | fuseAdd => exact .runAll _
  | keycmdDone | sealLoopOpen | registerWrite => exact .runAllFrozen _
  | rtrTblDataRead | fabricBeaconSend | fabricBeaconReceive | domainHoldover | refEdgeLoss | holdoverStop | replicaStretch
  | rstepWindow | rstepDecay | gtBeaconSend | gtBeaconReceive | gtBeaconMissing | freqArm | railRampStart | freqApply
  | freqSwitchDone | inputUndervoltage | inputCriticalStop | hankPowerOnDone | hankSwitchOff | hankShort | hankThermalTrip
  | headerSwitchStaged | budgetDivide | hankNcapEval | issueRampStep | hotspotSense | telemetryPublish | coolantCritical
  | connectionMonitor | thermalForecast | thermalCycleCount | panelReset | panelFreeze | ownCas | ownRenew | ownForce
  | ownLeaseExpiry | attDone | attWordRead | logdataRead | accLoRead | sknValueRead | presenceAssertHeld | presenceRelease
  | eventSummaryPropagate | vpendClear | mgtTimeout | bar0BadAccess | hpLinkDown | hpLinkUp | hpPerst | identityBusRead
  | referenceEdgeReturn | undervoltageClear | msixVectorUnmask => exact .runFrozen _
  | _ => exact .run _

/-- A stopped panel stays as it is, whatever the shape. -/
theorem Shaped.eq_next_of_stopped {s : State} {fz : Bool} {o : Host.Outcome State Fault Refusal} (h : Shaped s true fz o)
    (hs : s.dev.stopped = true) : o = .next s := by
  cases h with
  | run f => exact State.run_stopped s f hs
  | runAll g => exact State.runAll_stopped s g hs
  | runFrozen f => exact State.runFrozen_stopped s f hs
  | runAllFrozen g => exact State.runAllFrozen_stopped s g hs

end Sys2Proof.Machine
end

section
/-!
The 12 V input (R366): the limit of undervoltage on Peff, the event, and the stop.
-/

open Sys2Proof Sys2Proof.Machine

namespace Sys2Proof.Machine

variable (d : Dev) (fu : Fuses)

/-! Events that stand. -/

/-- An event stands once it has arisen. -/
theorem Dev.caused_ev_same (pg b : Nat) (hb : b < 64) : (d.ev pg b).caused pg b := by
  rw [Dev.caused, Dev.reg_ev_same, bit, BitVec.getLsbD_or, BitVec.getLsbD_ofNat, Nat.testBit_two_pow_self]
  simp [hb]

/-- An event leaves those of its page that stand. -/
theorem Dev.caused_ev {pg b : Nat} (b' : Nat) (h : d.caused pg b) : (d.ev pg b').caused pg b := by
  simp only [Dev.caused, bit] at h
  simp [Dev.caused, bit, Dev.reg_ev_same, h]

/-- Writing a field outside EVT_CAUSE leaves the events that stand. -/
theorem Dev.caused_setf {pg b : Nat} (pg' : Nat) (x : Fld) (v i : Nat) (ha : pg' + x.off + i * x.stride ≠ pg + 0x20) :
    (d.setf pg' x v i).caused pg b ↔ d.caused pg b := by
  rw [Dev.caused, Dev.caused, Dev.reg_setf_other d pg' x v i _ ha]

/-! Peff. -/

/-- A fold that never rises, and at one entry of its list falls to `x` or below, ends at most at `x`. -/
theorem foldl_le_of_mem {α : Type} {f : Nat → α → Nat} {l : α} {x : Nat} (hf : ∀ a k, f a k ≤ a) (hl : ∀ a, f a l ≤ x)
    {ls : List α} (h : l ∈ ls) (a : Nat) : ls.foldl f a ≤ x := by
  obtain ⟨before, after, rfl⟩ := List.append_of_mem h
  rw [List.foldl_append, List.foldl_cons]
  exact List.foldlRecOn (motive := (· ≤ x)) after f (hl _) fun b hb k _ => (hf b k).trans hb

/-- Peff and the binding limits as an evaluation stores them, in WHL_PCAP too (R365). -/
def Dev.withPeff (d : Dev) (p lim : Nat) : Dev :=
  (Dev.setf { d with pwr := { d.pwr with peff := p } } pgWHL WHL_PCAP_EFF (p / 1000)).setf pgWHL WHL_PCAP_LIM lim

@[simp] theorem Dev.withPeff_pwr (p lim : Nat) : (d.withPeff p lim).pwr = { d.pwr with peff := p } := rfl

theorem Dev.caused_withPeff {b : Nat} (p lim : Nat) : (d.withPeff p lim).caused pgWHL b ↔ d.caused pgWHL b := by
  rw [Dev.withPeff, Dev.caused_setf _ _ _ _ _ (by decide), Dev.caused_setf _ _ _ _ _ (by decide)]
  rfl

/-- An evaluation stores a Peff that is at most every limit in force, and may raise EV_COOL_DERATE. -/
theorem Dev.evalPeff_cases : ∃ p lim, (∀ x, some x ∈ d.limits fu → p ≤ x) ∧
    (d.evalPeff fu = d.withPeff p lim ∨ d.evalPeff fu = (d.withPeff p lim).ev pgWHL EV_COOL_DERATE) := by
  refine ⟨_, _, ?_, (ite_eq_or_eq ..).symm⟩
  intro x hx
  refine foldl_le_of_mem (l := some x) ?_ ?_ hx _
  · intro a l
    cases l <;> simp
  · exact fun a => Nat.min_le_right a x

theorem Dev.evalPeff_peff_le {x : Nat} (h : some x ∈ d.limits fu) : (d.evalPeff fu).pwr.peff ≤ x := by
  obtain ⟨p, lim, hle, he | he⟩ := d.evalPeff_cases fu
  · simpa [he] using hle x h
  · simpa [he] using hle x h

@[simp] theorem Dev.evalPeff_underV : (d.evalPeff fu).pwr.underV = d.pwr.underV := by
  obtain ⟨p, lim, -, he | he⟩ := d.evalPeff_cases fu
  · simp [he]
  · simp [he]

/-- Evaluating Peff leaves the events of the WHL page that stand. -/
theorem Dev.caused_evalPeff {b : Nat} (h : d.caused pgWHL b) : (d.evalPeff fu).caused pgWHL b := by
  obtain ⟨p, lim, -, he | he⟩ := d.evalPeff_cases fu
  · rwa [he, Dev.caused_withPeff]
  · rw [he]
    exact Dev.caused_ev _ _ ((d.caused_withPeff p lim).mpr h)

/-- At undervoltage 2,105 A at the measured input voltage is a limit in force. -/
theorem Dev.underV_mem_limits (h : d.pwr.underV = true) : some (2105 * d.f pgWHL WHL_PIN_MV) ∈ d.limits fu := by
  simp [Dev.limits, h]

/-! The commands of the input. -/

/-- What an undervoltage does before Peff is evaluated: the event, the flag and the voltage read. -/
def Dev.undervolted (d : Dev) (mv : Nat) : Dev :=
  { d.ev pgWHL EV_PWR_UV with pwr := { (d.ev pgWHL EV_PWR_UV).pwr with underV := true } }.setf pgWHL WHL_PIN_MV mv

theorem Dev.caused_undervolted (mv : Nat) : (d.undervolted mv).caused pgWHL EV_PWR_UV :=
  (Dev.caused_setf _ _ _ _ _ (by decide)).mpr (Dev.caused_ev_same d _ _ (by decide))

theorem Dev.undervolted_mv {mv : Nat} (h : mv < 65536) : (d.undervolted mv).f pgWHL WHL_PIN_MV = mv :=
  (Dev.f_setf_same _ _ _ _ _ (by decide) (by decide)).trans (Nat.mod_eq_of_lt h)

@[simp] theorem Dev.undervolted_underV (mv : Nat) : (d.undervolted mv).pwr.underV = true := rfl

theorem inputUndervoltage_answers {s : State} {mv : Nat} (hs : s.dev.stopped = false) (hmv : mv < 11400)
    (hu : s.dev.pwr.underV = false) : Answers (.inputUndervoltage mv) s ((s.dev.undervolted mv).evalPeff s.fuse) := by
  show execInputUndervoltage mv s = _
  rw [execInputUndervoltage, State.runFrozen_obeys s _ hs]
  simp only [hmv, hu, if_true, Bool.false_eq_true, if_false, Dev.undervolted]

theorem inputCriticalStop_answers {s : State} {mv : Nat} (hs : s.dev.stopped = false) (hmv : mv < 10800 ∨ 13000 < mv) :
    Answers (.inputCriticalStop mv) s { stopped := true } := by
  show execInputCriticalStop mv s = _
  rw [execInputCriticalStop, State.runFrozen_obeys s _ hs, if_pos hmv]

/-- With no command waiting, one clock cycle passes. -/
theorem step_nil {s : State} (h : s.pending = []) : step s = .next { s with dev := s.dev.tick } := by rw [step, h]

/-- A stopped panel's clock does not run. -/
theorem Dev.tick_stopped (h : d.stopped = true) : d.tick = d := by simp [Dev.tick, h]

end Sys2Proof.Machine

/-- Settles O4: the undervoltage limit is one that Peff obeys, and a stopped panel stays as it is under each of the shapes a
command can have. That no command but the hardware stage acts then is log entry 16. -/
theorem voltageLimitsBindAndStop : Obligations.VoltageLimitsBindAndStop := by
  refine ⟨fun s mv hs => ⟨fun hmv hu => ?_, inputCriticalStop_answers hs⟩, fun c s hs hw hc => ?_, fun s hs hp => ?_⟩
  · have hpeff := Dev.evalPeff_peff_le _ s.fuse ((s.dev.undervolted mv).underV_mem_limits s.fuse rfl)
    rw [Dev.undervolted_mv _ (by omega)] at hpeff
    exact ⟨_, inputUndervoltage_answers hs hmv hu, Dev.caused_evalPeff _ _ (Dev.caused_undervolted ..), by simp, hpeff⟩
  · have hshape := exec_shaped c s hc
    rw [hw] at hshape
    exact hshape.eq_next_of_stopped hs
  · rw [step_nil hp, Dev.tick_stopped _ hs]

end

section
/-!
Host writes of the WHL page (R459 to R461): the register a write reaches, the fields it stores and the actions it accepts, and
what chains of field writes leave as they were.
-/

open Sys2Proof Sys2Proof.Machine

namespace Sys2Proof.Machine

variable {d e : Dev}

/-! Panels that differ in registers only. -/

theorem Dev.regsOnly.refl (as : List Nat) : d.regsOnly d as := ⟨rfl, fun _ _ => rfl⟩

theorem Dev.regsOnly.mono {as bs : List Nat} (h : d.regsOnly e as) (hab : as ⊆ bs) : d.regsOnly e bs :=
  ⟨h.1, fun a ha => h.2 a (fun hm => ha (hab hm))⟩

theorem Dev.regsOnly.setReg {as : List Nat} (h : d.regsOnly e as) {a : Nat} (v : Word) (ha : a ∈ as) :
    d.regsOnly (e.setReg a v) as := by
  obtain ⟨heq, hreg⟩ := h
  refine ⟨?_, fun b hb => ?_⟩
  · rw [heq]
    rfl
  · rw [Dev.reg_setReg_other _ _ (by rintro rfl; exact hb ha), hreg b hb]

theorem Dev.regsOnly.setf {as : List Nat} (h : d.regsOnly e as) {pg : Nat} {x : Fld} (v : Nat) {i : Nat}
    (ha : pg + x.off + i * x.stride ∈ as) : d.regsOnly (e.setf pg x v i) as := h.setReg _ ha

theorem Dev.regsOnly.ev {as : List Nat} (h : d.regsOnly e as) {pg : Nat} (b : Nat) (ha : pg + 0x20 ∈ as) :
    d.regsOnly (e.ev pg b) as := h.setReg _ ha

/-- A field of a register that is not listed reads as before. -/
theorem Dev.regsOnly.f_eq {as : List Nat} (h : d.regsOnly e as) {pg : Nat} {x : Fld} {i : Nat}
    (ha : pg + x.off + i * x.stride ∉ as) : e.f pg x i = d.f pg x i := by
  rw [Dev.f, Dev.f, h.2 _ ha]

/-! Bits of a word. -/

theorem fld_ofNat (n hi lo : Nat) : fld (BitVec.ofNat 64 n) hi lo = n % 2 ^ 64 / 2 ^ lo % 2 ^ (hi + 1 - lo) := by
  rw [fld, BitVec.toNat_ofNat, Nat.shiftRight_eq_div_pow]

@[simp] theorem bit_zero (i : Nat) : bit (0#64) i = false := BitVec.getLsbD_zero

/-- A one-bit field that takes a word's bit reads as that bit. -/
theorem bit_setFld_fld_same (w v : Word) {i : Nat} (hi : i < 64) : bit (setFld w i i (fld v i i)) i = bit v i := by
  rw [bit, getLsbD_setFld, if_pos (by omega), testBit_fld]
  simp [bit]

theorem bit_setFld_other (w : Word) {hi lo : Nat} (v : Nat) {i : Nat} (h : i < lo ∨ hi < i) :
    bit (setFld w hi lo v) i = bit w i := by
  rw [bit, getLsbD_setFld, if_neg (by omega), bit]

/-- An action bit that is not written is 0. -/
theorem fld_eq_zero_iff_bit (v : Word) (i : Nat) : fld v i i = 0 ↔ bit v i = false := by
  have hb := testBit_fld v i i 0
  have hlt := fld_lt v i i
  rw [show i + 1 - i = 1 by omega] at hb hlt
  rw [bit]
  rcases (by omega : fld v i i = 0 ∨ fld v i i = 1) with h0 | h1
  · simpa [h0] using hb.symm
  · simpa [h1] using hb

/-! Writes of WHL registers. -/

theorem Dev.port_lt_of_hostUp {port : Nat} (hup : d.hostUp port = true) : port < 2 := by
  simp only [Dev.hostUp, Bool.and_eq_true, decide_eq_true_eq] at hup
  exact hup.1.1

/-- The write of a WHL register that stands open to the port stores its fields: the port is up, the register is one that a frozen
panel takes too or the panel is not frozen (R463), it is not shut, staged or handed a reserved code. -/
theorem Dev.hostWrite_whl {port a o : Nat} {r : RegDef} {v : Word} (hpage : pageOf a = (.whl, 0, o))
    (hdef : regDef? .whl 0 o = some (r, 0)) (ho : 0x80 ≤ o) (hcopy : r.perPort = false) (hstage : isStaged a = false)
    (hup : d.hostUp port = true) (hfz : d.frozen = false ∨ o = 0x540 ∨ o = 0x548) (hshut : d.shut port r = false)
    (hcode : reservedCode .whl o v = false) : d.hostWrite port a v = d.writeFields port a r v := by
  have hreg : d.regAt a = some r := by
    simp [Dev.regAt, hpage, hdef, Dev.pageOn, pageEp, Nat.not_lt.mpr ho]
  have hopen : ¬ (d.frozen = true ∧ ¬ o = 0x540 ∧ ¬ o = 0x548) := by
    rintro ⟨hf, h540, h548⟩
    simp [hf, h540, h548] at hfz
  simpa [Dev.hostWrite, hup, hreg, hpage, hshut, Dev.genHeld, hstage, hcode, portCopy, hcopy] using
    fun hf h540 h548 => absurd ⟨hf, h540, h548⟩ hopen

/-! The measurement log, which holds no register. -/

@[simp] theorem Dev.rwpLog_f (off : Nat) (v : Word) (pg : Nat) (x : Fld) (i : Nat) : (d.rwpLog off v).f pg x i = d.f pg x i := rfl

theorem Dev.caused_rwpLog (off : Nat) (v : Word) (pg b : Nat) : (d.rwpLog off v).caused pg b ↔ d.caused pg b := Iff.rfl

/-- Fields of equal registers are equal. -/
theorem Dev.f_congr (h : e.regs = d.regs) (pg : Nat) (x : Fld) (i : Nat) : e.f pg x i = d.f pg x i := by
  simp only [Dev.f, Dev.reg, h]

end Sys2Proof.Machine
end

section
/-!
Control ownership (R432): CAS, RENEW and FORCE of WHL_OWN, and the lease.
-/

open Sys2Proof Sys2Proof.Machine

namespace Sys2Proof.Machine

variable {d : Dev} {port expect new : Nat}

/-! A write of WHL_OWN. -/

/-- WHL_OWN with EXPECT and NEW stored. -/
def Dev.ownFields (d : Dev) (expect new : Nat) : Dev := (d.setf pgWHL WHL_OWN_EXPECT expect).setf pgWHL WHL_OWN_NEW new

theorem Dev.regsOnly_ownFields : d.regsOnly (d.ownFields expect new) [pgWHL + 0x548] :=
  ((Dev.regsOnly.refl _).setf _ (by decide)).setf _ (by decide)

@[simp] theorem Dev.ownFields_owner : (d.ownFields expect new).f pgWHL WHL_OWN_OWNER = d.f pgWHL WHL_OWN_OWNER := by
  simp (disch := decide) [Dev.ownFields, Dev.f_setf_bits]

@[simp] theorem Dev.ownFields_expired : (d.ownFields expect new).fb pgWHL WHL_OWN_EXPIRED = d.fb pgWHL WHL_OWN_EXPIRED := by
  simp (disch := decide) [Dev.ownFields, Dev.fb, Dev.f_setf_bits]

@[simp] theorem Dev.ownFields_owns : (d.ownFields expect new).owns port = d.owns port := by
  simp [Dev.owns]

theorem Dev.hostWrite_own_eq {v : Word} (hup : d.hostUp port = true) (hx : fld v 59 58 ≠ 3) (hn : fld v 57 56 ≠ 3) :
    d.hostWrite port (pgWHL + 0x548) v = d.writeFields port (pgWHL + 0x548) WHL_OWN v :=
  Dev.hostWrite_whl (o := 0x548) (by decide) (by decide) (by decide) rfl (by decide) hup (.inr (.inr rfl))
    (by simp [Dev.shut, WHL_OWN]) (by simp [reservedCode, hx, hn])

/-- A write of WHL_OWN that asks for no FORCE, or for one under presence, is taken with its actions. -/
theorem Dev.hostWrite_own {v : Word} (hup : d.hostUp port = true) (hx : fld v 59 58 ≠ 3) (hn : fld v 57 56 ≠ 3)
    (hf : bit v 53 = true → d.sec.presence = true) : ∃ acts,
      d.hostWrite port (pgWHL + 0x548) v = ⟨d.ownFields (fld v 59 58) (fld v 57 56), acts, true⟩ ∧
      bit acts 55 = bit v 55 ∧ bit acts 54 = bit v 54 ∧ bit acts 53 = bit v 53 := by
  rw [Dev.hostWrite_own_eq hup hx hn]
  have h53 := fld_eq_zero_iff_bit v 53
  cases hb : bit v 53 with
  | false => simp [Dev.writeFields, WHL_OWN, Wr.none, h53, hb, Dev.ownFields, Dev.setf, bit_setFld_fld_same, bit_setFld_other]
  | true => simp [Dev.writeFields, WHL_OWN, Wr.none, h53, hb, hf, Dev.ownFields, Dev.setf, bit_setFld_fld_same, bit_setFld_other]

/-- Without presence FORCE is refused and the rest of the write taken (R449). -/
theorem Dev.hostWrite_own_force {v : Word} (hup : d.hostUp port = true) (hx : fld v 59 58 ≠ 3) (hn : fld v 57 56 ≠ 3)
    (hf : bit v 53 = true) (hp : d.sec.presence = false) : ∃ acts,
      d.hostWrite port (pgWHL + 0x548) v =
        ⟨((d.ownFields (fld v 59 58) (fld v 57 56)).ev pgWHL EV_PRES_DENIED).ownResult ST_DENIED, acts, true⟩ ∧
      bit acts 55 = bit v 55 ∧ bit acts 54 = bit v 54 ∧ bit acts 53 = false := by
  rw [Dev.hostWrite_own_eq hup hx hn]
  have h53 := fld_eq_zero_iff_bit v 53
  have hpage : pageOf 1352 = (.whl, 0, 0x548) := by decide
  simp [Dev.writeFields, WHL_OWN, Wr.none, h53, hf, hp, hpage, Dev.deny, resultFld, Dev.ownFields, Dev.setf, Dev.ownResult,
    bit_setFld_fld_same, bit_setFld_other]

/-! What the actions come to. -/

/-- The word of a write of WHL_OWN with one action. -/
def ownWordOf (expect new b : Nat) : Word := BitVec.ofNat 64 (expect * 2 ^ 58 + new * 2 ^ 56 + 2 ^ b)

theorem ownWordOf_expect {b : Nat} (he : expect < 3) (hn : new < 3) (hb : b < 56) : fld (ownWordOf expect new b) 59 58 = expect := by
  have := Nat.pow_lt_pow_right (a := 2) (by decide) hb
  rw [ownWordOf, fld_ofNat]
  generalize 2 ^ b = x at *
  omega

theorem ownWordOf_new {b : Nat} (hn : new < 3) (hb : b < 56) : fld (ownWordOf expect new b) 57 56 = new := by
  have := Nat.pow_lt_pow_right (a := 2) (by decide) hb
  rw [ownWordOf, fld_ofNat]
  generalize 2 ^ b = x at *
  omega

/-- Below EXPECT and NEW the word has the bit of its action only. -/
theorem bit_ownWordOf {b i : Nat} (hb : b < 56) (hi : i < 56) : bit (ownWordOf expect new b) i = decide (i = b) := by
  have hhigh : expect * 2 ^ 58 + new * 2 ^ 56 + 2 ^ b = 2 ^ 56 * (expect * 4 + new) + 2 ^ b := by ring
  rw [bit, ownWordOf, BitVec.getLsbD_ofNat, hhigh,
    Nat.testBit_two_pow_mul_add _ (Nat.pow_lt_pow_right (by decide) hb), if_pos hi, Nat.testBit_two_pow]
  simp [eq_comm, hi.trans (by decide : 56 < 64)]

theorem Dev.ownWord_eq (b : Nat) : d.ownWord b = ownWordOf (d.f pgWHL WHL_OWN_EXPECT) (d.f pgWHL WHL_OWN_NEW) b := rfl

/-- A write of WHL_OWN with one action, when no FORCE is refused: EXPECT and NEW are stored and the action has its effect. -/
theorem Dev.ownWrite_eq {b : Nat} (hup : d.hostUp port = true) (he : expect < 3) (hn : new < 3) (hb : b < 56)
    (hf : b = 53 → d.sec.presence = true) : d.ownWrite port (ownWordOf expect new b) =
      if b = 55 then (d.ownFields expect new).ownCas port expect new
      else if b = 54 then (d.ownFields expect new).ownRenew port
      else if b = 53 then (d.ownFields expect new).ownForce port (ownWordOf expect new b)
      else d.ownFields expect new := by
  have hx := ownWordOf_expect (new := new) he hn hb
  have hw := ownWordOf_new (expect := expect) hn hb
  have hbit : ∀ i, i < 56 → bit (ownWordOf expect new b) i = decide (i = b) := fun i hi => bit_ownWordOf hb hi
  obtain ⟨acts, hwr, h55, h54, h53⟩ := Dev.hostWrite_own (v := ownWordOf expect new b) hup (by omega) (by omega)
    (fun h => hf (by simpa [hbit, eq_comm] using h))
  rw [hbit _ (by decide)] at h55 h54 h53
  simp only [Dev.ownWrite, Dev.onWrite, hwr, hx, hw, h55, h54, h53, if_true, decide_eq_true_eq, eq_comm (a := b)]
  split
  · next h => simp [← h]
  · split
    · next h => simp [← h]
    · rfl

theorem Dev.ownWrite_force_refused (hup : d.hostUp port = true) (he : expect < 3) (hn : new < 3) (hp : d.sec.presence = false) :
    d.ownWrite port (ownWordOf expect new 53) = ((d.ownFields expect new).ev pgWHL EV_PRES_DENIED).ownResult ST_DENIED := by
  have hb : 53 < 56 := by decide
  have hx := ownWordOf_expect (new := new) he hn hb
  have hw := ownWordOf_new (expect := expect) hn hb
  obtain ⟨acts, hwr, h55, h54, h53⟩ := Dev.hostWrite_own_force (v := ownWordOf expect new 53) hup (by omega) (by omega)
    (by simp [bit_ownWordOf]) hp
  rw [bit_ownWordOf hb (by decide)] at h55 h54
  simp [Dev.ownWrite, Dev.onWrite, hwr, hx, hw, h55, h54, h53]

/-! Owner and lease. -/

/-- The panel `e` is `d` with a new lease of owner `o`, and RESULT OK. -/
def Dev.leasedTo (d e : Dev) (o : Nat) : Prop :=
  e.f pgWHL WHL_OWN_OWNER = o ∧ e.f pgWHL WHL_OWN_RESULT = ST_OK ∧ e.fb pgWHL WHL_OWN_EXPIRED = false ∧
    e = { d with regs := e.regs, sec := { d.sec with leaseEnd := d.gt + LEASE } }

theorem Dev.ownResult_result (st : Nat) (h : st < 16) : (d.ownResult st).f pgWHL WHL_OWN_RESULT = st :=
  (Dev.f_setf_same _ _ _ _ _ (by decide) (by decide)).trans (Nat.mod_eq_of_lt h)

theorem Dev.ownResult_owner (st : Nat) : (d.ownResult st).f pgWHL WHL_OWN_OWNER = d.f pgWHL WHL_OWN_OWNER :=
  Dev.f_setf_bits _ _ _ _ _ _ _ (by decide) (by decide)

theorem Dev.ownResult_expired (st : Nat) : (d.ownResult st).fb pgWHL WHL_OWN_EXPIRED = d.fb pgWHL WHL_OWN_EXPIRED := by
  rw [Dev.fb, Dev.ownResult, Dev.f_setf_bits _ _ _ _ _ _ _ (by decide) (by decide)]
  rfl

theorem Dev.caused_ownResult {b : Nat} (st : Nat) : (d.ownResult st).caused pgWHL b ↔ d.caused pgWHL b :=
  Dev.caused_setf _ _ _ _ _ (by decide)

/-- A change of owner with its lease: OWNER, EXPIRED and the lease's end; what else it writes is the event of a change. -/
def Dev.ownerSet (d : Dev) (o : Nat) : Dev :=
  { (d.setf pgWHL WHL_OWN_OWNER o).setf pgWHL WHL_OWN_EXPIRED 0 with sec := { d.sec with leaseEnd := d.gt + LEASE } }

theorem Dev.setOwner_eq (o : Nat) (always : Bool) : d.setOwner o always =
    if always = true ∨ d.f pgWHL WHL_OWN_OWNER ≠ o then (d.ownerSet o).ev pgWHL EV_OWN_CHANGE else d.ownerSet o := by
  simp [Dev.setOwner, Dev.ownerSet]

theorem Dev.ownerSet_owner {o : Nat} (ho : o < 4) : (d.ownerSet o).f pgWHL WHL_OWN_OWNER = o := by
  show ((d.setf pgWHL WHL_OWN_OWNER o).setf pgWHL WHL_OWN_EXPIRED 0).f pgWHL WHL_OWN_OWNER = o
  rw [Dev.f_setf_bits _ _ _ _ _ _ _ (by decide) (by decide), Dev.f_setf_same _ _ _ _ _ (by decide) (by decide)]
  exact Nat.mod_eq_of_lt ho

theorem Dev.ownerSet_expired (o : Nat) : (d.ownerSet o).fb pgWHL WHL_OWN_EXPIRED = false := by
  show ((d.setf pgWHL WHL_OWN_OWNER o).setf pgWHL WHL_OWN_EXPIRED 0).fb pgWHL WHL_OWN_EXPIRED = false
  rw [Dev.fb, Dev.f_setf_same _ _ _ _ _ (by decide) (by decide)]
  rfl

/-- Giving the panel to a port, with RESULT OK, leases it to that port. -/
theorem Dev.leasedTo_setOwner {o : Nat} (ho : o < 4) (always : Bool) :
    d.leasedTo ((d.setOwner o always).ownResult ST_OK) o := by
  have hown : (d.setOwner o always).f pgWHL WHL_OWN_OWNER = o ∧ (d.setOwner o always).fb pgWHL WHL_OWN_EXPIRED = false := by
    rw [Dev.setOwner_eq]
    split
    · rw [Dev.fb, Dev.f_ev_other _ _ _ _ _ _ (by decide), Dev.f_ev_other _ _ _ _ _ _ (by decide)]
      exact ⟨Dev.ownerSet_owner ho, Dev.ownerSet_expired o⟩
    · exact ⟨Dev.ownerSet_owner ho, Dev.ownerSet_expired o⟩
  refine ⟨?_, Dev.ownResult_result _ (by decide), ?_, ?_⟩
  · rw [Dev.ownResult_owner, hown.1]
  · rw [Dev.ownResult_expired, hown.2]
  · rw [Dev.setOwner_eq]
    split
    · rfl
    · rfl

theorem Dev.caused_setOwner {o : Nat} {always : Bool} (h : always = true ∨ d.f pgWHL WHL_OWN_OWNER ≠ o) :
    (d.setOwner o always).caused pgWHL EV_OWN_CHANGE := by
  rw [Dev.setOwner_eq, if_pos h]
  exact Dev.caused_ev_same _ _ _ (by decide)

theorem Dev.regsOnly.leasedTo {d' e : Dev} {as : List Nat} {o : Nat} (h : d.regsOnly d' as) (hl : d'.leasedTo e o) :
    d.leasedTo e o := by
  obtain ⟨hown, hres, hexp, heq⟩ := hl
  refine ⟨hown, hres, hexp, ?_⟩
  rw [heq, h.1]

/-- A refused action on WHL_OWN leaves the owner. -/
theorem Dev.ownRefused : d.regsOnly ((d.ownFields expect new).ownResult ST_DENIED) [pgWHL + 0x548] ∧
    ((d.ownFields expect new).ownResult ST_DENIED).f pgWHL WHL_OWN_OWNER = d.f pgWHL WHL_OWN_OWNER :=
  ⟨Dev.regsOnly_ownFields.setf _ (by decide), by rw [Dev.ownResult_owner, Dev.ownFields_owner]⟩

/-- FORCE without presence leaves the owner, and its refusal is an event. -/
theorem Dev.forceRefused {e : Dev} (he : e = ((d.ownFields expect new).ev pgWHL EV_PRES_DENIED).ownResult ST_DENIED) :
    d.regsOnly e [pgWHL + 0x548, pgWHL + 0x20] ∧ e.f pgWHL WHL_OWN_OWNER = d.f pgWHL WHL_OWN_OWNER ∧
      e.f pgWHL WHL_OWN_RESULT = ST_DENIED ∧ e.caused pgWHL EV_PRES_DENIED := by
  rw [he]
  refine ⟨((Dev.regsOnly_ownFields.mono (by simp)).ev _ (by decide)).setf _ (by decide), ?_,
    Dev.ownResult_result _ (by decide), (Dev.caused_ownResult _).mpr (Dev.caused_ev_same _ _ _ (by decide))⟩
  rw [Dev.ownResult_owner, Dev.f_ev_other _ _ _ _ _ _ (by decide), Dev.ownFields_owner]

/-- What a CAS asks for (R432). -/
abbrev Dev.casMay (d : Dev) (port expect new : Nat) : Prop :=
  d.f pgWHL WHL_OWN_OWNER = expect ∧ (expect = 0 ∨ expect = port + 1 ∨ d.fb pgWHL WHL_OWN_EXPIRED = true) ∧
    (new = port + 1 ∨ d.f pgWHL WHL_OWN_OWNER = port + 1)

theorem Dev.ownFields_ownCas (port expect new : Nat) : (d.ownFields expect new).ownCas port expect new =
    if d.casMay port expect new then ((d.ownFields expect new).setOwner new false).ownResult ST_OK
    else (d.ownFields expect new).ownResult ST_DENIED := by
  simp only [Dev.ownCas, Dev.ownFields_owner, Dev.ownFields_expired, and_assoc]

/-- The registers that FORCE leaves: the new owner's, with FORCED set. -/
def Dev.forced (d : Dev) (o : Nat) : Dev := ((d.ownerSet o).ev pgWHL EV_OWN_CHANGE).setf pgWHL WHL_SECST_FORCED 1

theorem Dev.ownForce_eq (v : Word) : d.ownForce port v = ((d.forced (port + 1)).rwpLog 0x548 v).ownResult ST_OK := by
  simp [Dev.ownForce, Dev.setOwner_eq, Dev.forced]

theorem Dev.forced_f {o : Nat} {x : Fld} (hx : x.off ≠ 0x608 ∧ x.off ≠ 0x20 ∧ x.stride = 0) :
    (d.forced o).f pgWHL x = (d.ownerSet o).f pgWHL x := by
  obtain ⟨h1, h2, h3⟩ := hx
  rw [Dev.forced, Dev.f_setf_addr _ _ _ _ _ _ _ _ (by simpa using h1.symm), Dev.f_ev_other _ _ _ _ _ _ (by simpa using h2.symm)]

theorem Dev.ownForce_owner (v : Word) (hp : port < 2) : (d.ownForce port v).f pgWHL WHL_OWN_OWNER = port + 1 := by
  rw [Dev.ownForce_eq, Dev.ownResult_owner, Dev.rwpLog_f, Dev.forced_f (by decide)]
  exact Dev.ownerSet_owner (by omega)

theorem Dev.ownForce_result (v : Word) : (d.ownForce port v).f pgWHL WHL_OWN_RESULT = ST_OK := by
  rw [Dev.ownForce_eq, Dev.ownResult_result _ (by decide)]

theorem Dev.ownForce_expired (v : Word) : (d.ownForce port v).fb pgWHL WHL_OWN_EXPIRED = false := by
  rw [Dev.ownForce_eq, Dev.ownResult_expired, Dev.fb, Dev.rwpLog_f, Dev.forced_f (by decide)]
  exact Dev.ownerSet_expired _

theorem Dev.ownForce_forced (v : Word) : (d.ownForce port v).f pgWHL WHL_SECST_FORCED = 1 := by
  rw [Dev.ownForce_eq, Dev.ownResult, Dev.f_setf_addr _ _ _ _ _ _ _ _ (by decide)]
  exact Dev.f_setf_same _ _ _ _ _ (by decide) (by decide)

theorem Dev.caused_ownForce (v : Word) : (d.ownForce port v).caused pgWHL EV_OWN_CHANGE := by
  rw [Dev.ownForce_eq, Dev.caused_ownResult, Dev.caused_rwpLog, Dev.forced, Dev.caused_setf _ _ _ _ _ (by decide)]
  exact Dev.caused_ev_same _ _ _ (by decide)

/-- FORCE renews the lease and appends one entry to the log; it leaves memory and network. -/
theorem Dev.ownForce_state (v : Word) : (d.ownForce port v).sec.leaseEnd = d.gt + LEASE ∧
    (d.ownForce port v).sec.count = d.sec.count + 1 ∧ (d.ownForce port v).mem = d.mem ∧ (d.ownForce port v).net = d.net := by
  rw [Dev.ownForce_eq]
  exact ⟨rfl, rfl, rfl, rfl⟩

/-! The commands. -/

variable {s : State}

theorem ownCas_answers (hs : s.dev.stopped = false) (hup : s.dev.hostUp port = true) (he : expect < 3) (hn : new < 3) :
    Answers (.ownCas port expect new) s ((s.dev.ownFields expect new).ownCas port expect new) := by
  have hp := Dev.port_lt_of_hostUp hup
  have hok : decide (port < 2 ∧ expect < 4 ∧ new < 4) = true := by
    rw [decide_eq_true_eq]
    omega
  show execOwnCas port expect new s = _
  rw [execOwnCas, hok, State.runFrozen_obeys s _ hs, ← ownWordOf, Dev.ownWrite_eq hup he hn (by decide) (by simp), if_pos rfl]

theorem ownRenew_answers (hs : s.dev.stopped = false) (hup : s.dev.hostUp port = true)
    (he : s.dev.f pgWHL WHL_OWN_EXPECT < 3) (hn : s.dev.f pgWHL WHL_OWN_NEW < 3) :
    ∃ expect new, Answers (.ownRenew port) s ((s.dev.ownFields expect new).ownRenew port) := by
  refine ⟨s.dev.f pgWHL WHL_OWN_EXPECT, s.dev.f pgWHL WHL_OWN_NEW, ?_⟩
  show execOwnRenew port s = _
  rw [execOwnRenew, decide_eq_true (Dev.port_lt_of_hostUp hup), State.runFrozen_obeys s _ hs, Dev.ownWord_eq,
    Dev.ownWrite_eq hup he hn (by decide) (by simp), if_neg (by decide), if_pos rfl]

theorem ownForce_answers (hs : s.dev.stopped = false) (hup : s.dev.hostUp port = true)
    (he : s.dev.f pgWHL WHL_OWN_EXPECT < 3) (hn : s.dev.f pgWHL WHL_OWN_NEW < 3) :
    ∃ expect new v, Answers (.ownForce port) s (if s.dev.sec.presence = true then (s.dev.ownFields expect new).ownForce port v
      else ((s.dev.ownFields expect new).ev pgWHL EV_PRES_DENIED).ownResult ST_DENIED) := by
  refine ⟨s.dev.f pgWHL WHL_OWN_EXPECT, s.dev.f pgWHL WHL_OWN_NEW, s.dev.ownWord 53, ?_⟩
  show execOwnForce port s = _
  rw [execOwnForce, decide_eq_true (Dev.port_lt_of_hostUp hup), State.runFrozen_obeys s _ hs, Dev.ownWord_eq]
  split
  · next hpres =>
    rw [Dev.ownWrite_eq hup he hn (by decide) (fun _ => hpres), if_neg (by decide), if_neg (by decide), if_pos rfl]
  · next hpres =>
    rw [Dev.ownWrite_force_refused hup he hn (by simpa using hpres)]

theorem ownLeaseExpiry_answers (hs : s.dev.stopped = false) : Answers .ownLeaseExpiry s
    (if s.dev.f pgWHL WHL_OWN_OWNER ≠ 0 ∧ s.dev.sec.leaseEnd ≤ s.dev.gt then s.dev.setf pgWHL WHL_OWN_EXPIRED 1 else s.dev) := by
  show execOwnLeaseExpiry s = _
  rw [execOwnLeaseExpiry, State.runFrozen_obeys s _ hs]

/-- The host reads in WHL_OWN what is left of the lease (Table 14.11). -/
theorem Dev.hostRead_own_left (fu : Fuses) : fld (d.hostRead fu port (pgWHL + 0x548)) 31 0 = d.leaseLeft % 2 ^ 32 := by
  have hpage : pageOf (pgWHL + 0x548) = (.whl, 0, 0x548) := by decide
  have hread : d.hostRead fu port (pgWHL + 0x548) = d.ownView port := by
    have hdef : (regDef? .whl 0 0x548).isSome = true := by decide
    simp [Dev.hostRead, hpage, hdef, Dev.pageOn, pageEp, Dev.whlRead]
  rw [hread, Dev.ownView, fld_setFld_same _ _ _ _ (by decide) (by decide)]

/-! The panel reset. -/

/-- A write of the owner's of WHL_PRST is taken with its actions. -/
theorem Dev.hostWrite_prst {v : Word} (hup : d.hostUp port = true) (ho : d.owns port = true) : ∃ acts,
    d.hostWrite port (pgWHL + 0x540) v = ⟨d.setf pgWHL WHL_PRST_KEY (fld v 63 56), acts, true⟩ ∧ bit acts 0 = bit v 0 := by
  rw [Dev.hostWrite_whl (o := 0x540) (r := WHL_PRST) (by decide) (by decide) (by decide) rfl (by decide) hup (.inr (.inl rfl))
    (by simp [Dev.shut, ho]) rfl]
  simp [Dev.writeFields, WHL_PRST, Wr.none, ho, Dev.setf, bit_setFld_fld_same]

/-- After a panel reset nobody owns the panel (Table 14.4). -/
theorem Dev.panelReset_owner (fu : Fuses) : (d.panelReset fu).f pgWHL WHL_OWN_OWNER = 0 := by
  have hset : ∀ (x : Fld) (v : Nat) (e : Dev), x.off ≠ 0x548 → x.stride = 0 →
      (e.setf pgWHL x v).f pgWHL WHL_OWN_OWNER = e.f pgWHL WHL_OWN_OWNER := fun x v e hx hs =>
    Dev.f_setf_addr _ _ _ _ _ _ _ _ (by simpa [hs] using hx)
  have hstage (wd free : Nat) : (stageDev fu wd free).f pgWHL WHL_OWN_OWNER = 0 := by
    rw [stageDev, hset _ _ _ (by decide) rfl, hset _ _ _ (by decide) rfl]
    show fld (resetAt 0x548) 63 62 = 0
    decide
  rw [Dev.panelReset, hset _ _ _ (by decide) rfl, hset _ _ _ (by decide) rfl, hset _ _ _ (by decide) rfl,
    hset _ _ _ (by decide) rfl]
  exact (Dev.f_congr rfl _ _ _).trans (hstage _ _)

theorem panelReset_answers (hs : s.dev.stopped = false) (hup : s.dev.hostUp port = true) (ho : s.dev.owns port = true) :
    Answers (.panelReset port) s ((s.dev.setf pgWHL WHL_PRST_KEY 0xA5).panelReset s.fuse) := by
  have hkey : fld (prstWord 0) 63 56 = 0xA5 := by decide
  have hbit : bit (prstWord 0) 0 = true := by decide
  obtain ⟨acts, hw, h0⟩ := Dev.hostWrite_prst (v := prstWord 0) hup ho
  show execPanelReset port s = _
  rw [execPanelReset, decide_eq_true (Dev.port_lt_of_hostUp hup), State.runFrozen_obeys s _ hs]
  simp [Dev.prstWrite, Dev.onWrite, hw, hkey, h0, hbit]

end Sys2Proof.Machine

/-- Settles O55: each action of WHL_OWN is a write that is taken with EXPECT and NEW, and what it does then is `Dev.setOwner`
with RESULT OK, or RESULT DENIED alone. That RENEW ends EXPIRED, and when EV_OWN_CHANGE is raised, is log entry 109; that a lease
which has not run out leaves the panel is log entry 12. -/
theorem ownershipCommandsComplete : Obligations.OwnershipCommandsComplete := by
  intro s port expect new hs hup he hn d w own res expired may kept leased only
  have hp := Dev.port_lt_of_hostUp hup
  have hleft : fld (d.hostRead s.fuse port (pgWHL + 0x548)) 31 0 =
      if own d = 0 then 0 else (d.sec.leaseEnd - d.gt) / 4000 % 2 ^ 32 := by
    rw [Dev.hostRead_own_left, Dev.leaseLeft]
    split
    · rfl
    · rfl
  refine ⟨fun hmay => ?_, fun hmay => ?_, fun hkept => ⟨fun ho => ?_, fun ho => ?_, fun hpres => ?_, fun hpres => ?_⟩,
    fun hown hend => ?_, fun hlive => ?_, hleft, fun ho => ⟨_, panelReset_answers hs hup ho, Dev.panelReset_owner _⟩⟩
  · refine ⟨_, ownCas_answers hs hup he hn, ?_⟩
    rw [Dev.ownFields_ownCas, if_pos hmay]
    obtain ⟨hown, hres, hexp, heq⟩ :=
      Dev.regsOnly_ownFields.leasedTo (Dev.leasedTo_setOwner (d := d.ownFields expect new) (o := new) (by omega) false)
    refine ⟨hown, hres, ⟨hexp, by rw [heq]; rfl⟩, fun hne => ?_, heq⟩
    exact (Dev.caused_ownResult _).mpr (Dev.caused_setOwner (.inr (by rwa [Dev.ownFields_owner])))
  · refine ⟨_, ownCas_answers hs hup he hn, ?_⟩
    rw [Dev.ownFields_ownCas, if_neg hmay]
    exact ⟨Dev.ownRefused, Dev.ownResult_result _ (by decide)⟩
  · obtain ⟨x, n, hans⟩ := ownRenew_answers hs hup hkept.1 hkept.2
    refine ⟨_, hans, ?_⟩
    rw [Dev.ownRenew, Dev.ownFields_owns, if_pos ho]
    obtain ⟨hown, hres, hexp, heq⟩ :=
      Dev.regsOnly_ownFields.leasedTo (Dev.leasedTo_setOwner (d := d.ownFields x n) (o := w) (by omega) false)
    exact ⟨hown, hres, ⟨hexp, by rw [heq]; rfl⟩, heq⟩
  · obtain ⟨x, n, hans⟩ := ownRenew_answers hs hup hkept.1 hkept.2
    refine ⟨_, hans, ?_⟩
    rw [Dev.ownRenew, Dev.ownFields_owns, if_neg (Bool.eq_false_iff.mp ho)]
    exact ⟨Dev.ownRefused, Dev.ownResult_result _ (by decide)⟩
  · obtain ⟨x, n, v, hans⟩ := ownForce_answers hs hup hkept.1 hkept.2
    refine ⟨_, hans, ?_⟩
    rw [if_pos hpres]
    obtain ⟨hlease, hcount, hmem, hnet⟩ := (d.ownFields x n).ownForce_state (port := port) v
    exact ⟨Dev.ownForce_owner v hp, Dev.ownForce_result v, ⟨Dev.ownForce_expired v, hlease⟩, Dev.caused_ownForce v,
      Dev.ownForce_forced v, hcount, hmem, hnet⟩
  · obtain ⟨x, n, v, hans⟩ := ownForce_answers hs hup hkept.1 hkept.2
    refine ⟨_, hans, ?_⟩
    rw [if_neg (Bool.eq_false_iff.mp hpres)]
    exact Dev.forceRefused rfl
  · refine ⟨_, ownLeaseExpiry_answers hs, ?_⟩
    rw [if_pos ⟨hown, hend⟩]
    refine ⟨⟨(Dev.regsOnly.refl _).setf _ (by decide), Dev.f_setf_bits _ _ _ _ _ _ _ (by decide) (by decide)⟩, ?_⟩
    rw [Dev.fb, Dev.f_setf_same _ _ _ _ _ (by decide) (by decide)]
    rfl
  · have hans := ownLeaseExpiry_answers hs
    rwa [if_neg fun ⟨h0, hle⟩ => hlive.elim h0 (Nat.not_lt.mpr hle)] at hans
end

section
/-!
What a reset and a retirement of a cluster leave as they were: the registers outside the cluster's own page, and the sorted
lists and tables that the firmware commands keep.
-/

open Sys2Proof Sys2Proof.Machine

namespace Sys2Proof.Machine

/-! Repeated steps, sorted lists, filtered tables. -/

/-- What every step keeps, their repetition keeps. -/
theorem forL_keeps {α β γ : Type} (g : α → γ) {f : β → α → α} (hf : ∀ b a, g (f b a) = g a) (l : List β) (a : α) :
    g (forL l f a) = g a :=
  List.foldlRecOn (motive := fun x => g x = g a) l (fun x b => f b x) rfl fun x hx b _ => (hf b x).trans hx

theorem forN_keeps {α γ : Type} (g : α → γ) {f : Nat → α → α} (hf : ∀ i a, g (f i a) = g a) (n : Nat) (a : α) :
    g (forN n f a) = g a := forL_keeps g hf (List.range n) a

theorem mem_setIns {m : List Nat} {j x : Nat} : x ∈ setIns m j ↔ x = j ∨ x ∈ m := by
  induction m with
  | nil => simp [setIns]
  | cons k t ih =>
    rw [setIns]
    split
    · simp
    · split
      · next h => simp [h]
      · simp [ih, or_left_comm]

/-- Inserting a list of numbers one by one keeps what was there and adds every one. -/
theorem mem_foldl_setIns {l m : List Nat} {x : Nat} : x ∈ l.foldl setIns m ↔ x ∈ l ∨ x ∈ m := by
  induction l generalizing m with
  | nil => simp
  | cons j t ih =>
    rw [List.foldl_cons, ih, mem_setIns, List.mem_cons]
    tauto

/-- A table from which the keys that fail a test are removed. -/
theorem SMap.get_filter_key {α : Type} (d : α) (m : SMap α) (q : Nat → Bool) (j : Nat) :
    SMap.get d (m.filter (fun e => q e.1)) j = if q j = true then SMap.get d m j else d := by
  induction m with
  | nil => simp [SMap.get]
  | cons e t ih =>
    obtain ⟨k, u⟩ := e
    by_cases hk : q k = true
    · simp only [List.filter_cons, hk, if_true, SMap.get, ih]
      split
      · next h => rw [← h, hk, if_pos rfl]
      · rfl
    · rw [List.filter_cons_of_neg (by simpa using hk), ih]
      simp only [SMap.get]
      split
      · split
        · next hq h => exact absurd (h ▸ hq) hk
        · rfl
      · rfl

/-! Registers outside the page of a cluster that is reset. -/

variable (d : Dev) {p a : Nat}

/-- The address lies outside the register page of cluster p. -/
abbrev offPage (p a : Nat) : Prop := a < pgCLU p ∨ pgCLU p + 0x1000 ≤ a

theorem offPage_whl (p : Nat) {a : Nat} (h : a < 0x1000000) : offPage p a := .inl (by rw [pgCLU]; omega)

/-- Writing a field of a cluster's page leaves the registers outside it. -/
theorem Dev.reg_setf_offPage (x : Fld) (v : Nat) (ha : offPage p a) (hx : x.off < 0x1000 ∧ x.stride = 0) :
    (d.setf (pgCLU p) x v).reg a = d.reg a := by
  obtain ⟨hoff, hstride⟩ := hx
  refine Dev.reg_setf_other _ _ _ _ _ _ ?_
  rw [hstride]
  omega

@[simp] theorem Dev.absorb_regs (sel : Own → Bool) : (d.absorb sel).regs = d.regs := rfl
@[simp] theorem Dev.dropPly_regs (p : Nat) : (d.dropPly p).regs = d.regs := rfl
@[simp] theorem Dev.mapClu_regs (f : Clu → Clu) : (d.mapClu f).regs = d.regs := rfl

@[simp] theorem Dev.areasIdle_regs (sel : Area → Bool) : (d.areasIdle sel).regs = d.regs := by
  unfold Dev.areasIdle
  rw [forL_keeps Dev.regs]
  · rfl
  · intros
    rfl

@[simp] theorem Dev.dftAborts_regs (p n : Nat) (clear : Bool) : (forN n (fun i d => d.dftAbort p i clear) d).regs = d.regs := by
  rw [forN_keeps Dev.regs]
  intros
  rfl

theorem Dev.reg_congr {d e : Dev} (h : e.regs = d.regs) (a : Nat) : e.reg a = d.reg a := by
  rw [Dev.reg, Dev.reg, h]

theorem Dev.reg_ungate (ha : offPage p a) : (d.ungate p).reg a = d.reg a := by
  unfold Dev.ungate
  split
  · rfl
  · rw [Dev.reg_congr (Dev.updCl_regs ..), Dev.addWrap, Dev.reg_setf_offPage _ _ _ ha (by decide),
      Dev.reg_setf_offPage _ _ _ ha (by decide)]

theorem Dev.reg_seqReset (ha : offPage p a) : (d.seqReset p).reg a = d.reg a := by
  have hregs : (d.seqReset p).regs = (d.ungate p).regs := by
    unfold Dev.seqReset
    generalize d.ungate p = e
    rfl
  rw [Dev.reg_congr hregs, d.reg_ungate ha]

/-- Clearing fields of a cluster's page leaves the registers outside it. -/
theorem Dev.reg_clearFields (ha : offPage p a) {xs : List Fld} (hxs : ∀ x ∈ xs, x.off < 0x1000 ∧ x.stride = 0) :
    (forL xs (fun x d => d.setf (pgCLU p) x 0) d).reg a = d.reg a := by
  induction xs generalizing d with
  | nil => rfl
  | cons x t ih =>
    obtain ⟨hx, ht⟩ := List.forall_mem_cons.mp hxs
    exact (ih (d.setf (pgCLU p) x 0) ht).trans (d.reg_setf_offPage x 0 ha hx)

/-- A cluster reset writes registers of the cluster's own page only. -/
theorem Dev.reg_clusterReset (ha : offPage p a) : (d.clusterReset p).reg a = d.reg a := by
  rw [Dev.clusterReset, Dev.reg_congr (Dev.mapClu_regs ..), Dev.reg_setf_offPage _ _ _ ha (by decide), Dev.reg_clearFields _ ha (by decide),
    Dev.reg_congr (Dev.updCl_regs ..), Dev.reg_congr (Dev.areasIdle_regs ..), Dev.reg_congr (Dev.dropPly_regs ..),
    Dev.reg_congr (Dev.dftAborts_regs ..), Dev.reg_congr (Dev.absorb_regs ..), Dev.reg_seqReset _ ha]

/-- A cluster that holds no place of a partition is retired without a failed step: outside its own page no register changes. -/
theorem Dev.reg_retireCluster (ha : offPage p a) (hpart : d.partOf p = 15) (hlc : d.lcOf p = 0x3FF) :
    (d.retireCluster p).reg a = d.reg a := by
  have hlost : d.unitLost p (unitWord U_CLUSTER p) (pgCLU p) = d := if_pos ⟨hpart, hlc⟩
  rw [Dev.retireCluster, hlost, Dev.reg_setf_offPage _ _ _ ha (by decide), Dev.reg_setf_offPage _ _ _ ha (by decide),
    Dev.reg_setf_offPage _ _ _ ha (by decide), Dev.reg_clusterReset _ ha]

end Sys2Proof.Machine
end

section
/-!
Firmware download (R409 to R413, R441, R492): the staging buffer and the measurement.
-/

open Sys2Proof Sys2Proof.Machine

namespace Sys2Proof.Machine

variable {d : Dev} {port typ len : Nat}

/-! FSTATE and CAUSE. -/

theorem Dev.fwState_state {st : Nat} (c : Nat) (h : st < 8) : (d.fwState st c).f pgWHL WHL_FWSTAT_FSTATE = st := by
  rw [Dev.fwState, Dev.f_setf_bits _ _ _ _ _ _ _ (by decide) (by decide), Dev.f_setf_same _ _ _ _ _ (by decide) (by decide)]
  exact Nat.mod_eq_of_lt h

theorem Dev.fwState_cause (st : Nat) {c : Nat} (h : c < 16) : (d.fwState st c).f pgWHL WHL_FWSTAT_CAUSE = c :=
  (Dev.f_setf_same _ _ _ _ _ (by decide) (by decide)).trans (Nat.mod_eq_of_lt h)

theorem Dev.regsOnly.fwState {e : Dev} {as : List Nat} (h : d.regsOnly e as) (st c : Nat) (ha : pgWHL + 0x538 ∈ as) :
    d.regsOnly (e.fwState st c) as := (h.setf _ ha).setf _ ha

/-! A write of WHL_FWCTL. -/

/-- WHL_FWCTL with TYPE and LEN stored. -/
def Dev.fwFields (d : Dev) (typ len : Nat) : Dev := (d.setf pgWHL WHL_FWCTL_TYPE typ).setf pgWHL WHL_FWCTL_LEN len

theorem Dev.regsOnly_fwFields : d.regsOnly (d.fwFields typ len) [pgWHL + 0x530] :=
  ((Dev.regsOnly.refl _).setf _ (by decide)).setf _ (by decide)

@[simp] theorem Dev.fwFields_cl (q : Nat) : (d.fwFields typ len).cl q = d.cl q := rfl

theorem Dev.fwFields_f {pg : Nat} {x : Fld} {i : Nat} (h : pg + x.off + i * x.stride ≠ pgWHL + 0x530) :
    (d.fwFields typ len).f pg x i = d.f pg x i := Dev.regsOnly_fwFields.f_eq (by simpa using h)

theorem Dev.fwFields_type (h : typ < 16) : (d.fwFields typ len).f pgWHL WHL_FWCTL_TYPE = typ := by
  rw [Dev.fwFields, Dev.f_setf_bits _ _ _ _ _ _ _ (by decide) (by decide), Dev.f_setf_same _ _ _ _ _ (by decide) (by decide)]
  exact Nat.mod_eq_of_lt h

theorem Dev.fwFields_len (h : len < 2 ^ 26) : (d.fwFields typ len).f pgWHL WHL_FWCTL_LEN = len :=
  (Dev.f_setf_same _ _ _ _ _ (by decide) (by decide)).trans (Nat.mod_eq_of_lt h)

/-- A busy write of WHL_FWCTL leaves FSTATE and reads BUSY. -/
theorem Dev.fwFields_busy {e : Dev} (he : e = (d.fwFields typ len).setf pgWHL WHL_FWSTAT_CAUSE 4) :
    d.regsOnly e [pgWHL + 0x530, pgWHL + 0x538] ∧ e.f pgWHL WHL_FWSTAT_FSTATE = d.f pgWHL WHL_FWSTAT_FSTATE ∧
      e.f pgWHL WHL_FWSTAT_CAUSE = 4 := by
  rw [he]
  refine ⟨(Dev.regsOnly_fwFields.mono (by simp)).setf _ (by decide), ?_, Dev.f_setf_same _ _ _ _ _ (by decide) (by decide)⟩
  rw [Dev.f_setf_bits _ _ _ _ _ _ _ (by decide) (by decide), Dev.fwFields_f (by decide)]

/-- A write of the owner's of WHL_FWCTL is taken with its actions. -/
theorem Dev.hostWrite_fwctl {v : Word} (hup : d.hostUp port = true) (ho : d.owns port = true) (hfz : d.frozen = false)
    (ht : fld v 59 56 ≤ 3) : ∃ acts,
      d.hostWrite port (pgWHL + 0x530) v = ⟨d.fwFields (fld v 59 56) (fld v 25 0), acts, true⟩ ∧
      bit acts 63 = bit v 63 ∧ bit acts 62 = bit v 62 ∧ bit acts 61 = bit v 61 := by
  rw [Dev.hostWrite_whl (o := 0x530) (r := WHL_FWCTL) (by decide) (by decide) (by decide) rfl (by decide) hup (.inl hfz)
    (by simp [Dev.shut, ho]) (by simpa [reservedCode] using ht)]
  simp [Dev.writeFields, WHL_FWCTL, Wr.none, ho, Dev.fwFields, Dev.setf, bit_setFld_fld_same, bit_setFld_other]

/-- The word of a write of WHL_FWCTL with one action. -/
def fwWordOf (b typ len : Nat) : Word := BitVec.ofNat 64 (2 ^ b + typ * 2 ^ 56 + len)

theorem fwWordOf_type {b : Nat} (hb : 61 ≤ b ∧ b < 64) (ht : typ < 16) (hl : len < 2 ^ 26) :
    fld (fwWordOf b typ len) 59 56 = typ := by
  obtain ⟨hlo, hhi⟩ := hb
  rw [fwWordOf, fld_ofNat]
  interval_cases b
  · omega
  · omega
  · omega

theorem fwWordOf_len {b : Nat} (hb : 61 ≤ b ∧ b < 64) (hl : len < 2 ^ 26) : fld (fwWordOf b typ len) 25 0 = len := by
  obtain ⟨hlo, hhi⟩ := hb
  rw [fwWordOf, fld_ofNat]
  interval_cases b
  · omega
  · omega
  · omega

/-- Above TYPE the word has the bit of its action only. -/
theorem bit_fwWordOf {b i : Nat} (hb : 61 ≤ b ∧ b < 64) (hi : 61 ≤ i ∧ i < 64) (ht : typ < 16) (hl : len < 2 ^ 26) :
    bit (fwWordOf b typ len) i = decide (i = b) := by
  have hpow : 2 ^ b = 2 ^ 60 * 2 ^ (b - 60) := by rw [← pow_add]; congr 1; omega
  have hsplit : 2 ^ b + typ * 2 ^ 56 + len = 2 ^ 60 * 2 ^ (b - 60) + (typ * 2 ^ 56 + len) := by rw [hpow, Nat.add_assoc]
  rw [bit, fwWordOf, BitVec.getLsbD_ofNat, hsplit, Nat.testBit_two_pow_mul_add _ (by omega), if_neg (by omega),
    Nat.testBit_two_pow, decide_eq_true hi.2, Bool.true_and, decide_eq_decide]
  omega

theorem Dev.fwWord_eq (b : Nat) : d.fwWord b = fwWordOf b (d.f pgWHL WHL_FWCTL_TYPE) (d.f pgWHL WHL_FWCTL_LEN) := rfl

/-- A write of the owner's of WHL_FWCTL with one action: TYPE and LEN are stored and the action has its effect. -/
theorem Dev.fwWrite_eq (fu : Fuses) {b : Nat} (hup : d.hostUp port = true) (ho : d.owns port = true) (hfz : d.frozen = false)
    (hb : 61 ≤ b ∧ b < 64) (ht : typ < 4) (hl : len < 2 ^ 26) : d.fwWrite fu port (fwWordOf b typ len) =
      if b = 61 then (d.fwFields typ len).fwDrop
      else if b = 63 then (d.fwFields typ len).fwMeasure fu
      else (d.fwFields typ len).fwLoad fu := by
  have htyp := fwWordOf_type hb (by omega : typ < 16) hl
  have hlen := fwWordOf_len (typ := typ) hb hl
  have hbit : ∀ i, 61 ≤ i ∧ i < 64 → bit (fwWordOf b typ len) i = decide (i = b) := fun i hi =>
    bit_fwWordOf hb hi (by omega) hl
  obtain ⟨acts, hw, h63, h62, h61⟩ := Dev.hostWrite_fwctl (v := fwWordOf b typ len) hup ho hfz (by omega)
  rw [hbit _ (by decide)] at h63 h62 h61
  obtain ⟨hlo, hhi⟩ := hb
  simp only [Dev.fwWrite, Dev.onWrite, hw, htyp, hlen, h63, h62, h61, if_true, decide_eq_true_eq]
  interval_cases b
  · simp
  · simp
  · simp

/-! What the commands answer. -/

variable {s : State}

theorem Dev.obeys_iff : d.obeys = true ↔ d.stopped = false ∧ d.frozen = false := by simp [Dev.obeys]

/-- A command in the common shape has its effect on a panel that obeys. -/
theorem State.run_of_obeys {ok : Bool} (f : Fuses → Dev → Dev) (hs : s.dev.obeys = true) (hok : ok = true) :
    s.run ok f = .next { s with dev := f s.fuse s.dev } := by
  obtain ⟨hst, hfz⟩ := Dev.obeys_iff.mp hs
  rw [hok, State.run_obeys s f hst hfz]

theorem fwMeasure_answers (hs : s.dev.obeys = true) (ho : s.dev.owner port) (ht : typ < 4) (hl : len < 2 ^ 26) :
    Answers (.fwMeasure port typ len) s ((s.dev.fwFields typ len).fwMeasure s.fuse) := by
  obtain ⟨hp, hup, hown⟩ := ho
  show execFwMeasure port typ len s = _
  rw [execFwMeasure, State.run_of_obeys _ hs (by rw [decide_eq_true_eq]; omega), ← fwWordOf,
    Dev.fwWrite_eq _ hup hown (Dev.obeys_iff.mp hs).2 (by decide) ht hl]
  rfl

theorem fwLoad_answers (hs : s.dev.obeys = true) (ho : s.dev.owner port) (ht : s.dev.f pgWHL WHL_FWCTL_TYPE < 4) :
    ∃ typ len, Answers (.fwLoad port) s ((s.dev.fwFields typ len).fwLoad s.fuse) := by
  obtain ⟨hp, hup, hown⟩ := ho
  refine ⟨s.dev.f pgWHL WHL_FWCTL_TYPE, s.dev.f pgWHL WHL_FWCTL_LEN, ?_⟩
  show execFwLoad port s = _
  rw [execFwLoad, State.run_of_obeys _ hs (decide_eq_true hp), Dev.fwWord_eq,
    Dev.fwWrite_eq _ hup hown (Dev.obeys_iff.mp hs).2 (by decide) ht (fld_lt ..)]
  rfl

theorem fwDrop_answers (hs : s.dev.obeys = true) (ho : s.dev.owner port) (ht : s.dev.f pgWHL WHL_FWCTL_TYPE < 4) :
    ∃ typ len, Answers (.fwDrop port) s ((s.dev.fwFields typ len).fwDrop) := by
  obtain ⟨hp, hup, hown⟩ := ho
  refine ⟨s.dev.f pgWHL WHL_FWCTL_TYPE, s.dev.f pgWHL WHL_FWCTL_LEN, ?_⟩
  show execFwDrop port s = _
  rw [execFwDrop, State.run_of_obeys _ hs (decide_eq_true hp), Dev.fwWord_eq,
    Dev.fwWrite_eq _ hup hown (Dev.obeys_iff.mp hs).2 (by decide) ht (fld_lt ..)]
  rfl

/-- A write through the staging window of the owner's port: refused while an image is measured or loaded, and one that follows a
check starts a new image. -/
theorem fwStagingWrite_answers {off : Nat} {data : List Byte} (hs : s.dev.obeys = true) (ho : s.dev.owner port)
    (hlen : off + data.length ≤ FWBUF) : Answers (.fwStagingWrite port off data) s
      (if s.dev.f pgWHL WHL_FWSTAT_FSTATE = 1 ∨ s.dev.f pgWHL WHL_FWSTAT_FSTATE = 3 then s.dev
      else if s.dev.f pgWHL WHL_FWSTAT_FSTATE = 2 ∨ s.dev.f pgWHL WHL_FWSTAT_FSTATE = 5 then
        Dev.fwState { s.dev with mem := memWrite s.dev.mem (fwKey off) data } 0 0
      else { s.dev with mem := memWrite s.dev.mem (fwKey off) data }) := by
  obtain ⟨hp, hup, hown⟩ := ho
  show execFwStagingWrite port off data s = _
  rw [execFwStagingWrite, State.run_of_obeys _ hs (decide_eq_true ⟨hp, hlen⟩)]
  simp [hup, hown]

section
variable {off : Nat} {data : List Byte} (hs : s.dev.obeys = true) (ho : s.dev.owner port) (hlen : off + data.length ≤ FWBUF)
include hs ho hlen

/-- An image that is being measured or loaded takes no byte. -/
theorem fwStagingWrite_discarded (hst : s.dev.f pgWHL WHL_FWSTAT_FSTATE = 1 ∨ s.dev.f pgWHL WHL_FWSTAT_FSTATE = 3) :
    Answers (.fwStagingWrite port off data) s s.dev := by
  have hans := fwStagingWrite_answers hs ho hlen
  rwa [if_pos hst] at hans

theorem fwStagingWrite_stored (hst : s.dev.f pgWHL WHL_FWSTAT_FSTATE = 0 ∨ s.dev.f pgWHL WHL_FWSTAT_FSTATE = 4) :
    Answers (.fwStagingWrite port off data) s { s.dev with mem := memWrite s.dev.mem (fwKey off) data } := by
  have hans := fwStagingWrite_answers hs ho hlen
  rwa [if_neg (by omega), if_neg (by omega)] at hans

/-- A byte written over an image that has been checked starts a new one: EMPTY. -/
theorem fwStagingWrite_restarts (hst : s.dev.f pgWHL WHL_FWSTAT_FSTATE = 2 ∨ s.dev.f pgWHL WHL_FWSTAT_FSTATE = 5) :
    Answers (.fwStagingWrite port off data) s (Dev.fwState { s.dev with mem := memWrite s.dev.mem (fwKey off) data } 0 0) := by
  have hans := fwStagingWrite_answers hs ho hlen
  rwa [if_neg (by omega), if_pos hst] at hans

end

theorem fwMeasureDone_answers (hs : s.dev.obeys = true) (hst : s.dev.f pgWHL WHL_FWSTAT_FSTATE = 1) : Answers .fwMeasureDone s
    (if s.dev.boot.outcome = 0 then s.dev.fwState 2 0 else s.dev.fwState 5 (fwCause s.dev.boot.outcome)) := by
  show execFwMeasureDone s = _
  rw [execFwMeasureDone, State.run_of_obeys _ hs rfl, if_neg (not_not.mpr hst)]

theorem fwMeasureDone_idle (hs : s.dev.obeys = true) (hst : s.dev.f pgWHL WHL_FWSTAT_FSTATE ≠ 1) :
    Answers .fwMeasureDone s s.dev := by
  show execFwMeasureDone s = _
  rw [execFwMeasureDone, State.run_of_obeys _ hs rfl, if_pos hst]

theorem fwCause_lt {c : Nat} (h : c ≤ 3) : fwCause c < 16 := by
  rw [fwCause]
  split
  · decide
  · omega

/-- FSTATE and CAUSE are written and nothing else. -/
theorem Dev.fwState_spec {st c : Nat} (hst : st < 8) (hc : c < 16) : d.regsOnly (d.fwState st c) [pgWHL + 0x538] ∧
    (d.fwState st c).f pgWHL WHL_FWSTAT_FSTATE = st ∧ (d.fwState st c).f pgWHL WHL_FWSTAT_CAUSE = c :=
  ⟨(Dev.regsOnly.refl _).fwState _ _ (by decide), Dev.fwState_state _ hst, Dev.fwState_cause _ hc⟩

/-! MEASURE and DROP. -/

theorem Dev.fwMeasure_busy (fu : Fuses) (h : d.f pgWHL WHL_FWSTAT_FSTATE = 1 ∨ d.f pgWHL WHL_FWSTAT_FSTATE = 3) :
    d.fwMeasure fu = d.setf pgWHL WHL_FWSTAT_CAUSE 4 := if_pos h

/-- The image the staging buffer holds, as its header names it (R441). -/
def Dev.stagedImage (d : Dev) (typ len : Nat) : Image :=
  { typ := typ, svn := leNat (((d.imageBytes len).drop 8).take 4), keysel := leNat (((d.imageBytes len).drop 6).take 1),
    digest := Config.sha3 (d.imageBytes len) }

/-- A measurement takes the image's digest and checks, and appends one entry to the log. -/
theorem Dev.fwMeasure_spec {e : Dev} (fu : Fuses) (he : e = (d.fwFields typ len).fwMeasure fu) (ht : typ < 4) (hl : len < 2 ^ 26)
    (h : ¬ (d.f pgWHL WHL_FWSTAT_FSTATE = 1 ∨ d.f pgWHL WHL_FWSTAT_FSTATE = 3)) :
    e.f pgWHL WHL_FWSTAT_FSTATE = 1 ∧ e.f pgWHL WHL_FWSTAT_CAUSE = 0 ∧ (e.mem = d.mem ∧ e.net = d.net) ∧
      e.boot.staged = some (d.stagedImage typ len) ∧ e.boot.outcome = imageCheck fu typ len (d.imageBytes len) ∧
      e.sec.count = d.sec.count + 1 := by
  have hst : ¬ ((d.fwFields typ len).f pgWHL WHL_FWSTAT_FSTATE = 1 ∨ (d.fwFields typ len).f pgWHL WHL_FWSTAT_FSTATE = 3) := by
    rwa [Dev.fwFields_f (by decide)]
  have hregs : e.regs = ((d.fwFields typ len).fwState 1 0).regs := by
    rw [he, Dev.fwMeasure, if_neg hst]
    rfl
  refine ⟨?_, ?_, ?_⟩
  · rw [Dev.f_congr hregs, Dev.fwState_state _ (by decide)]
  · rw [Dev.f_congr hregs, Dev.fwState_cause _ (by decide)]
  · rw [he, Dev.fwMeasure, if_neg hst, Dev.fwFields_type (by omega), Dev.fwFields_len hl]
    exact ⟨⟨rfl, rfl⟩, rfl, rfl, rfl⟩

theorem Dev.fwDrop_busy (h : d.f pgWHL WHL_FWSTAT_FSTATE = 1 ∨ d.f pgWHL WHL_FWSTAT_FSTATE = 3) : d.fwDrop = d := if_pos h

/-- A drop empties the staging buffer and nothing below it. -/
theorem Dev.fwDrop_spec {e : Dev} (he : e = d.fwDrop)
    (h : ¬ (d.f pgWHL WHL_FWSTAT_FSTATE = 1 ∨ d.f pgWHL WHL_FWSTAT_FSTATE = 3)) :
    e.f pgWHL WHL_FWSTAT_FSTATE = 0 ∧ e.f pgWHL WHL_FWSTAT_CAUSE = 0 ∧ e.boot.staged = none ∧
      (∀ o, o < FWBUF → memByte e.mem (fwKey o) = 0) ∧ (∀ x, x < fwKey 0 → memByte e.mem x = memByte d.mem x) ∧ e.net = d.net := by
  rw [he, Dev.fwDrop, if_neg h]
  have hmem : ∀ x, memByte (d.mem.filter (fun c => c.1 < fwKey 0 ∨ fwKey FWBUF ≤ c.1)) x =
      if decide (x < fwKey 0 ∨ fwKey FWBUF ≤ x) = true then memByte d.mem x else 0 := fun x =>
    SMap.get_filter_key 0 d.mem (fun k => decide (k < fwKey 0 ∨ fwKey FWBUF ≤ k)) x
  refine ⟨Dev.fwState_state _ (by decide), Dev.fwState_cause _ (by decide), rfl, fun o ho => ?_, fun x hx => ?_, rfl⟩
  · refine (hmem _).trans (if_neg ?_)
    rw [decide_eq_true_eq, fwKey, fwKey, fwKey]
    omega
  · exact (hmem _).trans (if_pos (decide_eq_true (.inl hx)))

end Sys2Proof.Machine
end

section
/-!
Firmware loading (R411 to R413, R443): LOAD, the clusters' confirmations, and the copy into a cluster powered later.
-/

open Sys2Proof Sys2Proof.Machine

namespace Sys2Proof.Machine

variable {d : Dev} {port typ len p : Nat} {im : Image}

/-! An image is loaded. -/

/-- What the end of a load leaves, with the count of failures logged: the image is LOADED, and the event stands. -/
def Dev.imageLoaded (d : Dev) (im : Image) (failures : Nat) : Dev :=
  (((Dev.fwState { d with boot := { d.boot with loaded := SMap.ins d.boot.loaded im.typ im, confirm := [] } } 4 0).setf
    pgWHL WHL_FWSTAT_LOADEDM (d.f pgWHL WHL_FWSTAT_LOADEDM ||| 2 ^ im.typ)).logAppend 2 im.typ im.svn failures im.digest).ev
      pgWHL EV_FW_DONE

/-- The powered clusters still to confirm the image. -/
abbrev Dev.awaiting (d : Dev) : List Nat := d.boot.confirm.filter (fun q => (d.cl q).on)

theorem Dev.loadCheck_awaiting (h : d.awaiting ≠ []) : d.loadCheck = d := by
  unfold Dev.loadCheck
  split
  · rfl
  · exact if_pos (.inr h)

theorem Dev.loadCheck_done (him : d.boot.staged = some im) (hst : d.f pgWHL WHL_FWSTAT_FSTATE = 3)
    (h : d.awaiting = []) : ∃ n, d.loadCheck = d.imageLoaded im n := by
  unfold Dev.loadCheck
  rw [him]
  exact ⟨_, if_neg (not_or.mpr ⟨not_not.mpr hst, not_not.mpr h⟩)⟩

/-- The check at the end of a load either finds the image not loaded yet, and changes nothing, or ends the load. -/
theorem Dev.loadCheck_cases : d.loadCheck = d ∨ ∃ im n, d.loadCheck = d.imageLoaded im n := by
  by_cases h : d.f pgWHL WHL_FWSTAT_FSTATE = 3 ∧ d.awaiting = []
  · obtain ⟨hst, haw⟩ := h
    cases him : d.boot.staged with
    | none => exact .inl (by simp [Dev.loadCheck, him])
    | some im => exact .inr ⟨im, Dev.loadCheck_done him hst haw⟩
  · refine .inl ?_
    unfold Dev.loadCheck
    split
    · rfl
    · exact if_pos (by tauto)

section
variable (n : Nat)

theorem Dev.imageLoaded_state : (d.imageLoaded im n).f pgWHL WHL_FWSTAT_FSTATE = 4 := by
  rw [Dev.imageLoaded, Dev.f_ev_other _ _ _ _ _ _ (by decide)]
  show (Dev.setf _ pgWHL WHL_FWSTAT_LOADEDM _).f pgWHL WHL_FWSTAT_FSTATE = 4
  rw [Dev.f_setf_bits _ _ _ _ _ _ _ (by decide) (by decide), Dev.fwState_state _ (by decide)]

/-- The image's type is among those loaded. -/
theorem Dev.imageLoaded_loadedm (h : im.typ < 4) :
    ((d.imageLoaded im n).f pgWHL WHL_FWSTAT_LOADEDM).testBit im.typ = true := by
  rw [Dev.imageLoaded, Dev.f_ev_other _ _ _ _ _ _ (by decide)]
  show ((Dev.setf _ pgWHL WHL_FWSTAT_LOADEDM _).f pgWHL WHL_FWSTAT_LOADEDM).testBit im.typ = true
  rw [Dev.f_setf_same _ _ _ _ _ (by decide) (by decide), Nat.testBit_mod_two_pow, Nat.testBit_or, Nat.testBit_two_pow_self]
  simp [h]

theorem Dev.caused_imageLoaded_done : (d.imageLoaded im n).caused pgWHL EV_FW_DONE := Dev.caused_ev_same _ _ _ (by decide)

/-- Events of the WHL page that stand when a load ends go on standing. -/
theorem Dev.caused_imageLoaded {b : Nat} (h : d.caused pgWHL b) : (d.imageLoaded im n).caused pgWHL b := by
  refine Dev.caused_ev _ _ ?_
  show (Dev.setf _ pgWHL WHL_FWSTAT_LOADEDM _).caused pgWHL b
  rw [Dev.caused_setf _ _ _ _ _ (by decide), Dev.fwState, Dev.caused_setf _ _ _ _ _ (by decide),
    Dev.caused_setf _ _ _ _ _ (by decide)]
  exact h

@[simp] theorem Dev.imageLoaded_mem : (d.imageLoaded im n).mem = d.mem := rfl
@[simp] theorem Dev.imageLoaded_net : (d.imageLoaded im n).net = d.net := rfl
@[simp] theorem Dev.imageLoaded_clu : (d.imageLoaded im n).clu = d.clu := rfl
@[simp] theorem Dev.imageLoaded_count : (d.imageLoaded im n).sec.count = d.sec.count + 1 := rfl

/-- The end of a load leaves the registers outside the WHL page. -/
theorem Dev.imageLoaded_reg {a : Nat} (ha : 0x1000 ≤ a) : (d.imageLoaded im n).reg a = d.reg a := by
  have hset : ∀ (e : Dev) (x : Fld) (v : Nat), x.off = 0x538 → x.stride = 0 → (e.setf pgWHL x v).reg a = e.reg a :=
    fun e x v hx hs => Dev.reg_setf_other _ _ _ _ _ _ (by rw [hx, hs, pgWHL]; omega)
  rw [Dev.imageLoaded, Dev.reg_ev_other _ _ _ _ (by rw [pgWHL]; omega)]
  show (Dev.setf _ pgWHL WHL_FWSTAT_LOADEDM _).reg a = _
  rw [hset _ _ _ rfl rfl, Dev.fwState, hset _ _ _ rfl rfl, hset _ _ _ rfl rfl]
  rfl

end

/-! LOAD. -/

/-- Every partition is IDLE, ABORTED or STUCK and not suspended (R413). -/
abbrev Dev.settled (d : Dev) : Prop := ∀ j, j < Config.partitions →
  (d.pst j = P_IDLE ∨ d.pst j = P_ABORTED ∨ d.pst j = P_STUCK) ∧ d.fb (pgPART j) PART_STEP_SUSPD = false

theorem Dev.settled_iff_all : d.settled ↔ (List.range Config.partitions).all (fun j =>
    (d.pst j = P_IDLE || d.pst j = P_ABORTED || d.pst j = P_STUCK) && !d.fb (pgPART j) PART_STEP_SUSPD) = true := by
  simp [Dev.settled, List.all_eq_true, or_assoc]

theorem Dev.settled_fwFields : (d.fwFields typ len).settled ↔ d.settled := by
  have hpart : ∀ (x : Fld) j, x.stride = 0 → (d.fwFields typ len).f (pgPART j) x = d.f (pgPART j) x := fun x j hx =>
    Dev.fwFields_f (by rw [pgPART, pgWHL, hx]; omega)
  simp only [Dev.settled, Dev.pst, Dev.fb, hpart PART_CMT_STATE _ rfl, hpart PART_STEP_SUSPD _ rfl]

/-- LOAD is stopped by a partition that is not settled, after release (R413). -/
abbrev Dev.unsettled (d : Dev) : Prop := d.f pgWHL WHL_BOOT_BSTATE = 2 ∧ ¬ d.settled

theorem Dev.fwLoad_early (fu : Fuses) (h : d.f pgWHL WHL_BOOT_BSTEP < 8) : d.fwLoad fu = d.bootErr 1 := if_pos h

theorem Dev.fwLoad_unsettled (fu : Fuses) (h : ¬ d.f pgWHL WHL_BOOT_BSTEP < 8) (hu : d.unsettled) :
    d.fwLoad fu = d.setf pgWHL WHL_FWSTAT_CAUSE 4 := by
  rw [Dev.unsettled, Dev.settled_iff_all] at hu
  rw [Dev.fwLoad, if_neg h]
  exact if_pos (by simpa using hu)

/-- What a LOAD that begins sends: the image to each of the clusters, which it awaits, and FSTATE LOADING with no confirmation. -/
def Dev.fwSend (d : Dev) (im : Image) (ps : List Nat) : Dev :=
  ((forL ps (fun p (d : Dev) => d.updCl p (fun c => { c with fwGot := setDel c.fwGot im.typ, fwTries := 0 }))
    { d with boot := { d.boot with confirm := ps } }).fwState 3 0).setf pgWHL WHL_FWSTAT_CONFN 0

/-- The clusters an image is sent to: every powered one, or none for the whorl die's own image (TYPE 3). -/
abbrev Dev.fwTargets (d : Dev) (im : Image) : List Nat :=
  if im.typ < 3 then (List.range Config.clusters).filter (fun q => (d.cl q).on) else []

/-- The panel as a LOAD that is not stopped begins: a load that step 9 of bring-up asks for clears its error code. -/
def Dev.fwStarted (d : Dev) : Dev := if d.f pgWHL WHL_BOOT_BSTEP = 8 then d.bootErr 0 else d

@[simp] theorem Dev.fwStarted_mem : d.fwStarted.mem = d.mem := by rw [Dev.fwStarted]; split <;> rfl
@[simp] theorem Dev.fwStarted_net : d.fwStarted.net = d.net := by rw [Dev.fwStarted]; split <;> rfl
@[simp] theorem Dev.fwStarted_clu : d.fwStarted.clu = d.clu := by rw [Dev.fwStarted]; split <;> rfl
@[simp] theorem Dev.fwStarted_boot : d.fwStarted.boot = d.boot := by rw [Dev.fwStarted]; split <;> rfl
@[simp] theorem Dev.fwStarted_sec : d.fwStarted.sec = d.sec := by rw [Dev.fwStarted]; split <;> rfl

/-! What a LOAD sends. -/

/-- Changing the clusters of a list one by one changes each of them once, and no other. -/
theorem Dev.cl_forL_updCl (f : Clu → Clu) {ps : List Nat} (hps : ps.Nodup) (d : Dev) (q : Nat) :
    (forL ps (fun p d => d.updCl p f) d).cl q = if q ∈ ps then f (d.cl q) else d.cl q := by
  induction ps generalizing d with
  | nil => rfl
  | cons p t ih =>
    obtain ⟨hp, ht⟩ := List.nodup_cons.mp hps
    refine (ih ht (d.updCl p f)).trans ?_
    by_cases hq : p = q
    · subst hq
      simp [hp]
    · simp [Dev.cl_updCl_other d f hq, Ne.symm hq]

section
variable (ps : List Nat)

theorem Dev.fwSend_state : (d.fwSend im ps).f pgWHL WHL_FWSTAT_FSTATE = 3 := by
  rw [Dev.fwSend, Dev.f_setf_bits _ _ _ _ _ _ _ (by decide) (by decide), Dev.fwState_state _ (by decide)]

theorem Dev.fwSend_cause : (d.fwSend im ps).f pgWHL WHL_FWSTAT_CAUSE = 0 := by
  rw [Dev.fwSend, Dev.f_setf_bits _ _ _ _ _ _ _ (by decide) (by decide), Dev.fwState_cause _ (by decide)]

theorem Dev.fwSend_confn : (d.fwSend im ps).f pgWHL WHL_FWSTAT_CONFN = 0 := by
  rw [Dev.fwSend, Dev.f_setf_same _ _ _ _ _ (by decide) (by decide), Nat.zero_mod]

@[simp] theorem Dev.fwSend_mem : (d.fwSend im ps).mem = d.mem := forL_keeps Dev.mem (by intros; rfl) _ _
@[simp] theorem Dev.fwSend_net : (d.fwSend im ps).net = d.net := forL_keeps Dev.net (by intros; rfl) _ _
@[simp] theorem Dev.fwSend_sec : (d.fwSend im ps).sec = d.sec := forL_keeps Dev.sec (by intros; rfl) _ _
@[simp] theorem Dev.fwSend_boot : (d.fwSend im ps).boot = { d.boot with confirm := ps } :=
  forL_keeps Dev.boot (by intros; rfl) _ _

theorem Dev.fwSend_cl (hps : ps.Nodup) (q : Nat) : (d.fwSend im ps).cl q =
    if q ∈ ps then { d.cl q with fwGot := setDel (d.cl q).fwGot im.typ, fwTries := 0 } else d.cl q :=
  Dev.cl_forL_updCl _ hps _ q

/-- Sending an image switches no cluster on or off. -/
theorem Dev.fwSend_on (hps : ps.Nodup) (q : Nat) : ((d.fwSend im ps).cl q).on = (d.cl q).on := by
  rw [Dev.fwSend_cl _ hps]
  split
  · rfl
  · rfl

end

/-! What a LOAD comes to. -/

section
variable (fu : Fuses) (hstep : ¬ d.f pgWHL WHL_BOOT_BSTEP < 8) (hset : ¬ d.unsettled) (him : d.boot.staged = some im)
  (hst : d.f pgWHL WHL_FWSTAT_FSTATE = 2)
include hstep hset him hst

theorem Dev.fwLoad_noKey (hkey : fu.keyHash im.keysel = none) : d.fwLoad fu = d.fwState 5 1 := by
  rw [Dev.unsettled, Dev.settled_iff_all] at hset
  rw [Dev.fwLoad, if_neg hstep, if_neg (by simpa using hset)]
  simp [him, hst, hkey]

theorem Dev.fwLoad_send (hkey : fu.keyHash im.keysel ≠ none) :
    d.fwLoad fu = (d.fwStarted.fwSend im (d.fwStarted.fwTargets im)).loadCheck := by
  rw [Dev.unsettled, Dev.settled_iff_all] at hset
  rw [Dev.fwLoad, if_neg hstep, if_neg (by simpa using hset)]
  simp [him, hst, hkey, Dev.fwStarted, Dev.fwSend]

end

/-- The write of WHL_FWCTL that asks for a LOAD leaves what stops it. -/
theorem Dev.unsettled_fwFields : (d.fwFields typ len).unsettled ↔ d.unsettled := by
  rw [Dev.unsettled, Dev.unsettled, Dev.settled_fwFields, Dev.fwFields_f (by decide)]

section
variable {e : Dev} {fu : Fuses} (he : e = (d.fwFields typ len).fwLoad fu)
include he

/-- A LOAD before step 9 of bring-up is refused as a start out of order (R403). -/
theorem Dev.fwLoad_early_spec (hstep : d.f pgWHL WHL_BOOT_BSTEP < 8) : d.regsOnly e [pgWHL + 0x530, pgWHL + 0x500] ∧
    e.f pgWHL WHL_BOOT_ERRC = 1 ∧ e.f pgWHL WHL_FWSTAT_FSTATE = d.f pgWHL WHL_FWSTAT_FSTATE := by
  rw [he, Dev.fwLoad_early _ (by rwa [Dev.fwFields_f (by decide)])]
  have hregs := (Dev.regsOnly_fwFields (d := d) (typ := typ) (len := len)).mono (bs := [pgWHL + 0x530, pgWHL + 0x500]) (by simp)
  have honly : d.regsOnly ((d.fwFields typ len).bootErr 1) [pgWHL + 0x530, pgWHL + 0x500] := hregs.setf _ (by decide)
  exact ⟨honly, Dev.f_setf_same _ _ _ _ _ (by decide) (by decide), honly.f_eq (by decide)⟩

/-- After release a LOAD is refused with BUSY while a partition is not settled (R413). -/
theorem Dev.fwLoad_unsettled_spec (hstep : 8 ≤ d.f pgWHL WHL_BOOT_BSTEP) (hu : d.unsettled) :
    d.regsOnly e [pgWHL + 0x530, pgWHL + 0x538] ∧ e.f pgWHL WHL_FWSTAT_FSTATE = d.f pgWHL WHL_FWSTAT_FSTATE ∧
      e.f pgWHL WHL_FWSTAT_CAUSE = 4 := by
  refine Dev.fwFields_busy (he.trans (Dev.fwLoad_unsettled _ ?_ (Dev.unsettled_fwFields.mpr hu)))
  rw [Dev.fwFields_f (by decide)]
  omega

variable (hstep : 8 ≤ d.f pgWHL WHL_BOOT_BSTEP) (hset : ¬ d.unsettled) (him : d.boot.staged = some im)
  (hst : d.f pgWHL WHL_FWSTAT_FSTATE = 2)
include hstep hset him hst

/-- The key of the image has been revoked since: the image is refused. -/
theorem Dev.fwLoad_noKey_spec (hkey : fu.keyHash im.keysel = none) : d.regsOnly e [pgWHL + 0x530, pgWHL + 0x538] ∧
    e.f pgWHL WHL_FWSTAT_FSTATE = 5 ∧ e.f pgWHL WHL_FWSTAT_CAUSE = 1 := by
  have heq : (d.fwFields typ len).fwLoad fu = (d.fwFields typ len).fwState 5 1 := by
    refine Dev.fwLoad_noKey fu ?_ (mt Dev.unsettled_fwFields.mp hset) him ?_ hkey
    · rw [Dev.fwFields_f (by decide)]
      omega
    · rwa [Dev.fwFields_f (by decide)]
  rw [he, heq]
  exact ⟨(Dev.regsOnly_fwFields.mono (by simp)).fwState _ _ (by decide), Dev.fwState_state _ (by decide),
    Dev.fwState_cause _ (by decide)⟩

/-- A LOAD that nothing stops sends the image. -/
theorem Dev.fwLoad_sends (hkey : fu.keyHash im.keysel ≠ none) : e =
    ((d.fwFields typ len).fwStarted.fwSend im ((d.fwFields typ len).fwStarted.fwTargets im)).loadCheck := by
  refine he.trans (Dev.fwLoad_send fu ?_ (mt Dev.unsettled_fwFields.mp hset) him ?_ hkey)
  · rw [Dev.fwFields_f (by decide)]
    omega
  · rwa [Dev.fwFields_f (by decide)]

end

/-- An image for the clusters is sent to every powered one, and awaited (R411). -/
theorem Dev.fwLoad_clusters {e : Dev} {ons : List Nat}
    (hons : (List.range Config.clusters).filter (fun q => (d.cl q).on) = ons) (hne : ons ≠ []) (htyp : im.typ < 3)
    (he : e = (d.fwStarted.fwSend im (d.fwStarted.fwTargets im)).loadCheck) :
    e.f pgWHL WHL_FWSTAT_FSTATE = 3 ∧ e.f pgWHL WHL_FWSTAT_CAUSE = 0 ∧ e.boot.confirm = ons ∧ e.f pgWHL WHL_FWSTAT_CONFN = 0 ∧
      (e.mem = d.mem ∧ e.net = d.net) ∧
      ∀ p ∈ ons, (e.cl p).fwGot = setDel (d.cl p).fwGot im.typ ∧ (e.cl p).fwTries = 0 := by
  have hcl : ∀ q, d.fwStarted.cl q = d.cl q := fun q => by rw [Dev.cl, Dev.fwStarted_clu, Dev.cl]
  have htargets : d.fwStarted.fwTargets im = ons := by simp only [Dev.fwTargets, if_pos htyp, hcl, hons]
  have hnodup : ons.Nodup := hons ▸ List.nodup_range.filter _
  have hawait : (d.fwStarted.fwSend im ons).awaiting = ons := by
    simp only [Dev.awaiting, Dev.fwSend_boot, Dev.fwSend_on _ hnodup, hcl]
    rw [← hons, List.filter_filter]
    simp
  rw [htargets, Dev.loadCheck_awaiting (by rwa [hawait])] at he
  subst he
  refine ⟨Dev.fwSend_state _, Dev.fwSend_cause _, by simp, Dev.fwSend_confn _, by simp, fun p hp => ?_⟩
  rw [Dev.fwSend_cl _ hnodup, if_pos hp, hcl]
  exact ⟨rfl, rfl⟩

/-- The whorl die's own image is loaded at once. -/
theorem Dev.fwLoad_whorl {e : Dev} (him : d.boot.staged = some im) (htyp : im.typ = 3)
    (he : e = (d.fwStarted.fwSend im (d.fwStarted.fwTargets im)).loadCheck) :
    e.f pgWHL WHL_FWSTAT_FSTATE = 4 ∧ e.caused pgWHL EV_FW_DONE ∧ (e.f pgWHL WHL_FWSTAT_LOADEDM).testBit 3 = true ∧
      e.sec.count = d.sec.count + 1 ∧ e.clu = d.clu ∧ e.mem = d.mem ∧ e.net = d.net := by
  have htargets : d.fwStarted.fwTargets im = [] := if_neg (by omega)
  rw [htargets] at he
  obtain ⟨n, hn⟩ := Dev.loadCheck_done (d := d.fwStarted.fwSend im []) (im := im) (by simp [him]) (Dev.fwSend_state _) rfl
  rw [he, hn]
  refine ⟨Dev.imageLoaded_state n, Dev.caused_imageLoaded_done n, ?_, by simp, ?_, by simp, by simp⟩
  · exact htyp ▸ Dev.imageLoaded_loadedm n (by omega)
  · rw [Dev.imageLoaded_clu]
    exact Dev.fwStarted_clu

end Sys2Proof.Machine
end

section
/-!
What the clusters answer to a firmware load (R411, R412): a confirmation, a difference, and the copy made after power-up.
-/

open Sys2Proof Sys2Proof.Machine

namespace Sys2Proof.Machine

variable {d : Dev} {p : Nat} {im : Image}

/-! FW_CONFIRM. -/

/-- The cluster is no longer awaited. -/
def Dev.unawait (d : Dev) (p : Nat) : Dev := { d with boot := { d.boot with confirm := setDel d.boot.confirm p } }

/-- The panel with a cluster's confirmation of the image noted, before it is seen whether the load has ended. -/
def Dev.confirmed (d : Dev) (p : Nat) (im : Image) : Dev :=
  ((d.updCl p (fun c => { c with fwGot := setIns c.fwGot im.typ })).unawait p).addSat pgWHL WHL_FWSTAT_CONFN

section
variable {s : State}

section
variable (hs : s.dev.obeys = true) (hp : p < Config.clusters) (him : s.dev.boot.staged = some im)
  (hst : s.dev.f pgWHL WHL_FWSTAT_FSTATE = 3) (hmem : p ∈ s.dev.boot.confirm) (hon : (s.dev.cl p).on = true)
include hs hp him hst hmem hon

theorem fwConfirm_agrees : Answers (.fwConfirm p true) s (s.dev.confirmed p im).loadCheck := by
  show execFwConfirm p true s = _
  rw [execFwConfirm, State.run_of_obeys _ hs (decide_eq_true hp)]
  simp [him, hst, hmem, hon, Dev.confirmed, Dev.unawait]

/-- The first time a digest differs the image is sent once more. -/
theorem fwConfirm_differs (htry : (s.dev.cl p).fwTries = 0) :
    Answers (.fwConfirm p false) s (s.dev.updCl p (fun c => { c with fwTries := 1 })) := by
  show execFwConfirm p false s = _
  rw [execFwConfirm, State.run_of_obeys _ hs (decide_eq_true hp)]
  simp [him, hst, hmem, hon, htry]

/-- The second time the cluster is removed. -/
theorem fwConfirm_removes (htry : (s.dev.cl p).fwTries ≠ 0) :
    Answers (.fwConfirm p false) s ((s.dev.unawait p).fwRemove p).loadCheck := by
  show execFwConfirm p false s = _
  rw [execFwConfirm, State.run_of_obeys _ hs (decide_eq_true hp)]
  simp [him, hst, hmem, hon, htry, Dev.unawait]

end

/-- Outside a load a confirmation changes nothing. -/
theorem fwConfirm_idle (hs : s.dev.obeys = true) (hp : p < Config.clusters) (hst : s.dev.f pgWHL WHL_FWSTAT_FSTATE ≠ 3) (ok : Bool) :
    Answers (.fwConfirm p ok) s s.dev := by
  show execFwConfirm p ok s = _
  rw [execFwConfirm, State.run_of_obeys _ hs (decide_eq_true hp)]
  cases him : s.dev.boot.staged with
  | none => simp
  | some im => simp [hst]

/-- Without a generation that waits for firmware there is no commit to go on with. -/
theorem Dev.commitGo_none (h : d.gens.next = none) : d.commitGo = d := by simp [Dev.commitGo, h]

section
variable (hs : s.dev.obeys = true) (hp : p < Config.clusters) (hon : (s.dev.cl p).on = true) (hfw : s.dev.hasFw p = false)
  (hmem : p ∉ s.dev.boot.confirm)
include hs hp hon hfw hmem

/-- A cluster powered later confirms the images it has copied (R412). -/
theorem fwClusterCopyDone_copied (hnext : s.dev.gens.next = none) : Answers (.fwClusterCopyDone p true) s
    (s.dev.updCl p (fun c => { c with fwGot := (s.dev.boot.loaded.map (·.1)).foldl setIns c.fwGot, fwTries := 0 })) := by
  show execFwClusterCopyDone p true s = _
  rw [execFwClusterCopyDone, State.run_of_obeys _ hs (decide_eq_true hp)]
  simp [hon, hfw, hmem, Dev.commitGo_none, hnext]

/-- A copy that fails is made once more. -/
theorem fwClusterCopyDone_failed (htry : (s.dev.cl p).fwTries = 0) :
    Answers (.fwClusterCopyDone p false) s (s.dev.updCl p (fun c => { c with fwTries := 1 })) := by
  show execFwClusterCopyDone p false s = _
  rw [execFwClusterCopyDone, State.run_of_obeys _ hs (decide_eq_true hp)]
  simp [hon, hfw, hmem, htry]

end

theorem fwClusterCopyDone_idle (hs : s.dev.obeys = true) (hp : p < Config.clusters) (hfw : s.dev.hasFw p = true) (ok : Bool) :
    Answers (.fwClusterCopyDone p ok) s s.dev := by
  show execFwClusterCopyDone p ok s = _
  rw [execFwClusterCopyDone, State.run_of_obeys _ hs (decide_eq_true hp)]
  simp [hfw]

end

/-! A confirmation. -/

theorem Dev.confirmed_state : (d.confirmed p im).f pgWHL WHL_FWSTAT_FSTATE = d.f pgWHL WHL_FWSTAT_FSTATE :=
  (Dev.f_setf_bits _ _ _ _ _ _ _ (by decide) (by decide)).trans (Dev.f_congr rfl ..)

theorem Dev.counted_confirmed : d.counted (d.confirmed p im) pgWHL WHL_FWSTAT_CONFN 1 := by
  refine (Dev.f_setf_same _ _ _ _ _ (by decide) (by decide)).trans (Nat.mod_eq_of_lt ?_)
  exact Nat.lt_of_le_of_lt (Nat.min_le_right _ _) (by decide)

theorem Dev.confirmed_cl (q : Nat) :
    (d.confirmed p im).cl q = (d.updCl p (fun c => { c with fwGot := setIns c.fwGot im.typ })).cl q := rfl

theorem Dev.mem_confirmed_fwGot : im.typ ∈ ((d.confirmed p im).cl p).fwGot := by
  rw [Dev.confirmed_cl, Dev.cl_updCl_same]
  exact mem_setIns.mpr (.inl rfl)

/-- After a confirmation the powered clusters still awaited are those that were, without it. -/
theorem Dev.confirmed_awaiting : (d.confirmed p im).awaiting = (setDel d.boot.confirm p).filter (fun q => (d.cl q).on) := by
  have hon : ∀ q, ((d.confirmed p im).cl q).on = (d.cl q).on := by
    intro q
    rw [Dev.confirmed_cl]
    by_cases hq : p = q
    · rw [← hq, Dev.cl_updCl_same]
    · rw [Dev.cl_updCl_other _ _ hq]
  simp only [Dev.awaiting, hon]
  rfl

theorem Dev.confirmed_loadCheck_done (him : d.boot.staged = some im) (hst : d.f pgWHL WHL_FWSTAT_FSTATE = 3)
    (hwait : (setDel d.boot.confirm p).filter (fun q => (d.cl q).on) = []) :
    ∃ n, (d.confirmed p im).loadCheck = (d.confirmed p im).imageLoaded im n :=
  Dev.loadCheck_done him (Dev.confirmed_state.trans hst) (Dev.confirmed_awaiting.trans hwait)

/-! The removal of a cluster. -/

/-- An event of a page stands where it stood before changes that leave the page's EVT_CAUSE. -/
theorem Dev.caused_congr {e : Dev} {pg b : Nat} (h : e.reg (pg + 0x20) = d.reg (pg + 0x20)) : e.caused pg b ↔ d.caused pg b := by
  rw [Dev.caused, Dev.caused, h]

/-- A discrepancy leaves the registers outside the WHL page. -/
theorem Dev.reg_discrepancy (u : Nat) {a : Nat} (ha : 0x1000 ≤ a) : (d.discrepancy u).reg a = d.reg a := by
  rw [Dev.discrepancy, Dev.reg_ev_other _ _ _ _ (by rw [pgWHL]; omega), Dev.addSat,
    Dev.reg_setf_other _ _ _ _ _ _ (by simp only [pgWHL]; omega)]
  rfl

theorem Dev.caused_discrepancy (u : Nat) {b : Nat} (h : d.caused pgWHL b) : (d.discrepancy u).caused pgWHL b := by
  refine Dev.caused_ev _ _ ?_
  rw [Dev.addSat, Dev.caused_setf _ _ _ _ _ (by decide)]
  exact h

/-- Before release, and where the cluster holds no place of a partition, its removal disables it and raises EV_FW_FAIL (R411). -/
theorem Dev.fwRemove_spec (hb : d.f pgWHL WHL_BOOT_BSTATE ≠ 2) (hpart : d.partOf p = 15) (hlc : d.lcOf p = 0x3FF) :
    (d.fwRemove p).pstate p = PS_DISABLED ∧ (d.fwRemove p).caused pgWHL EV_FW_FAIL := by
  let f := (d.addSat pgWHL WHL_FWSTAT_FAILN).ev pgWHL EV_FW_FAIL
  have hf : ∀ a, a ≠ 0x538 → a ≠ 0x20 → f.reg a = d.reg a := fun a h538 h20 => by
    rw [Dev.reg_ev_other _ _ _ _ (by simpa using h20.symm), Dev.addSat, Dev.reg_setf_other _ _ _ _ _ _ (by simpa using h538.symm)]
  have hclu : f.reg (pgCLU p + 0x80) = d.reg (pgCLU p + 0x80) := hf _ (by rw [pgCLU]; omega) (by rw [pgCLU]; omega)
  have hb' : f.f pgWHL WHL_BOOT_BSTATE ≠ 2 := by rwa [Dev.f, hf _ (by decide) (by decide)]
  have hpart' : f.partOf p = 15 := by
    rw [Dev.partOf, Dev.f, ← hpart, Dev.partOf, Dev.f]
    exact congrArg (fld · _ _) hclu
  have hlc' : f.lcOf p = 0x3FF := by
    rw [Dev.lcOf, Dev.f, ← hlc, Dev.lcOf, Dev.f]
    exact congrArg (fld · _ _) hclu
  have heq : d.fwRemove p = ((f.retireCluster p).setf (pgCLU p) CLU_STATE_PSTATE PS_DISABLED).discrepancy (unitNo U_CLUSTER p) :=
    if_neg hb'
  rw [heq]
  constructor
  · rw [Dev.pstate, Dev.f, Dev.reg_discrepancy _ (by rw [pgCLU]; omega)]
    exact Dev.f_setf_same _ _ _ _ _ (by decide) (by decide)
  · refine Dev.caused_discrepancy _ ?_
    have hoff : offPage p (pgWHL + 0x20) := offPage_whl p (by decide)
    rw [Dev.caused_congr (Dev.reg_setf_offPage _ _ _ hoff (by decide)),
      Dev.caused_congr (Dev.reg_retireCluster _ hoff hpart' hlc')]
    exact Dev.caused_ev_same _ _ _ (by decide)

/-- Whether or not a load ends, the state of a cluster is as it was. -/
theorem Dev.pstate_loadCheck : d.loadCheck.pstate p = d.pstate p := by
  obtain h | ⟨im, n, h⟩ := d.loadCheck_cases
  · rw [h]
  · rw [h, Dev.pstate, Dev.f, Dev.imageLoaded_reg _ (by rw [pgCLU]; omega)]
    rfl

/-- Whether or not a load ends, the events of the WHL page that stand go on standing. -/
theorem Dev.caused_loadCheck {b : Nat} (hb : d.caused pgWHL b) : d.loadCheck.caused pgWHL b := by
  obtain h | ⟨im, n, h⟩ := d.loadCheck_cases
  · rwa [h]
  · rw [h]
    exact Dev.caused_imageLoaded n hb

/-! The copy. -/

/-- A cluster that confirms every image loaded has the firmware it needs. -/
theorem Dev.hasFw_of_copied {f : Clu → Clu} (h : ∀ c, (f c).fwGot = (d.boot.loaded.map (·.1)).foldl setIns c.fwGot) :
    (d.updCl p f).hasFw p = true := by
  simp only [Dev.hasFw, List.all_eq_true, Bool.or_eq_true, Bool.not_eq_true', List.contains_iff_mem, Dev.cl_updCl_same, h]
  intro t _
  rw [mem_foldl_setIns, Dev.updCl_boot]
  cases hany : d.boot.loaded.any (fun x => decide (x.1 = t)) with
  | false => exact .inl rfl
  | true =>
    obtain ⟨x, hx, ht⟩ := List.any_eq_true.mp hany
    exact .inr (.inl (List.mem_map.mpr ⟨x, hx, of_decide_eq_true ht⟩))

end Sys2Proof.Machine
end

section
/-!
The fuse map (R406 to R408): an override and an addition, both under presence (R449).
-/

open Sys2Proof Sys2Proof.Machine

namespace Sys2Proof.Machine

variable {d : Dev} {port k i : Nat}

/-! A write of WHL_FUSECMD. -/

theorem Dev.hostWrite_fusecmd_eq (v : Word) (hup : d.hostUp port = true) (hfz : d.frozen = false) :
    d.hostWrite port (pgWHL + 0x520) v = d.writeFields port (pgWHL + 0x520) WHL_FUSECMD v :=
  Dev.hostWrite_whl (o := 0x520) (by decide) (by decide) (by decide) rfl (by decide) hup (.inl hfz)
    (by simp [Dev.shut, WHL_FUSECMD]) rfl

/-- RESULT of WHL_FUSECMD. -/
def Dev.fuseResult (d : Dev) (st : Nat) : Dev := d.setf pgWHL WHL_FUSECMD_RESULT st

theorem Dev.fuseResult_result {st : Nat} (h : st < 16) : (d.fuseResult st).f pgWHL WHL_FUSECMD_RESULT = st :=
  (Dev.f_setf_same _ _ _ _ _ (by decide) (by decide)).trans (Nat.mod_eq_of_lt h)

/-- Only RESULT is written, and it reads DENIED. -/
theorem Dev.fuseDenied : d.regsOnly (d.fuseResult ST_DENIED) [pgWHL + 0x520] ∧
    (d.fuseResult ST_DENIED).f pgWHL WHL_FUSECMD_RESULT = ST_DENIED :=
  ⟨(Dev.regsOnly.refl _).setf _ (by decide), Dev.fuseResult_result (by decide)⟩

/-- The word asks for one action: OVR or ADD. -/
abbrev oneFuseAction (v : Word) : Prop := bit v 0 = true ∧ bit v 1 = false ∨ bit v 0 = false ∧ bit v 1 = true

/-- Under presence the action is taken, and no register is written. -/
theorem Dev.hostWrite_fusecmd {v : Word} (hv : oneFuseAction v) (hup : d.hostUp port = true) (hfz : d.frozen = false)
    (hp : d.sec.presence = true) : ∃ acts,
      d.hostWrite port (pgWHL + 0x520) v = ⟨d, acts, true⟩ ∧ bit acts 0 = bit v 0 ∧ bit acts 1 = bit v 1 := by
  rw [Dev.hostWrite_fusecmd_eq _ hup hfz]
  have h0 := fld_eq_zero_iff_bit v 0
  have h1 := fld_eq_zero_iff_bit v 1
  rcases hv with ⟨hb0, hb1⟩ | ⟨hb0, hb1⟩
  · simp [Dev.writeFields, WHL_FUSECMD, Wr.none, hp, h0, h1, hb0, hb1, bit_setFld_fld_same, bit_setFld_other]
  · simp [Dev.writeFields, WHL_FUSECMD, Wr.none, hp, h0, h1, hb0, hb1, bit_setFld_fld_same, bit_setFld_other]

/-- Without presence the action is not taken, and its refusal is an event (R449). -/
theorem Dev.hostWrite_fusecmd_refused {v : Word} (hv : oneFuseAction v) (hup : d.hostUp port = true) (hfz : d.frozen = false)
    (hp : d.sec.presence = false) : ∃ took,
      d.hostWrite port (pgWHL + 0x520) v = ⟨(d.ev pgWHL EV_PRES_DENIED).fuseResult ST_DENIED, 0, took⟩ := by
  rw [Dev.hostWrite_fusecmd_eq _ hup hfz]
  have h0 := fld_eq_zero_iff_bit v 0
  have h1 := fld_eq_zero_iff_bit v 1
  have hdeny (e : Dev) : e.deny (pageOf 1312).1 1312 (pageOf 1312).2.2 = e.fuseResult ST_DENIED := by
    rw [show pageOf 1312 = (.whl, 0, 0x520) by decide]
    rfl
  rcases hv with ⟨hb0, hb1⟩ | ⟨hb0, hb1⟩
  · simp [Dev.writeFields, WHL_FUSECMD, Wr.none, hp, h0, h1, hb0, hb1, hdeny]
  · simp [Dev.writeFields, WHL_FUSECMD, Wr.none, hp, h0, h1, hb0, hb1, hdeny]

/-! What the write comes to. -/

section
variable (fu : Fuses) (hup : d.hostUp port = true) (hfz : d.frozen = false)
include hup hfz

/-- Without presence neither action has an effect. -/
theorem Dev.fuseWrite_refused {v : Word} (hv : oneFuseAction v) (hp : d.sec.presence = false) :
    d.fuseWrite fu port v = (fu, (d.ev pgWHL EV_PRES_DENIED).fuseResult ST_DENIED) := by
  obtain ⟨took, hw⟩ := Dev.hostWrite_fusecmd_refused hv hup hfz hp
  simp [Dev.fuseWrite, hw]

variable (hp : d.sec.presence = true)
include hp

/-- WHL_FUSESEL names no unit: the action is refused. -/
theorem Dev.fuseWrite_none {v : Word} (hv : oneFuseAction v) (hsel : d.fuseSel = none) :
    d.fuseWrite fu port v = (fu, d.fuseResult ST_DENIED) := by
  obtain ⟨acts, hw, h0, h1⟩ := Dev.hostWrite_fusecmd hv hup hfz hp
  rcases hv with ⟨hb0, hb1⟩ | ⟨hb0, hb1⟩
  · simp [Dev.fuseWrite, hw, h0, h1, hb0, hb1, hsel, Dev.fuseResult]
  · simp [Dev.fuseWrite, hw, h0, h1, hb0, hb1, hsel, Dev.fuseResult]

/-- An override in time is noted and logged. -/
theorem Dev.fuseWrite_ovr {v : Word} (hb0 : bit v 0 = true) (hb1 : bit v 1 = false) (hsel : d.fuseSel = some (k, i))
    (htime : d.ovrInTime k = true) : d.fuseWrite fu port v =
      (fu, (Dev.rwpLog { d with boot := { d.boot with ovr := setIns d.boot.ovr (unitNo k i) } } 0x520 v).fuseResult ST_OK) := by
  obtain ⟨acts, hw, h0, h1⟩ := Dev.hostWrite_fusecmd (.inl ⟨hb0, hb1⟩) hup hfz hp
  simp [Dev.fuseWrite, hw, h0, h1, hb0, hb1, hsel, htime, Dev.fuseResult]

/-- An override that comes after the unit's test began is refused. -/
theorem Dev.fuseWrite_late {v : Word} (hb0 : bit v 0 = true) (hb1 : bit v 1 = false) (hsel : d.fuseSel = some (k, i))
    (htime : d.ovrInTime k = false) : d.fuseWrite fu port v = (fu, d.fuseResult ST_DENIED) := by
  obtain ⟨acts, hw, h0, h1⟩ := Dev.hostWrite_fusecmd (.inl ⟨hb0, hb1⟩) hup hfz hp
  simp [Dev.fuseWrite, hw, h0, h1, hb0, hb1, hsel, htime, Dev.fuseResult]

/-- An addition is blown and logged. -/
theorem Dev.fuseWrite_add {v : Word} (hb0 : bit v 0 = false) (hb1 : bit v 1 = true) (hsel : d.fuseSel = some (k, i)) :
    d.fuseWrite fu port v =
      ({ fu with bad := setIns fu.bad (unitNo k i) }, (d.rwpLog 0x520 v).fuseResult ST_OK) := by
  obtain ⟨acts, hw, h0, h1⟩ := Dev.hostWrite_fusecmd (.inr ⟨hb0, hb1⟩) hup hfz hp
  simp [Dev.fuseWrite, hw, h0, h1, hb0, hb1, hsel, Dev.fuseResult]

end

/-- What a refusal for want of presence leaves. -/
theorem Dev.fuseRefused {e : Dev} (he : e = (d.ev pgWHL EV_PRES_DENIED).fuseResult ST_DENIED) :
    d.regsOnly e [pgWHL + 0x520, pgWHL + 0x20] ∧ e.f pgWHL WHL_FUSECMD_RESULT = ST_DENIED ∧ e.caused pgWHL EV_PRES_DENIED := by
  rw [he]
  refine ⟨((Dev.regsOnly.refl _).ev _ (by decide)).setf _ (by decide), Dev.fuseResult_result (by decide), ?_⟩
  exact (Dev.caused_setf _ _ _ _ _ (by decide)).mpr (Dev.caused_ev_same _ _ _ (by decide))

/-! The commands. -/

variable {s : State}

theorem fuseOvr_answers {e : Dev} (hs : s.dev.obeys = true) (hp : port < 2) (he : s.dev.fuseWrite s.fuse port 1 = (s.fuse, e)) :
    Answers (.fuseOvr port) s e := by
  obtain ⟨hst, hfz⟩ := Dev.obeys_iff.mp hs
  show execFuseOvr port s = _
  rw [execFuseOvr, decide_eq_true hp, State.runAll_obeys s _ hst hfz, he]

theorem fuseAdd_blows {fu : Fuses} {e : Dev} (hs : s.dev.obeys = true) (hp : port < 2)
    (he : s.dev.fuseWrite s.fuse port 2 = (fu, e)) : exec (.fuseAdd port) s = .next { s with fuse := fu, dev := e } := by
  obtain ⟨hst, hfz⟩ := Dev.obeys_iff.mp hs
  show execFuseAdd port s = _
  rw [execFuseAdd, decide_eq_true hp, State.runAll_obeys s _ hst hfz, he]

theorem fuseAdd_answers {e : Dev} (hs : s.dev.obeys = true) (hp : port < 2) (he : s.dev.fuseWrite s.fuse port 2 = (s.fuse, e)) :
    Answers (.fuseAdd port) s e := fuseAdd_blows hs hp he

end Sys2Proof.Machine
end

section
/-!
The firmware and fuse commands together.
-/

open Sys2Proof Sys2Proof.Machine

/-- Settles O52: a write of WHL_FWCTL or WHL_FUSECMD is taken with its action, or refused for want of presence, and what each
action comes to is a lemma of its own; the removal of a cluster turns on a reset writing registers of the cluster's own page only
(`Dev.reg_clusterReset`). That a command which does not apply changes nothing is log entry 12; that a selection of no unit is
DENIED and an accepted action makes one entry of the measurement log is entry 100; that the IMAGE entry is made at MEASURE and a
cluster that fails twice before release is DISABLED is entry 101. -/
theorem firmwareCommandsComplete : Obligations.FirmwareCommandsComplete := by
  constructor
  · intro s port p off typ len data im hs hp hbuf ht hl d st fst cause b c ons rest wait settled quiet
    refine ⟨fun ho => ?_, fun hst hout => ?_, fun hst hlo hhi => ?_, fwMeasureDone_idle hs, fun him hst hmem hon => ?_,
      fun hst => fwConfirm_idle hs hp hst true, fun hon hfw hmem hnext => ?_, fun hfw => fwClusterCopyDone_idle hs hp hfw true⟩
    · refine ⟨fwStagingWrite_stored hs ho hbuf, fun hst => ?_, fwStagingWrite_discarded hs ho hbuf, fun h1 h3 => ?_, fun hst => ?_,
        fun htyp => ?_⟩
      · exact ⟨_, fwStagingWrite_restarts hs ho hbuf hst, Dev.fwState_state _ (by decide), Dev.fwState_cause _ (by decide), rfl⟩
      · exact ⟨_, fwMeasure_answers hs ho ht hl, Dev.fwMeasure_spec _ rfl ht hl (not_or.mpr ⟨h1, h3⟩)⟩
      · have hbusy := Dev.fwMeasure_busy (d := d.fwFields typ len) s.fuse (by rwa [Dev.fwFields_f (by decide)])
        exact ⟨_, fwMeasure_answers hs ho ht hl, Dev.fwFields_busy hbusy⟩
      · obtain ⟨t, l, hload⟩ := fwLoad_answers hs ho htyp
        obtain ⟨t', l', hdrop⟩ := fwDrop_answers hs ho htyp
        have hstate : (d.fwFields t' l').f pgWHL WHL_FWSTAT_FSTATE = st := Dev.fwFields_f (by decide)
        refine ⟨fun hstep => ⟨_, hload, Dev.fwLoad_early_spec rfl hstep⟩, fun hstep hbst hset => ?_, fun hstep hset him hst => ?_,
          fun h1 h3 => ?_, fun hst => ?_⟩
        · obtain ⟨honly, hstate, hcause⟩ := Dev.fwLoad_unsettled_spec (d := d) (fu := s.fuse) rfl hstep ⟨hbst, hset⟩
          exact ⟨_, hload, honly, hcause, hstate⟩
        · have hready : ¬ d.unsettled := fun ⟨hb, hn⟩ => hset.elim (absurd hb) hn
          refine ⟨fun hkey => ⟨_, hload, Dev.fwLoad_noKey_spec rfl hstep hready him hst hkey⟩, fun hkey htim hne => ?_,
            fun hkey htim => ?_⟩
          · have hons : (List.range Config.clusters).filter (fun q => ((d.fwFields t l).cl q).on) = ons := by
              simp only [Dev.fwFields_cl]
              rfl
            obtain ⟨hst3, hcause, hconf, hconfn, hquiet, hcl⟩ :=
              Dev.fwLoad_clusters hons hne htim (Dev.fwLoad_sends rfl hstep hready him hst hkey)
            exact ⟨_, hload, hst3, hcause, hconf, hconfn, hquiet,
              fun hon => hcl p (List.mem_filter.mpr ⟨List.mem_range.mpr hp, hon⟩)⟩
          · exact ⟨_, hload, Dev.fwLoad_whorl (d := d.fwFields t l) him htim (Dev.fwLoad_sends rfl hstep hready him hst hkey)⟩
        · exact ⟨_, hdrop, Dev.fwDrop_spec (d := d.fwFields t' l') rfl (hstate ▸ not_or.mpr ⟨h1, h3⟩)⟩
        · rw [Dev.fwDrop_busy (hstate ▸ hst)] at hdrop
          exact ⟨_, hdrop, Dev.regsOnly_fwFields, hstate⟩
    · have hans := fwMeasureDone_answers hs hst
      rw [if_pos hout] at hans
      exact ⟨_, hans, Dev.fwState_spec (by decide) (by decide)⟩
    · have hans := fwMeasureDone_answers hs hst
      rw [if_neg (Nat.one_le_iff_ne_zero.mp hlo)] at hans
      exact ⟨_, hans, Dev.fwState_spec (by decide) (fwCause_lt hhi)⟩
    · refine ⟨fun hwait => ?_, fun hwait => ?_, fun htry => ?_, fun htry hbst hpart hlc => ?_⟩
      · refine ⟨_, fwConfirm_agrees hs hp him hst hmem hon, ?_⟩
        rw [Dev.loadCheck_awaiting (by rwa [Dev.confirmed_awaiting])]
        exact ⟨Dev.confirmed_state.trans hst, rfl, Dev.mem_confirmed_fwGot, Dev.counted_confirmed, rfl, rfl⟩
      · obtain ⟨n, hdone⟩ := Dev.confirmed_loadCheck_done him hst hwait
        refine ⟨_, fwConfirm_agrees hs hp him hst hmem hon, ?_⟩
        rw [hdone]
        exact ⟨Dev.imageLoaded_state n, Dev.caused_imageLoaded_done n, Dev.mem_confirmed_fwGot (d := d), rfl, rfl⟩
      · exact ⟨_, fwConfirm_differs hs hp him hst hmem hon htry, Dev.cl_updCl_same .., rfl⟩
      · obtain ⟨hstate, hfail⟩ := Dev.fwRemove_spec (d := d.unawait p) (p := p) hbst hpart hlc
        exact ⟨_, fwConfirm_removes hs hp him hst hmem hon htry, Dev.pstate_loadCheck.trans hstate, Dev.caused_loadCheck hfail⟩
    · refine ⟨⟨_, fwClusterCopyDone_copied hs hp hon hfw hmem hnext, Dev.hasFw_of_copied fun _ => rfl, ?_, rfl⟩, fun htry => ?_⟩
      · rw [Dev.cl_updCl_same]
      · exact ⟨_, fwClusterCopyDone_failed hs hp hon hfw hmem htry, Dev.cl_updCl_same .., rfl⟩
  · intro s port k i hs hup d res only
    have hp := Dev.port_lt_of_hostUp hup
    have hfz := (Dev.obeys_iff.mp hs).2
    refine ⟨fun hpres hsel htime => ?_, fun hpres hsel htime => ?_, fun hpres hsel => ⟨?_, ?_⟩, fun hpres hsel => ?_,
      fun hpres c hc => ?_⟩
    · exact ⟨_, fuseOvr_answers hs hp (Dev.fuseWrite_ovr _ hup hfz hpres (by decide) (by decide) hsel htime),
        Dev.fuseResult_result (by decide), mem_setIns.mpr (.inl rfl), fun u hu => mem_setIns.mpr (.inr hu), rfl, rfl, rfl⟩
    · exact ⟨_, fuseOvr_answers hs hp (Dev.fuseWrite_late _ hup hfz hpres (by decide) (by decide) hsel htime), Dev.fuseDenied⟩
    · exact ⟨_, fuseOvr_answers hs hp (Dev.fuseWrite_none _ hup hfz hpres (by decide) hsel), Dev.fuseDenied⟩
    · exact ⟨_, fuseAdd_answers hs hp (Dev.fuseWrite_none _ hup hfz hpres (by decide) hsel), Dev.fuseDenied⟩
    · have hadd := Dev.fuseWrite_add s.fuse hup hfz hpres (v := 2) (by decide) (by decide) hsel
      exact ⟨_, fuseAdd_blows hs hp hadd, Dev.fuseResult_result (by decide), rfl, rfl, rfl, rfl⟩
    · simp only [List.mem_cons, List.not_mem_nil, or_false] at hc
      rcases hc with rfl | rfl
      · exact ⟨_, fuseOvr_answers hs hp (Dev.fuseWrite_refused _ hup hfz (by decide) hpres), Dev.fuseRefused rfl⟩
      · exact ⟨_, fuseAdd_answers hs hp (Dev.fuseWrite_refused _ hup hfz (by decide) hpres), Dev.fuseRefused rfl⟩

end
